-- ==== Sys2Proof/Word.lean ====
section
/-! DEFINITION. The plain number types of the C1240's model and the saturating addition every chapter uses. -/

set_option Elab.async false

namespace Sys2Proof

/-- One byte of a frame, a tag or a kind code. -/
abbrev Byte := BitVec 8

/-- An unsigned 32-bit quantity that wraps or is a name: clock values, references, the price version, pulses and
drop counts as they stand in a frame. -/
abbrev Word32 := BitVec 32

/-- Addition that takes its upper limit instead of passing it (00_scope.md, Conventions, Arithmetic). -/
def satAdd (limit a b : Nat) : Nat := min limit (a + b)

/-- The limit of tallies, money and account fields (R47, R175): 2⁴⁸−1. -/
def max48 : Nat := 281474976710655

/-- 2³²−1: the limit of own pulses (R47) and of one ink cost (R163). -/
def max32 : Nat := 4294967295

/-- 2⁶⁴−1: the limit of lifetime drawn (R90). -/
def max64 : Nat := 18446744073709551615

end Sys2Proof
end

