-- ==== Sys2Proof/Syntax.lean ====
section
/-! DEFINITION. The commands of the C1240: one constructor for each row of spec/opcode_table.json, with the bytes or
values each one carries. A request row stands for a good server link frame of that kind; its payload stands as
received, so that the request's own layout check (R194) belongs to its meaning. -/

set_option Elab.async false

namespace Sys2Proof

/-- The two serial links (09_the_server_link.md). -/
inductive Link where
  | server
  | engine
  deriving DecidableEq, Repr

/-- The drop counts of one channel in a report of printed ink (R93, R225). -/
structure Drops where
  small : Word32
  medium : Word32
  large : Word32
  deriving DecidableEq, Repr

/-- One patch of a STRIP_DONE as its bytes stand: L unsigned, a and b signed, and the valid flag byte (R225). -/
structure RawReading where
  L : BitVec 16
  a : BitVec 16
  b : BitVec 16
  valid : Byte
  deriving DecidableEq, Repr

/-- How a store write ended. `written`: the image reads back as written (R214). `failed imageKept`: it does not
(R215), and the memory then still holds the image before the write with an intact CRC (`true`) or an image that
fails its CRC (`false`); R220 names both. -/
inductive WriteResult where
  | written
  | failed (imageKept : Bool)
  deriving DecidableEq, Repr

/-- The commands: every row of the opcode table, in the table's order. -/
inductive Instr where
  /-- SUBMIT (R8). -/
  | submit (tag : Byte) (payload : List Byte)
  /-- AMEND (R9). -/
  | amend (tag : Byte) (payload : List Byte)
  /-- CANCEL (R11). -/
  | cancel (tag : Byte) (payload : List Byte)
  /-- RELEASE (R12). -/
  | release (tag : Byte) (payload : List Byte)
  /-- ORDER_QUERY (R13). -/
  | orderQuery (tag : Byte) (payload : List Byte)
  /-- ORDER_LIST (R14). -/
  | orderList (tag : Byte) (payload : List Byte)
  /-- PAUSE (R15). -/
  | pause (tag : Byte) (payload : List Byte)
  /-- RESUME (R15). -/
  | resume (tag : Byte) (payload : List Byte)
  /-- SET_CLOCK (R20). -/
  | setClock (tag : Byte) (payload : List Byte)
  /-- READ_CLOCK (R20). -/
  | readClock (tag : Byte) (payload : List Byte)
  /-- MEDIA_DEFINE (R27). -/
  | mediaDefine (tag : Byte) (payload : List Byte)
  /-- MEDIA_QUERY (R28). -/
  | mediaQuery (tag : Byte) (payload : List Byte)
  /-- ROLL_DECLARE (R31). -/
  | rollDeclare (tag : Byte) (payload : List Byte)
  /-- FLAW_MARK (R32). -/
  | flawMark (tag : Byte) (payload : List Byte)
  /-- FLAW_CLEAR (R32). -/
  | flawClear (tag : Byte) (payload : List Byte)
  /-- ROLL_QUERY (R33). -/
  | rollQuery (tag : Byte) (payload : List Byte)
  /-- TRIM (R43). -/
  | trim (tag : Byte) (payload : List Byte)
  /-- ATTEMPT_QUERY (R68). -/
  | attemptQuery (tag : Byte) (payload : List Byte)
  /-- ENGINE_RESTART (R86). -/
  | engineRestart (tag : Byte) (payload : List Byte)
  /-- AUTO_RECOVERY_SET (R85). -/
  | autoRecoverySet (tag : Byte) (payload : List Byte)
  /-- ENGINE_QUERY (R88). -/
  | engineQuery (tag : Byte) (payload : List Byte)
  /-- DROP_SIZES_SET (R92). -/
  | dropSizesSet (tag : Byte) (payload : List Byte)
  /-- CHANNEL_SET (R113). -/
  | channelSet (tag : Byte) (payload : List Byte)
  /-- CHANNEL_RESET (R109). -/
  | channelReset (tag : Byte) (payload : List Byte)
  /-- CLEAN_REQUEST (R111). -/
  | cleanRequest (tag : Byte) (payload : List Byte)
  /-- SUPPLY_QUERY (R114). -/
  | supplyQuery (tag : Byte) (payload : List Byte)
  /-- REFERENCE_SET (R119). -/
  | referenceSet (tag : Byte) (payload : List Byte)
  /-- COLOUR_LIMITS_SET (R120). -/
  | colourLimitsSet (tag : Byte) (payload : List Byte)
  /-- COLOUR_QUERY (R121). -/
  | colourQuery (tag : Byte) (payload : List Byte)
  /-- HISTORY_QUERY (R130). -/
  | historyQuery (tag : Byte) (payload : List Byte)
  /-- HISTORY_REARM (R129). -/
  | historyRearm (tag : Byte) (payload : List Byte)
  /-- CAPTURE_MODE_SET (R129). -/
  | captureModeSet (tag : Byte) (payload : List Byte)
  /-- COLOUR_RESUME (R135). -/
  | colourResume (tag : Byte) (payload : List Byte)
  /-- GAINS_SET (R143). -/
  | gainsSet (tag : Byte) (payload : List Byte)
  /-- CORRECTION_SET (R144). -/
  | correctionSet (tag : Byte) (payload : List Byte)
  /-- GAINS_QUERY (R145). -/
  | gainsQuery (tag : Byte) (payload : List Byte)
  /-- EDITION_OPEN (R149). -/
  | editionOpen (tag : Byte) (payload : List Byte)
  /-- EDITION_CLOSE (R155). -/
  | editionClose (tag : Byte) (payload : List Byte)
  /-- EDITION_REMOVE (R156). -/
  | editionRemove (tag : Byte) (payload : List Byte)
  /-- EDITION_QUERY (R157). -/
  | editionQuery (tag : Byte) (payload : List Byte)
  /-- PRICES_SET (R160). -/
  | pricesSet (tag : Byte) (payload : List Byte)
  /-- PRICES_QUERY (R161). -/
  | pricesQuery (tag : Byte) (payload : List Byte)
  /-- ACCOUNT_QUERY (R179). -/
  | accountQuery (tag : Byte) (payload : List Byte)
  /-- ACCOUNT_CLEAR (R180). -/
  | accountClear (tag : Byte) (payload : List Byte)
  /-- ACCOUNT_LOAD (R181). -/
  | accountLoad (tag : Byte) (payload : List Byte)
  /-- IDENTIFY (R197). -/
  | identify (tag : Byte) (payload : List Byte)
  /-- STATUS_QUERY (R198). -/
  | statusQuery (tag : Byte) (payload : List Byte)
  /-- NOTICE_ENABLE (R202). -/
  | noticeEnable (tag : Byte) (payload : List Byte)
  /-- NOTICE_CLEAR (R206). -/
  | noticeClear (tag : Byte) (payload : List Byte)
  /-- COUNTERS_QUERY (R210). -/
  | countersQuery (tag : Byte) (payload : List Byte)
  /-- STORE_COMMIT (R216). -/
  | storeCommit (tag : Byte) (payload : List Byte)
  /-- PART_RESET (R220). -/
  | partReset (tag : Byte) (payload : List Byte)
  /-- A good server link frame whose kind is no request of the server link (R193). -/
  | unknownKind (kind tag : Byte) (payload : List Byte)
  /-- The second CRC byte of the frame in the server link receiver arrives (R190). -/
  | serverFrameReceived (lastByte : Byte)
  /-- A byte arrives with its stop bit low (R187). -/
  | framingError (link : Link)
  /-- The second length byte arrives and makes the length field exceed 512 (R189). -/
  | lengthDiscard (link : Link) (secondByte : Byte)
  /-- The gap timer of a receiver exceeds its limit (R188). -/
  | interByteGapTimeout (link : Link)
  /-- The last CRC byte of the frame being sent on the server link has left (R196). -/
  | transmitComplete
  /-- A bad frame is taken from the engine link (R72 class 1). -/
  | engineBadFrame
  /-- Report of a FEED: its tag and measured pulses (R51, R225). -/
  | feedDone (tag : Byte) (pulses : Word32)
  /-- Report of a BAND: tag, measured pulses, drop counts (R52, R225). -/
  | bandDone (tag : Byte) (pulses : Word32) (drops : Vector Drops 12)
  /-- Report of a BAND stopped by the cover (R56, R225). -/
  | bandStopped (tag : Byte) (pulses : Word32) (drops : Vector Drops 12)
  /-- Report of a STRIP: tag, pulses, drop counts and sixteen readings (R55, R225). -/
  | stripDone (tag : Byte) (pulses : Word32) (drops : Vector Drops 12) (readings : Vector RawReading 16)
  /-- Report of a STRIP stopped by the cover (R56, R225). -/
  | stripStopped (tag : Byte) (pulses : Word32) (drops : Vector Drops 12)
  /-- Report of a CUT (R59). -/
  | cutDone (tag : Byte)
  /-- Report of a CLEAN (R112). -/
  | cleanDone (tag : Byte)
  /-- Report of a PROBE (R84). -/
  | probeAck (tag : Byte)
  /-- Report of an ENGINE_RESET (R87). -/
  | ready (tag : Byte)
  /-- Engine event with twelve sample bytes (R99). -/
  | levels (samples : Vector Byte 12)
  /-- Engine event for one bay; the bytes stand as received (R102, R225). -/
  | bayEvent (bay present : Byte) (serial : Vector Byte 12) (lot : Vector Byte 8) (fill : Word32)
  /-- Engine event with its present byte as received (R30). -/
  | rollEvent (present : Byte)
  /-- Engine event with its closed byte as received (R75). -/
  | coverEvent (closed : Byte)
  /-- The timeout of the outstanding engine command expires (R71). -/
  | engineCommandTimeout
  /-- One second has passed since the last PROBE was issued (R84). -/
  | probeInterval
  /-- One second of a running dwell has elapsed (R42). -/
  | dwellSecond
  /-- The last second of a running dwell has elapsed (R42). -/
  | dwellEnd
  /-- The last second before a channel's refill reaches 120 s has elapsed (R108). -/
  | refillTimeout (channel : Fin 12)
  /-- The one-second interval expires (R20). -/
  | clockTick
  /-- The store write in flight ends with its read-back (R214, R215). -/
  | storeWriteEnd (result : WriteResult)
  /-- The soft reset of step 5 of R220. -/
  | softReset
  /-- Power applied or RST_N released (R217); the operand says whether the nonvolatile memory kept its contents. -/
  | powerUp (memoryKept : Bool)
  /-- RST_N asserted or power lost (R221). -/
  | powerLoss
  /-- A byte with a good stop bit arrives at a receiver (R187). -/
  | byteReceived (link : Link) (byte : Byte)
  /-- One second of a channel's running refill timer has elapsed (R105). -/
  | refillElapsedSecond (channel : Fin 12)
  deriving DecidableEq, Repr

end Sys2Proof
end

