-- ==== Sys2Proof/Decode.lean ====
section
/-! DEFINITION. The opcode table of this block gives no row any bits (its "fields" are empty lists and it has no
"fixed" pattern), so no word spells a command. What a byte stream spells is decided by the receivers of R187 to R190
and by the kind codes of section 12.3 (Machine/Receive.lean). -/

set_option Elab.async false

namespace Sys2Proof

/-- The command a word spells by the table's bits: none, since no row gives bits. -/
def decodeTableWord (_nbits _w : Nat) : Option Instr := none

end Sys2Proof
end

