-- ==== Sys2Proof/Config.lean ====
section
/-! DEFINITION. What one part fixes, and the one value the manual leaves open to the model. -/

set_option Elab.async false

namespace Sys2Proof.Config

/-- The revision IDENTIFY reports: this manual describes revision 2 (R197). DEDUCED, log entry 13. -/
def revision : Nat := 2

/-- FREE VALUE (log entry 9). The whole seconds by which the outstanding command's elapsed-time timer (R69) has advanced
between its issue, or its last reading, and this reading by ENGINE_QUERY (R88): no row of the opcode table says how much
time passes between two commands. Nothing is known of this constant; the argument is the model's own read counter. -/
opaque secondsPassed : Nat → Nat

end Sys2Proof.Config
end

