-- ==== Sys2Proof/Machine/State.lean ====
section
/-! DEFINITION. Everything the manual gives the C1240 to hold, as plain data, and the state right after reset. One
structure per block of the overview (00_scope.md); a set of bits that a frame carries as one word stands as that word. -/

set_option Elab.async false

namespace Sys2Proof.Machine

/-- No command of this block ends in a fault: where the manual names no effect for an event in some state, the event
leaves the state as it is (log entry 4). -/
inductive Fault where
  deriving DecidableEq, Repr

/-- The refusals of exec. -/
inductive Refusal where
  /-- Raised by exec for a command that has no meaning yet, by its mnemonic; safe. No arm raises it. -/
  | notModelled (mnemonic : String)
  deriving DecidableEq, Repr

/-! ### Orders (chapter 1) -/

/-- Order states (section 1.1). -/
inductive OrderState where
  | queued | held | active | completed | failed | cancelled | stopped
  deriving DecidableEq, Repr

/-- The hold reasons of R16, one flag each; all clear in an order that is not HELD. -/
structure HoldReasons where
  noRoll : Bool := false
  mediaKind : Bool := false
  mediaWidth : Bool := false
  mediaShort : Bool := false
  supply : Bool := false
  colourSuspended : Bool := false
  deriving DecidableEq, Repr

/-- The outcomes of an attempt (R59, R61). -/
inductive AttemptOutcome where
  | accepted | rejected | failedSupply | failedMedia | failedEngine | interrupted | cancelled | stopped
  deriving DecidableEq, Repr

/-- The six figures of R182. -/
structure CostSummary where
  ownInk : Nat := 0
  ownMedia : Nat := 0
  ownCut : Nat := 0
  handling : Nat := 0
  ownTotal : Nat := 0
  spoiledTotal : Nat := 0
  deriving DecidableEq, Repr

/-- One order record (section 1.1, R1, R2); its slot is its place in the table. -/
structure Order where
  reference : Word32
  state : OrderState
  holds : HoldReasons := {}
  account : Fin 64
  mediaKind : Fin 8
  edition : Option Word32
  printLength : Nat
  printWidth : Nat
  channels : BitVec 12
  priority : Nat
  deadline : Option Word32
  ceiling : Option Nat
  stopAtCeiling : Bool
  check : Bool
  attemptsAllowed : Nat
  attemptsUsed : Nat := 0
  acceptedTime : Word32
  firstStart : Option Word32 := none
  endTime : Option Word32 := none
  late : Bool := false
  cancelRequested : Bool := false
  lastOutcome : Option AttemptOutcome := none
  editionNumber : Option Nat := none
  cost : CostSummary := {}
  lastStrip : Option (Nat × Nat) := none
  deriving DecidableEq, Repr

/-- The order table and scheduler (R1, R3, R15, R20). -/
structure OrderBlock where
  slots : Vector (Option Order) 40
  arrival : List (Fin 40)
  paused : Bool
  clock : Word32
  deriving DecidableEq, Repr

/-! ### Media (chapter 2) -/

/-- A defined media kind (R24); the effective band length follows from the one set (R25). -/
structure MediaKind where
  name : Vector Byte 8
  bandLength : Nat
  lead : Nat
  tail : Nat
  stripMargin : Nat
  dwell : Nat
  deriving DecidableEq, Repr

/-- A flaw zone in mm; inert when its end lies below its start (R29). -/
structure Zone where
  start : Nat
  stop : Nat
  deriving DecidableEq, Repr

/-- The retained fields of the roll record (R29); position in encoder pulses. -/
structure Roll where
  declared : Bool
  mediaKind : Fin 8
  width : Nat
  length : Nat
  position : Nat
  zones : Vector Zone 8
  clearOutPending : Bool
  deriving DecidableEq, Repr

/-- The media condition's kind, with the fields only SLIP has (R33). -/
inductive MediaEvent where
  | slip (long : Bool) (expected measured : Nat)
  | rollEnd
  | rollRemoved
  deriving DecidableEq, Repr

/-- The media condition (R33). -/
structure MediaCondition where
  event : MediaEvent
  clock : Word32
  order : Option Word32
  deriving DecidableEq, Repr

/-- The media unit (R24, R29, R33). -/
structure MediaUnit where
  kinds : Vector (Option MediaKind) 8
  present : Bool
  roll : Roll
  condition : Option MediaCondition
  deriving DecidableEq, Repr

/-! ### Ink (chapter 5) -/

inductive SupplyState where
  | supplied | low | reserve | dry | refilling | fault
  deriving DecidableEq, Repr

/-- A channel's first bay (2c) or second bay (2c+1). -/
inductive BaySide where
  | first | second
  deriving DecidableEq, Repr

inductive Level where
  | full | normal | low | empty
  deriving DecidableEq, Repr

/-- A channel record (R90). -/
structure Channel where
  supply : SupplyState
  active : BaySide
  refillBay : Option BaySide
  refillElapsed : Nat
  residue : Nat
  reserve : Nat
  lowThreshold : Nat
  lowRun : Nat
  emptyRun : Nat
  fullRun : Nat
  lastLevel : Option Level
  lifetime : Nat
  cleaning : Nat
  deriving DecidableEq, Repr

/-- A bay record (R91). -/
structure Bay where
  present : Bool
  serial : Vector Byte 12
  lot : Vector Byte 8
  fill : Nat
  remaining : Nat
  declaredEmpty : Bool
  unaccounted : Nat
  insertedAt : Word32
  deriving DecidableEq, Repr

/-- The drop-size table (R92), tenths of a picolitre. -/
structure DropSizes where
  small : Nat
  medium : Nat
  large : Nat
  deriving DecidableEq, Repr

/-- The ink supply unit (R90 to R92). -/
structure InkUnit where
  channels : Vector Channel 12
  bays : Vector Bay 24
  sizes : DropSizes
  deriving DecidableEq, Repr

/-! ### Colour and gain sets (chapters 6 and 7) -/

/-- Colour coordinates in hundredths (R117). -/
structure Lab where
  L : Int
  a : Int
  b : Int
  deriving DecidableEq, Repr

/-- A strip reading after clamping (R117). -/
structure Reading where
  lab : Lab
  valid : Bool
  deriving DecidableEq, Repr

/-- Verdict settings of a media kind (R118). -/
structure VerdictSettings where
  reference : Option (Vector Lab 16)
  maxTolerance : Nat
  meanTolerance : Nat
  driftLevel : Nat
  patches : BitVec 16
  deriving DecidableEq, Repr

/-- The verdict of a strip; `none` is the attempt's value before one (R47). -/
inductive Verdict where
  | none | pass | fail | unverified
  deriving DecidableEq, Repr

inductive CaptureMode where
  | continuous | stopOnFail | startOnFail
  deriving DecidableEq, Repr

inductive CaptureStatus where
  | recording | waiting | frozen
  deriving DecidableEq, Repr

/-- An entry of a history ring (R127); `passed` is its verdict, PASS or FAIL. -/
structure HistoryEntry where
  order : Word32
  attempt : Nat
  clock : Word32
  passed : Bool
  mean : Nat
  max : Nat
  worst : Nat
  deriving DecidableEq, Repr

/-- The volatile check state of a gain set (R127, R131, R132). -/
structure CheckState where
  ring : List HistoryEntry
  status : CaptureStatus
  failRun : Nat
  driftRun : Nat
  driftFlag : Bool
  deriving DecidableEq, Repr

/-- The retained part of a gain set in use (R138, R127, R134). -/
structure GainSet where
  gains : Vector Nat 12
  limitFlags : BitVec 12
  correction : Bool
  deadband : Nat
  rate : Nat
  maxStep : Nat
  captureMode : CaptureMode
  suspended : Bool
  deriving DecidableEq, Repr

/-- The colour check unit: verdict settings of the defined kinds, gain sets in use, and their check state. -/
structure ColourUnit where
  settings : Vector (Option VerdictSettings) 8
  gainSets : Vector (Option GainSet) 24
  checks : Vector CheckState 24
  deriving DecidableEq, Repr

inductive EditionState where
  | opened | fixed | complete | closed
  deriving DecidableEq, Repr

/-- An edition record (R146); slot, next number, suspended and gain set follow from its place, its count and its
gain set. -/
structure Edition where
  reference : Word32
  mediaKind : Fin 8
  size : Nat
  accepted : Nat
  state : EditionState
  readings : Option (Vector Lab 16)
  openedAt : Word32
  fixedAt : Option Word32
  deriving DecidableEq, Repr

/-! ### Costs (chapter 8) -/

/-- The prices of R159. -/
structure PriceTable where
  ink : Vector Nat 12
  media : Vector Nat 8
  cut : Nat
  handling : Nat
  deriving DecidableEq, Repr

/-- An account record (R175). -/
structure Account where
  ink : Nat := 0
  media : Nat := 0
  cut : Nat := 0
  handling : Nat := 0
  total : Nat := 0
  acceptedPrints : Nat := 0
  attemptsPosted : Nat := 0
  saturated : Bool := false
  deriving DecidableEq, Repr

/-- The cost unit (R159, R175). -/
structure CostUnit where
  prices : PriceTable
  version : Word32
  accounts : Vector Account 64
  deriving DecidableEq, Repr

/-! ### The attempt (chapter 3) -/

inductive Phase where
  | wasteFeed | wasteCut | lead | bands | strip | tail | dwell | cut
  deriving DecidableEq, Repr

inductive AttemptStep where
  | ready | outstanding | timing
  deriving DecidableEq, Repr

/-- The attempt record (R47). -/
structure Attempt where
  slot : Fin 40
  reference : Word32
  number : Nat
  phase : Phase
  step : AttemptStep
  start : Nat
  need : Nat
  waste : Nat
  bandLength : Nat
  lead : Nat
  tail : Nat
  stripMargin : Nat
  dwell : Nat
  check : Bool
  bandsTotal : Nat
  bandsDone : Nat
  gainSet : Fin 24
  gains : Vector Nat 12
  prices : PriceTable
  version : Word32
  tallies : Vector Nat 12
  tallySaturated : Bool
  ownPulses : Nat
  wastePulses : Nat
  cutsMade : Nat
  pendingOutcome : Option AttemptOutcome
  ceilingNoted : Bool
  verdict : Verdict
  readings : Option (Vector Reading 16)
  dwellRemaining : Nat
  deriving DecidableEq, Repr

/-! ### The engine link (chapter 4) -/

/-- The engine commands with their fields (R50, R69). -/
inductive EngineCommand where
  | feed (length : Nat)
  | band (order : Word32) (attempt index length : Nat) (gains : Vector Nat 12)
  | strip (order : Word32) (attempt margin : Nat) (gains : Vector Nat 12)
  | cut
  | clean (levels : Vector Nat 12)
  | probe
  | engineReset
  deriving DecidableEq, Repr

/-- Who issued the outstanding command. `ended`: that holder has ended while its command stays in the slot (R46, and
R84 for a PROBE outstanding when auto-recovery is turned off). -/
inductive Party where
  | startUp | attempt | clearOut | trim | cleaning | probing | ended
  deriving DecidableEq, Repr

/-- The outstanding command in the engine slot (R69, R70), with the frame as it was sent (R185, R224). `elapsed` is its
elapsed-time timer in whole seconds (R69, R88), 0 at its issue, as it stood when ENGINE_QUERY last read it (log entry
9). -/
structure Outstanding where
  command : EngineCommand
  tag : Byte
  party : Party
  frame : List Byte
  elapsed : Nat := 0
  deriving DecidableEq, Repr

inductive EngineState where
  | starting | ok | warn | limited | off
  deriving DecidableEq, Repr

/-- A clear-out or trim in progress (R44, R45): its feed length, whether its FEED is behind it, and the measured
pulses of a FEED_DONE taken. -/
structure Task where
  length : Nat
  feedOver : Bool
  pulses : Option Nat
  deriving DecidableEq, Repr

/-- The holder of the engine slot, which the printer activity names (R76), with what it carries along: the attempt
record, the task, the levels of the CLEAN, and whether a PROBE waits to be issued. -/
inductive Holder where
  | idle
  | attempt (a : Attempt)
  | clearOut (t : Task)
  | cleaning (levels : Vector Nat 12)
  | trim (t : Task)
  | probing (due : Bool)
  deriving DecidableEq, Repr

/-- Receiver states (section 9.2). -/
inductive RxPhase where
  | hunting | length | kind | tag | payload | crc
  deriving DecidableEq, Repr

/-- A link receiver: its state and the bytes held; its gap timer runs in every state but HUNTING (R187, R188). -/
structure Receiver where
  phase : RxPhase
  bytes : List Byte
  deriving DecidableEq, Repr

/-- The engine link counters (R209). -/
structure EngineCounters where
  crcErrors : Nat := 0
  timeouts : Nat := 0
  mismatches : Nat := 0
  lateReports : Nat := 0
  deriving DecidableEq, Repr

/-- The engine link controller (R69 to R89). -/
structure EngineLink where
  state : EngineState
  errorCount : Nat
  autoRecovery : Bool
  probeRun : Nat
  outstanding : Option Outstanding
  expiredTag : Option Byte
  nextTag : Byte
  coverClosed : Bool
  startUpFlag : Bool
  rollNoted : Bool
  coverNoted : Bool
  pendingTrim : Option Nat
  receiver : Receiver
  counters : EngineCounters
  deriving DecidableEq, Repr

/-! ### Notices and the server link (chapters 9 and 10) -/

/-- The notice categories, in the bit order of R222. -/
inductive Category where
  | order | late | supply | colour | media | cost | engine | system
  deriving DecidableEq, Repr

/-- The notice frame's place (section 10.3). -/
inductive NoticePlace where
  | none | awaiting | sending
  deriving DecidableEq, Repr

/-- The notice unit (R201 to R205); the sets stand as the category-set byte of R222. -/
structure NoticeUnit where
  pending : Byte
  enabled : Byte
  place : NoticePlace
  owed : Bool
  deriving DecidableEq, Repr

/-- A frame held by the server link: kind, tag and payload as received. -/
structure Frame where
  kind : Byte
  tag : Byte
  payload : List Byte
  deriving DecidableEq, Repr

/-- The status codes (R194, section 12.3). -/
inductive Status where
  | ok | adjusted | unknownKind | badLength | badField | notFound | duplicate | full | wrongState | busy
  | editionFull | noReference | overCeiling
  deriving DecidableEq, Repr

/-- A frame of the transmit queue (R196): a reply, fixed when its request was taken, or the NOTICE frame, whose
content is taken when its sending starts. -/
inductive TxFrame where
  | reply (tag kind : Byte) (status : Status) (fields : List Byte)
  | notice
  deriving DecidableEq, Repr

/-- The server link counters (R208). -/
structure ServerCounters where
  framesTaken : Nat := 0
  crcErrors : Nat := 0
  discards : Nat := 0
  overruns : Nat := 0
  deriving DecidableEq, Repr

/-- The server link controller (R187 to R196); `sending` is the whole frame going out, whose place in `tx` is the
head, or none while the transmitter is free. -/
structure ServerLink where
  receiver : Receiver
  holding : List Frame
  tx : List TxFrame
  sending : Option (List Byte)
  counters : ServerCounters
  deriving DecidableEq, Repr

/-! ### The retained store (chapter 11) -/

/-- The retained fields of a channel record (R212); a REFILLING state is held as DRY. -/
structure RetainedChannel where
  supply : SupplyState
  active : BaySide
  reserve : Nat
  lowThreshold : Nat
  lifetime : Nat
  deriving DecidableEq, Repr

/-- The retained set (R212): what one image holds. -/
structure Retained where
  kinds : Vector (Option MediaKind) 8
  roll : Roll
  settings : Vector (Option VerdictSettings) 8
  gainSets : Vector (Option GainSet) 24
  editions : Vector (Option Edition) 16
  prices : PriceTable
  version : Word32
  accounts : Vector Account 64
  bays : Vector Bay 24
  sizes : DropSizes
  channels : Vector RetainedChannel 12
  uncut : Bool
  autoRecovery : Bool
  deriving DecidableEq, Repr

/-- The nonvolatile memory: an intact image, or one that fails its CRC (R212, R217). -/
inductive Image where
  | intact (image : Retained)
  | lost
  deriving DecidableEq, Repr

inductive StoreEvent where
  | none | storeLost | storeFault
  deriving DecidableEq, Repr

/-- The retained store (section 11.2). `lastFailed`: the last write that ended failed, which R217 and R220 read at the
soft reset. -/
structure RetainedStore where
  image : Image
  dirty : Bool
  writing : Option Retained
  event : StoreEvent
  failedWrites : Nat
  lastWrite : Option Word32
  lastFailed : Bool
  deriving DecidableEq, Repr

/-- The part after an accepted PART_RESET (R220): whether its reply has been sent whole, and how many further write
attempts step 4 leaves. -/
structure Quiet where
  replySent : Bool
  writesLeft : Nat
  deriving DecidableEq, Repr

/-! ### The whole part -/

/-- The state of the part: the waiting commands, whether RST_N or missing power holds it in reset, the quiet time
before a soft reset, the blocks, the uncut marker (R65), and the model's own counter of free values read. -/
structure State where
  pending : List Instr
  held : Bool
  quiet : Option Quiet
  orders : OrderBlock
  holder : Holder
  uncut : Bool
  engine : EngineLink
  media : MediaUnit
  ink : InkUnit
  colour : ColourUnit
  editions : Vector (Option Edition) 16
  costs : CostUnit
  notices : NoticeUnit
  server : ServerLink
  store : RetainedStore
  freeReads : Nat
  deriving DecidableEq, Repr

/-! ### Reset values -/

/-- An inert zone: start 1, end 0 (R29, R31, R32). -/
def Zone.inert : Zone := { start := 1, stop := 0 }

/-- A receiver in HUNTING with no bytes held (R200). -/
def Receiver.idle : Receiver := { phase := .hunting, bytes := [] }

/-- The roll record's factory default (R29). -/
def Roll.factory : Roll :=
  { declared := false, mediaKind := 0, width := 300, length := 1000, position := 0,
    zones := Vector.replicate 8 Zone.inert, clearOutPending := false }

/-- A bay's factory default (R91). -/
def Bay.factory : Bay :=
  { present := false, serial := Vector.replicate 12 0, lot := Vector.replicate 8 0, fill := 0, remaining := 0,
    declaredEmpty := false, unaccounted := 0, insertedAt := 0 }

/-- The factory default of a channel's retained fields (R90). -/
def RetainedChannel.factory : RetainedChannel :=
  { supply := .dry, active := .first, reserve := 0, lowThreshold := 50000000, lifetime := 0 }

/-- Every price 0 (R159). -/
def PriceTable.zero : PriceTable :=
  { ink := Vector.replicate 12 0, media := Vector.replicate 8 0, cut := 0, handling := 0 }

/-- The factory defaults that replace a lost image, gathered in section 11.1. -/
def Retained.factory : Retained :=
  { kinds := Vector.replicate 8 none, roll := Roll.factory, settings := Vector.replicate 8 none,
    gainSets := Vector.replicate 24 none, editions := Vector.replicate 16 none, prices := PriceTable.zero,
    version := 0, accounts := Vector.replicate 64 {}, bays := Vector.replicate 24 Bay.factory,
    sizes := { small := 35, medium := 70, large := 140 }, channels := Vector.replicate 12 RetainedChannel.factory,
    uncut := false, autoRecovery := true }

/-- A channel record as R115 sets it at a reset: the loaded retained fields, and the volatile ones at 0 or absent. -/
def RetainedChannel.loaded (r : RetainedChannel) : Channel :=
  { supply := r.supply, active := r.active, refillBay := none, refillElapsed := 0, residue := 0,
    reserve := r.reserve, lowThreshold := r.lowThreshold, lowRun := 0, emptyRun := 0, fullRun := 0,
    lastLevel := none, lifetime := r.lifetime, cleaning := 0 }

/-- The starting status of a capture mode (R128). -/
def CaptureMode.startStatus : CaptureMode → CaptureStatus
  | .continuous => .recording
  | .stopOnFail => .recording
  | .startOnFail => .waiting

/-- The check state of a gain set after a rearm and a reset, for its capture mode (R137). -/
def CheckState.fresh (m : CaptureMode) : CheckState :=
  { ring := [], status := m.startStatus, failRun := 0, driftRun := 0, driftFlag := false }

/-- The reset values of R89, before the first ENGINE_RESET is issued. -/
def EngineLink.fresh (autoRecovery : Bool) : EngineLink :=
  { state := .starting, errorCount := 0, autoRecovery := autoRecovery, probeRun := 0, outstanding := none,
    expiredTag := none, nextTag := 0, coverClosed := false, startUpFlag := true, rollNoted := false,
    coverNoted := false, pendingTrim := none, receiver := Receiver.idle, counters := {} }

/-- Every volatile value at its reset value and the retained set `r` loaded: R23, R29, R47, R89, R115, R137, R158,
R184, R200, R207, R211, before steps 1 and 5 of R218. -/
def State.loaded (r : Retained) (image : Image) (pending : List Instr) (freeReads : Nat) : State :=
  { pending := pending, held := false, quiet := none,
    orders := { slots := Vector.replicate 40 none, arrival := [], paused := false, clock := 0 },
    holder := .idle, uncut := r.uncut, engine := EngineLink.fresh r.autoRecovery,
    media := { kinds := r.kinds, present := false, roll := r.roll, condition := none },
    ink := { channels := Vector.ofFn fun c => (r.channels[c]).loaded, bays := r.bays, sizes := r.sizes },
    colour := { settings := r.settings, gainSets := r.gainSets,
                checks := Vector.ofFn fun g =>
                  CheckState.fresh (((r.gainSets[g]).map (·.captureMode)).getD .continuous) },
    editions := r.editions,
    costs := { prices := r.prices, version := r.version, accounts := r.accounts },
    notices := { pending := 0, enabled := 255, place := .none, owed := false },
    server := { receiver := Receiver.idle, holding := [], tx := [], sending := none, counters := {} },
    store := { image := image, dirty := false, writing := none, event := .none, failedWrites := 0,
               lastWrite := none, lastFailed := false },
    freeReads := freeReads }

/-- The frame of the ENGINE_RESET with tag 0 that ends the start-up settling (R218 step 5), CRC included. -/
def firstResetFrame : List Byte := [0x5A, 0, 0, 0xA6, 0, 0x33, 0x18]

/-- The machine right after reset: the power-up sequence of R217 and R218 over an intact image that holds the factory
defaults (log entry 1), its step 5 included, so that ENGINE_RESET with tag 0 is outstanding (log entry 2). -/
def State.reset : State :=
  { State.loaded Retained.factory (.intact Retained.factory) [] 0 with
    engine := { EngineLink.fresh true with
      outstanding := some { command := .engineReset, tag := 0, party := .startUp, frame := firstResetFrame },
      nextTag := 1 } }

end Sys2Proof.Machine
end

