-- ==== Sys2Proof/Machine/Ops.lean ====
section
/-! DEFINITION. The ways the blocks are written (one per block), marking the retained store dirty, and the small
lookups that several chapters share. -/

set_option Elab.async false

namespace Sys2Proof.Machine

/-- The state with another `pending`. -/
def State.setPending (s : State) (x : List Instr) : State := { s with pending := x }

/-- The state with another `held`. -/
def State.setHeld (s : State) (x : Bool) : State := { s with held := x }

/-- The state with another `quiet`. -/
def State.setQuiet (s : State) (x : Option Quiet) : State := { s with quiet := x }

/-- The state with another `orders`. -/
def State.setOrders (s : State) (x : OrderBlock) : State := { s with orders := x }

/-- The state with another `holder`. -/
def State.setHolder (s : State) (x : Holder) : State := { s with holder := x }

/-- The state with another `uncut`. -/
def State.setUncut (s : State) (x : Bool) : State := { s with uncut := x }

/-- The state with another `engine`. -/
def State.setEngine (s : State) (x : EngineLink) : State := { s with engine := x }

/-- The state with another `media`. -/
def State.setMedia (s : State) (x : MediaUnit) : State := { s with media := x }

/-- The state with another `ink`. -/
def State.setInk (s : State) (x : InkUnit) : State := { s with ink := x }

/-- The state with another `colour`. -/
def State.setColour (s : State) (x : ColourUnit) : State := { s with colour := x }

/-- The state with another `editions`. -/
def State.setEditions (s : State) (x : Vector (Option Edition) 16) : State := { s with editions := x }

/-- The state with another `costs`. -/
def State.setCosts (s : State) (x : CostUnit) : State := { s with costs := x }

/-- The state with another `notices`. -/
def State.setNotices (s : State) (x : NoticeUnit) : State := { s with notices := x }

/-- The state with another `server`. -/
def State.setServer (s : State) (x : ServerLink) : State := { s with server := x }

/-- The state with another `store`. -/
def State.setStore (s : State) (x : RetainedStore) : State := { s with store := x }

/-- The state with another `freeReads`. -/
def State.setFreeReads (s : State) (x : Nat) : State := { s with freeReads := x }

/-- Marks the retained store dirty (R213). -/
def State.markDirty (s : State) : State := s.setStore { s.store with dirty := true }

/-- Marks the store dirty when `changed`: the form of every rule that says "when a value differs". -/
def State.markDirtyIf (changed : Bool) (s : State) : State := if changed then s.markDirty else s

/-- Writes the retained fields of the roll record; any change of them marks the store dirty (R29). -/
def State.setRoll (s : State) (r : Roll) : State :=
  (s.setMedia { s.media with roll := r }).markDirtyIf (decide (r ≠ s.media.roll))

/-- Writes the uncut marker; each change of it marks the store dirty (R65). -/
def State.writeUncut (s : State) (b : Bool) : State := (s.setUncut b).markDirtyIf (b != s.uncut)

/-- Writes one order record in its slot. -/
def State.setOrder (s : State) (i : Fin 40) (o : Order) : State :=
  s.setOrders { s.orders with slots := s.orders.slots.set i (some o) }

/-- Changes the order record in slot `i`, if there is one. -/
def State.modifyOrder (s : State) (i : Fin 40) (f : Order → Order) : State :=
  match s.orders.slots[i] with
  | some o => s.setOrder i (f o)
  | none => s

/-- The print-room clock (R20). -/
def State.clock (s : State) : Word32 := s.orders.clock

/-- The attempt record, which is the holder's when an attempt is in flight (R47, R76). -/
def State.attempt? (s : State) : Option Attempt :=
  match s.holder with
  | .attempt a => some a
  | _ => none

/-- The first index that satisfies `p`, lowest first. -/
def firstIndex {n : Nat} (p : Fin n → Bool) : Option (Fin n) := (List.finRange n).find? p

/-- The slot of the order record with this reference (R1). -/
def State.findOrder (s : State) (ref : Word32) : Option (Fin 40) :=
  firstIndex fun i => match s.orders.slots[i] with
    | some o => o.reference == ref
    | none => false

/-- The slot of the edition record with this reference (R146). -/
def State.findEdition (s : State) (ref : Word32) : Option (Fin 16) :=
  firstIndex fun i => match s.editions[i] with
    | some e => e.reference == ref
    | none => false

/-- The gain set of the edition in slot `i` is set 8 + i (R138). -/
def editionSet (i : Fin 16) : Fin 24 := ⟨8 + i.val, by omega⟩

/-- The gain set of a media kind has the kind's number (R138). -/
def kindSet (k : Fin 8) : Fin 24 := ⟨k.val, by omega⟩

/-- The gain set an order prints from: its edition's, or that of its media kind (R48 step 4). None only when the named
edition has no record. -/
def State.orderSet? (s : State) (o : Order) : Option (Fin 24) :=
  match o.edition with
  | none => some (kindSet o.mediaKind)
  | some ref => (s.findEdition ref).map editionSet

/-- An order in state QUEUED, HELD or ACTIVE. -/
def OrderState.unfinished : OrderState → Bool
  | .queued => true
  | .held => true
  | .active => true
  | .completed => false
  | .failed => false
  | .cancelled => false
  | .stopped => false

/-- The number of unfinished orders that name an edition (R147). -/
def State.unfinishedNaming (s : State) (ref : Word32) : Nat :=
  (List.finRange 40).countP fun i => match s.orders.slots[i] with
    | some o => o.state.unfinished && o.edition == some ref
    | none => false

/-- The two bays of a channel: 2c and 2c+1 (section 5.1). -/
def bayOf (c : Fin 12) : BaySide → Fin 24
  | .first => ⟨2 * c.val, by omega⟩
  | .second => ⟨2 * c.val + 1, by omega⟩

/-- The other bay of a channel. -/
def BaySide.other : BaySide → BaySide
  | .first => .second
  | .second => .first

/-- The channel a bay belongs to, and which of its bays it is. -/
def bayChannel (b : Fin 24) : Fin 12 := ⟨b.val / 2, by omega⟩

def baySide (b : Fin 24) : BaySide := if b.val % 2 = 0 then .first else .second

/-- The part takes frames and acts on timers: it is not in the quiet time of R220. -/
def State.working (s : State) : Bool := s.quiet.isNone

end Sys2Proof.Machine
end

