-- ==== Sys2Proof/Machine/Flags.lean ====
section
/-! DEFINITION. The notice categories: the sets, and what a category becoming pending does (R201, R203). -/

set_option Elab.async false

namespace Sys2Proof.Machine

/-- The bit of a category in a category set (R222). -/
def Category.bit : Category → Nat
  | .order => 0
  | .late => 1
  | .supply => 2
  | .colour => 3
  | .media => 4
  | .cost => 5
  | .engine => 6
  | .system => 7

/-- The category set that holds one category. -/
def Category.mask (c : Category) : Byte := 1#8 <<< c.bit

/-- Whether a category is in a set. -/
def Category.isIn (c : Category) (set : Byte) : Bool := set.getLsbD c.bit

/-- A notice trigger (R203), by the place of the NOTICE frame: it queues one at the end of the transmit queue, joins
the one awaiting, or sets notice owed. -/
def State.trigger (s : State) : State :=
  match s.notices.place with
  | .none =>
    (s.setServer { s.server with tx := s.server.tx ++ [.notice] }).setNotices
      { s.notices with place := .awaiting }
  | .awaiting => s
  | .sending => s.setNotices { s.notices with owed := true }

/-- A category goes pending (R201). It is a trigger when it was clear and is enabled (R203). -/
def State.raise (s : State) (c : Category) : State :=
  let s1 := s.setNotices { s.notices with pending := s.notices.pending ||| c.mask }
  if !c.isIn s.notices.pending && c.isIn s.notices.enabled then s1.trigger else s1

/-- A category goes pending when `b` holds. -/
def State.raiseIf (s : State) (b : Bool) (c : Category) : State := if b then s.raise c else s

end Sys2Proof.Machine
end

