-- ==== Sys2Proof/Machine/Placement.lean ====
section
/-! DEFINITION. Band lengths, the need of an order, placement past flaw zones, the roll position and slip
(R25, R34 to R40). -/

set_option Elab.async false

namespace Sys2Proof.Machine

/-- The listed band lengths (R25). -/
def listedBandLengths : List Nat := [10, 20, 25, 40, 50, 100]

/-- The effective band length of a band length as set (R25). -/
def effectiveBand (asSet : Nat) : Nat := if listedBandLengths.contains asSet then asSet else 25

/-- ceil(print length / effective band length) (R25). -/
def bandCount (printLength band : Nat) : Nat := (printLength + band - 1) / band

/-- The length of band `index` (from 1) of `total`: the last band takes what is left (R25). -/
def bandMm (printLength band total index : Nat) : Nat :=
  if index < total then band else printLength - (total - 1) * band

/-- The margins of a media kind that a need is computed from; a kind that is not defined gives none (no order, roll
or edition names one, R24). -/
def State.margins (s : State) (k : Fin 8) : Nat × Nat × Nat :=
  match s.media.kinds[k] with
  | some m => (m.lead, m.stripMargin, m.tail)
  | none => (0, 0, 0)

/-- need = lead + print length + strip margin (when checked) + tail, in mm (R34). -/
def needMm (margins : Nat × Nat × Nat) (printLength : Nat) (check : Bool) : Nat :=
  margins.1 + printLength + (if check then margins.2.1 else 0) + margins.2.2

/-- A flaw zone is active when its end is at or above its start (R29). -/
def Zone.active (z : Zone) : Bool := decide (z.start ≤ z.stop)

/-- An active zone that intersects the region from `s` to `s + need − 1` (R35 step 2). -/
def Zone.hits (z : Zone) (s need : Nat) : Bool :=
  z.active && decide (s ≤ z.stop) && decide (z.start + 1 ≤ s + need)

/-- The start the search moves to from `s`: past the largest end of the zones hit, or `s` when none is hit (R35 step 3). -/
def pastZones (zones : List Zone) (need s : Nat) : Nat :=
  (zones.filter (·.hits s need)).foldl (fun best z => Nat.max best (z.stop + 1)) s

/-- The search of R35, repeating step 3 as often as the fuel allows. -/
def searchStart (zones : List Zone) (need : Nat) : Nat → Nat → Nat
  | 0, s => s
  | fuel + 1, s => if zones.any (·.hits s need) then searchStart zones need fuel (pastZones zones need s) else s

/-- The roll position in mm: floor(position / 40) (R29). -/
def Roll.positionMm (r : Roll) : Nat := r.position / 40

/-- The start of a placement: at most eight repetitions of step 3 are needed (R35). -/
def Roll.placementStart (r : Roll) (need : Nat) : Nat := searchStart r.zones.toList need 8 r.positionMm

/-- The placement fits when its end lies on the roll (R35). -/
def Roll.fits (r : Roll) (need : Nat) : Bool := decide (r.placementStart need + need ≤ r.length)

/-- The need of an order as things stand. -/
def State.orderNeed (s : State) (o : Order) : Nat := needMm (s.margins o.mediaKind) o.printLength o.check

/-- (pulses + 20) div 40 mm, rounded half up (R37). -/
def pulsesToMm (pulses : Nat) : Nat := (pulses + 20) / 40

/-- The slip test of R39 on expected and measured pulses. -/
def slips (expected measured : Nat) : Bool :=
  decide ((max measured expected - min measured expected) > expected / 50 + 40)

/-- The commanded length of a command that moves paper (R37). -/
def EngineCommand.lengthMm : EngineCommand → Nat
  | .feed length => length
  | .band _ _ _ length _ => length
  | .strip _ _ margin _ => margin
  | .cut => 0
  | .clean _ => 0
  | .probe => 0
  | .engineReset => 0

/-- Records a media condition and makes MEDIA pending (R33). -/
def State.noteMedia (s : State) (e : MediaEvent) (order : Option Word32) : State :=
  (s.setMedia { s.media with condition := some { event := e, clock := s.clock, order := order } }).raise .media

end Sys2Proof.Machine
end

