-- ==== Sys2Proof/Machine/Eligibility.lean ====
section
/-! DEFINITION. Eligibility and hold reasons (R16, R17), the roll position's advance with its re-evaluation (R38), and
lateness (R21, R22). -/

set_option Elab.async false

namespace Sys2Proof.Machine

/-- The supply states that hold an order (R16). -/
def SupplyState.holdsOrders : SupplyState → Bool
  | .supplied => false
  | .low => false
  | .reserve => true
  | .dry => true
  | .refilling => true
  | .fault => true

/-- The supply states that fail a band boundary (R54 check 3). -/
def SupplyState.failsBoundary : SupplyState → Bool
  | .supplied => false
  | .low => false
  | .reserve => false
  | .dry => true
  | .refilling => false
  | .fault => true

/-- Whether some channel of a set is in a state that `p` names. -/
def InkUnit.anyChannel (ink : InkUnit) (set : BitVec 12) (p : SupplyState → Bool) : Bool :=
  (List.finRange 12).any fun c => set.getLsbD c.val && p (ink.channels[c]).supply

/-- Whether the order's gain set is suspended (R16). -/
def State.orderSuspended (s : State) (o : Order) : Bool :=
  match s.orderSet? o with
  | none => false
  | some g => match s.colour.gainSets[g] with
    | none => false
    | some set => set.suspended

/-- The hold reasons of an order as things stand (R16). -/
def State.holdReasons (s : State) (o : Order) : HoldReasons :=
  let r := s.media.roll
  { noRoll := !r.declared
    mediaKind := r.declared && r.mediaKind != o.mediaKind
    mediaWidth := r.declared && decide (r.width < o.printWidth)
    mediaShort := r.declared && r.mediaKind == o.mediaKind && !r.fits (s.orderNeed o)
    supply := s.ink.anyChannel o.channels SupplyState.holdsOrders
    colourSuspended := s.orderSuspended o }

/-- Sets an order QUEUED, or HELD with exactly its reasons (R16). -/
def State.evaluated (s : State) (o : Order) : Order :=
  let h := s.holdReasons o
  { o with state := if h = {} then .queued else .held, holds := h }

/-- An unfinished order that is not ACTIVE. -/
def OrderState.waiting : OrderState → Bool
  | .queued => true
  | .held => true
  | .active => false
  | .completed => false
  | .failed => false
  | .cancelled => false
  | .stopped => false

/-- What a re-evaluation leaves in one slot (R17). -/
def State.reevaluatedSlot (s : State) : Option Order → Option Order
  | none => none
  | some o => if o.state.waiting then some (s.evaluated o) else some o

/-- Whether a re-evaluation moves the order between QUEUED and HELD. -/
def State.movesSlot (s : State) : Option Order → Bool
  | none => false
  | some o => o.state.waiting && decide ((s.evaluated o).state ≠ o.state)

/-- The re-evaluation of R17: every unfinished order that is not ACTIVE; ORDER goes pending when one moves between
QUEUED and HELD. -/
def State.reevaluate (s : State) : State :=
  (s.setOrders { s.orders with slots := Vector.ofFn fun i => s.reevaluatedSlot s.orders.slots[i] }).raiseIf
    ((List.finRange 40).any fun i => s.movesSlot s.orders.slots[i]) .order

/-- Whether `clock` is at or past the order's deadline, as unsigned 32-bit values (R8, R21, R22). -/
def Order.pastDeadline (o : Order) (clock : Word32) : Bool :=
  match o.deadline with
  | none => false
  | some d => decide (d ≤ clock)

/-- An order that the lateness scan marks (R21). -/
def Order.becomesLate (o : Order) (clock : Word32) : Bool :=
  o.state.unfinished && !o.late && o.pastDeadline clock

/-- What the lateness scan leaves in one slot. -/
def scannedSlot (clock : Word32) : Option Order → Option Order
  | none => none
  | some o => if o.becomesLate clock then some { o with late := true } else some o

def marksSlot (clock : Word32) : Option Order → Bool
  | none => false
  | some o => o.becomesLate clock

/-- The lateness scan (R21). -/
def State.latenessScan (s : State) : State :=
  (s.setOrders { s.orders with slots := Vector.ofFn fun i => scannedSlot s.clock s.orders.slots[i] }).raiseIf
    ((List.finRange 40).any fun i => marksSlot s.clock s.orders.slots[i]) .late

/-- An order reaching a final state: end time, no hold reasons, cancel requested no, off the arrival list, the order-end
lateness check, ORDER pending (R11, R19, R22). -/
def State.finishOrder (s : State) (i : Fin 40) (o : Order) (final : OrderState) : State :=
  let becomesLate := !o.late && o.pastDeadline s.clock
  let o' := { o with state := final, holds := {}, endTime := some s.clock, cancelRequested := false,
                     late := o.late || becomesLate }
  let s1 := s.setOrder i o'
  ((s1.setOrders { s1.orders with arrival := s1.orders.arrival.filter (· != i) }).raiseIf becomesLate .late).raise .order

/-- The position advances by measured pulses while a roll is declared, saturating at the roll's end; ROLL_END when it
gets there; each change of position runs the re-evaluation (R38). -/
def State.advancePosition (s : State) (pulses : Nat) (order : Option Word32) : State :=
  let r := s.media.roll
  let stop := r.length * 40
  let position := min stop (r.position + pulses)
  if r.declared then
    if position = r.position then s
    else
      let s1 := s.setRoll { r with position := position }
      let s2 := if position = stop ∧ r.position < stop then s1.noteMedia .rollEnd order else s1
      s2.reevaluate
  else s

end Sys2Proof.Machine
end

