-- ==== Sys2Proof/Machine/Costing.lean ====
section
/-! DEFINITION. Money: ink, media, cut and handling figures, estimates, postings and order cost summaries
(chapter 8). -/

set_option Elab.async false

namespace Sys2Proof.Machine

/-- The cost of a volume of ink in nL at a price per mL, rounded half up (R163, R173, R174). -/
def inkCost (nl price : Nat) : Nat := (nl * price + 500000) / 1000000

/-- The cost of a length in mm at a price per metre, rounded half up (R164, R167, R169 to R172). -/
def mediaCost (mm price : Nat) : Nat := (mm * price + 500) / 1000

/-- The sum of a figure over the twelve channels. -/
def sumChannels (f : Fin 12 → Nat) : Nat := ((List.finRange 12).map f).sum

/-- The ink cost of one channel from a volume in tenths of a picolitre, before its limit (R163 steps 1 and 2). -/
def volumeCost (v price : Nat) : Nat := inkCost (v / 10000) price

/-- The ink figure: the sum of the twelve costs, each at most 2³²−1 (R163, R174). -/
def inkFigure (volumes ink : Vector Nat 12) : Nat :=
  sumChannels fun c => min max32 (volumeCost volumes[c] ink[c])

/-- Whether some channel's ink cost saturated at 2³²−1 (R163 step 3, R174). -/
def inkSaturates (volumes ink : Vector Nat 12) : Bool :=
  (List.finRange 12).any fun c => decide (volumeCost volumes[c] ink[c] > max32)

/-- A posting: four figures, its counts, and whether it carries a saturated ink cost (R166, R176, R177). -/
structure Posting where
  ink : Nat := 0
  media : Nat := 0
  cut : Nat := 0
  handling : Nat := 0
  attempts : Nat := 0
  prints : Nat := 0
  inkSaturated : Bool := false
  deriving DecidableEq, Repr

/-- The posting's total (R165). -/
def Posting.total (p : Posting) : Nat := p.ink + p.media + p.cut + p.handling

/-- The saturating sum of an account's four money fields (R175). -/
def accountTotal (ink media cut handling : Nat) : Nat := min max48 (ink + media + cut + handling)

/-- The account after a posting (R176 steps 1 to 3, R177). A saturation is noted where a sum passes its bound, so a figure
of 0 posted to a full field notes none (log entry 23). -/
def Account.posted (a : Account) (p : Posting) : Account :=
  let ink := satAdd max48 a.ink p.ink
  let media := satAdd max48 a.media p.media
  let cut := satAdd max48 a.cut p.cut
  let handling := satAdd max48 a.handling p.handling
  { ink := ink, media := media, cut := cut, handling := handling,
    total := accountTotal ink media cut handling,
    acceptedPrints := satAdd 65535 a.acceptedPrints p.prints,
    attemptsPosted := satAdd 65535 a.attemptsPosted p.attempts,
    saturated := a.saturated || p.inkSaturated ||
      decide (a.ink + p.ink > max48) || decide (a.media + p.media > max48) || decide (a.cut + p.cut > max48) ||
      decide (a.handling + p.handling > max48) || decide (ink + media + cut + handling > max48) ||
      decide (a.acceptedPrints + p.prints > 65535) || decide (a.attemptsPosted + p.attempts > 65535) }

/-- Whether a posting notes a saturation in the account it reaches, or carries one (R177). -/
def Account.saturates (a : Account) (p : Posting) : Bool := ({ a with saturated := false }.posted p).saturated

/-- Writes one account and marks the store dirty. -/
def State.setAccount (s : State) (i : Fin 64) (a : Account) : State :=
  (s.setCosts { s.costs with accounts := s.costs.accounts.set i a }).markDirty

/-- One posting to one account (R176, R177). -/
def State.post (s : State) (i : Fin 64) (p : Posting) : State :=
  (s.setAccount i (s.costs.accounts[i].posted p)).raiseIf (s.costs.accounts[i].saturates p) .cost

/-- The own-account part of the order cost summary (R182). -/
def CostSummary.addOwn (c : CostSummary) (p : Posting) : CostSummary :=
  { c with ownInk := satAdd max48 c.ownInk p.ink, ownMedia := satAdd max48 c.ownMedia p.media,
           ownCut := satAdd max48 c.ownCut p.cut, handling := satAdd max48 c.handling p.handling,
           ownTotal := satAdd max48 c.ownTotal p.total }

/-- The spoiled total of the order cost summary (R182). -/
def CostSummary.addSpoiled (c : CostSummary) (total : Nat) : CostSummary :=
  { c with spoiledTotal := satAdd max48 c.spoiledTotal total }

/-- The media kind of the order in a slot, which its costs are computed for. -/
def State.slotKind (s : State) (i : Fin 40) : Fin 8 :=
  match s.orders.slots[i] with
  | some o => o.mediaKind
  | none => 0

/-- The final attempt posting (R163 to R166): ink from the tallies, media from the own pulses, the cut when one was
made, handling when ACCEPTED, all at the snapshot. -/
def Attempt.posting (a : Attempt) (kind : Fin 8) (outcome : AttemptOutcome) : Posting :=
  { ink := inkFigure a.tallies a.prices.ink
    media := mediaCost (pulsesToMm a.ownPulses) a.prices.media[kind]
    cut := a.cutsMade * a.prices.cut
    handling := if outcome = .accepted then a.prices.handling else 0
    attempts := 1
    prints := if outcome = .accepted then 1 else 0
    inkSaturated := inkSaturates a.tallies a.prices.ink }

/-- Whether an outcome at the cut is posted to the order's own account (R60, R166). -/
def AttemptOutcome.ownAccount : AttemptOutcome → Bool
  | .accepted => true
  | .cancelled => true
  | .stopped => true
  | .rejected => false
  | .failedSupply => false
  | .failedMedia => false
  | .failedEngine => false
  | .interrupted => false

/-- The attempt posting and the order's cost summary; `own` says whether it goes to the order's own account (R60 step 1,
R166, R182). -/
def State.postAttempt (s : State) (a : Attempt) (outcome : AttemptOutcome) (own : Bool) : State :=
  let p := a.posting (s.slotKind a.slot) outcome
  match s.orders.slots[a.slot] with
  | none => s.post 0 p
  | some o =>
    if own then (s.setOrder a.slot { o with cost := o.cost.addOwn p }).post o.account p
    else (s.setOrder a.slot { o with cost := o.cost.addSpoiled p.total }).post 0 p

/-- The waste posting to account 0 at current prices, which the order's spoiled total also takes (R170, R182). -/
def State.postWaste (s : State) (a : Attempt) (mm : Nat) (cut : Bool) : State :=
  let p : Posting :=
    { media := mediaCost mm s.costs.prices.media[s.slotKind a.slot], cut := if cut then s.costs.prices.cut else 0 }
  (s.modifyOrder a.slot fun o => { o with cost := o.cost.addSpoiled p.total }).post 0 p

/-- A trim's or clear-out's posting to account 0 at current prices, for the media kind of the roll record; `cut` says
whether it ends at its CUT_DONE (R171, R172). -/
def State.postTask (s : State) (pulses : Option Nat) (cut : Bool) : State :=
  s.post 0
    { media := mediaCost (pulsesToMm (pulses.getD 0)) s.costs.prices.media[s.media.roll.mediaKind],
      cut := if cut then s.costs.prices.cut else 0 }

/-- The admission estimate at current prices (R169). -/
def State.estimate (s : State) (need : Nat) (kind : Fin 8) : Nat :=
  mediaCost need s.costs.prices.media[kind] + s.costs.prices.cut + s.costs.prices.handling

/-- The provisional cost at a band boundary, at the snapshot (R167). -/
def Attempt.provisional (a : Attempt) (o : Order) : Nat :=
  o.cost.ownTotal + inkFigure a.tallies a.prices.ink + mediaCost a.need a.prices.media[o.mediaKind] +
    a.prices.cut + a.prices.handling

/-- The cleaning posting to account 1 at current prices (R173); `volumes` in nL. -/
def State.postCleaning (s : State) (volumes : Vector Nat 12) : State :=
  s.post 1 { ink := sumChannels fun c => inkCost volumes[c] s.costs.prices.ink[c] }

/-- The posting of a late report's ink to account 0; nothing when no drop was counted (R174). -/
def State.postLateInk (s : State) (volumes : Vector Nat 12) : State :=
  if (List.finRange 12).any fun c => volumes[c] != 0 then
    s.post 0
      { ink := inkFigure volumes s.costs.prices.ink, inkSaturated := inkSaturates volumes s.costs.prices.ink }
  else s

end Sys2Proof.Machine
end

