-- ==== Sys2Proof/Machine/Ink.lean ====
section
/-! DEFINITION. The ink supply unit: band volumes, the draw, supply states, level samples, cartridges, refill and
cleaning requests (chapter 5). -/

set_option Elab.async false

namespace Sys2Proof.Machine

/-- What the image holds of a channel: REFILLING is held as DRY (R90, R115, R212). -/
def Channel.retained (c : Channel) : RetainedChannel :=
  { supply := if c.supply = .refilling then .dry else c.supply, active := c.active, reserve := c.reserve,
    lowThreshold := c.lowThreshold, lifetime := c.lifetime }

/-- Writes a channel record; a change to a retained field marks the store dirty (R90, R98). -/
def State.setChannel (s : State) (c : Fin 12) (x : Channel) : State :=
  (s.setInk { s.ink with channels := s.ink.channels.set c x }).markDirtyIf
    (decide (x.retained ≠ s.ink.channels[c].retained))

/-- Writes a bay record; all its fields are retained (R91). -/
def State.setBay (s : State) (b : Fin 24) (x : Bay) : State :=
  (s.setInk { s.ink with bays := s.ink.bays.set b x }).markDirtyIf (decide (x ≠ s.ink.bays[b]))

/-- The full sub-tank reserve: 25 mL (R90). -/
def reserveFull : Nat := 25000000

/-- Present and not declared empty: what step 2 of R94 asks of the active bay and the bay sum counts (R91). -/
def Bay.usable (b : Bay) : Bool := b.present && !b.declaredEmpty

/-- A supplying bay (R91). -/
def Bay.supplying (b : Bay) : Bool := b.usable && decide (0 < b.remaining)

/-- The bay on one side of a channel. -/
def State.bay (s : State) (c : Fin 12) (side : BaySide) : Bay := s.ink.bays[bayOf c side]

def State.channel (s : State) (c : Fin 12) : Channel := s.ink.channels[c]

/-- The bay sum of a channel (R91). -/
def State.baySum (s : State) (c : Fin 12) : Nat :=
  (if (s.bay c .first).usable then (s.bay c .first).remaining else 0) +
    (if (s.bay c .second).usable then (s.bay c .second).remaining else 0)

/-- Whether some bay of the channel is supplying. -/
def State.anySupplying (s : State) (c : Fin 12) : Bool := (s.bay c .first).supplying || (s.bay c .second).supplying

/-- A channel record written with a new supply state; a change of state raises SUPPLY and runs the re-evaluation
(R98). -/
def State.writeSupply (s : State) (c : Fin 12) (x : Channel) : State :=
  let s1 := s.setChannel c x
  if x.supply = (s.channel c).supply then s1 else (s1.raise .supply).reevaluate

/-- The state the three cases of R96 give. -/
def State.suppliedState (s : State) (c : Fin 12) : SupplyState :=
  if s.anySupplying c then (if s.baySum c < (s.channel c).lowThreshold then .low else .supplied)
  else if 0 < (s.channel c).reserve then .reserve else .dry

/-- The evaluation of R96: only in SUPPLIED or LOW. -/
def State.evaluateSupply (s : State) (c : Fin 12) : State :=
  if (s.channel c).supply = .supplied ∨ (s.channel c).supply = .low then
    s.writeSupply c { s.channel c with supply := s.suppliedState c }
  else s

/-- The band volume of one channel, in tenths of a picolitre (R93). -/
def DropSizes.volume (z : DropSizes) (d : Drops) : Nat :=
  d.small.toNat * z.small + d.medium.toNat * z.medium + d.large.toNat * z.large

/-- The twelve band volumes of a report at the drop sizes current now (R92, R93). -/
def State.volumes (s : State) (drops : Vector Drops 12) : Vector Nat 12 :=
  Vector.ofFn fun c => s.ink.sizes.volume drops[c]

/-- What the draw takes from the active bay (R94 step 2). -/
def Bay.firstTake (b : Bay) (n : Nat) : Nat := if b.usable then min n b.remaining else 0

/-- What the draw takes from the other bay (R94 step 3). -/
def Bay.otherTake (b : Bay) (rest : Nat) : Nat := if 0 < rest ∧ b.supplying then min rest b.remaining else 0

/-- The estimates a draw of R94 leaves, before the supply state is evaluated. -/
def State.drawn (s : State) (c : Fin 12) (v : Nat) : State :=
  let ch := s.channel c
  let total := ch.residue + v
  let n := total / 10000
  let one := s.bay c ch.active
  let two := s.bay c ch.active.other
  let t1 := one.firstTake n
  let t2 := two.otherTake (n - t1)
  let t3 := min (n - t1 - t2) ch.reserve
  let s1 := s.setBay (bayOf c ch.active) { one with remaining := one.remaining - t1 }
  let s2 := s1.setBay (bayOf c ch.active.other) { two with remaining := two.remaining - t2 }
  s2.setChannel c
    { ch with residue := total % 10000, reserve := ch.reserve - t3,
              active := if 0 < n - t1 ∧ two.supplying then ch.active.other else ch.active,
              lifetime := satAdd max64 ch.lifetime n }

/-- A RESERVE channel whose reserve estimate a draw has brought to 0 becomes DRY (R97). -/
def State.dryAtZero (s : State) (c : Fin 12) : State :=
  if (s.channel c).supply = .reserve ∧ (s.channel c).reserve = 0 then
    s.writeSupply c { s.channel c with supply := .dry }
  else s

/-- The evaluation after a draw: R96 for SUPPLIED and LOW, R97 for RESERVE. -/
def State.afterDraw (s : State) (c : Fin 12) : State :=
  if (s.channel c).supply = .reserve then s.dryAtZero c else s.evaluateSupply c

/-- The draw (R94): a volume of 0 is not drawn (R93, R95). -/
def State.draw (s : State) (c : Fin 12) (v : Nat) : State := if v = 0 then s else (s.drawn c v).afterDraw c

/-- Draws on the channels in order 0 to 11, each followed by its own evaluation (R95). -/
def State.drawAll (s : State) (volumes : Vector Nat 12) : State :=
  (List.finRange 12).foldl (fun s c => s.draw c volumes[c]) s

/-- A cleaning request: the pending level rises to the requested one (R110). -/
def State.requestCleaning (s : State) (c : Fin 12) (level : Nat) : State :=
  s.setChannel c { s.channel c with cleaning := max (s.channel c).cleaning level }

/-- Requests a level for each channel that has a non-zero one (R111, and the return of R79). -/
def State.requestCleanings (s : State) (levels : Vector Nat 12) : State :=
  s.setInk { s.ink with channels := Vector.ofFn fun c =>
    { s.ink.channels[c] with cleaning := max s.ink.channels[c].cleaning levels[c] } }

/-- The volume of a cleaning level, in nL (R110). -/
def cleaningVolume : Nat → Nat
  | 0 => 0
  | 1 => 80000
  | 2 => 250000
  | _ => 900000

/-- A channel that a CLEAN may carry: a level pending, and not DRY, REFILLING or FAULT (R78, R79). -/
def Channel.cleanable (c : Channel) : Bool :=
  decide (0 < c.cleaning) && decide (c.supply ≠ .dry) && decide (c.supply ≠ .refilling) && decide (c.supply ≠ .fault)

/-- Entry into REFILLING with the bay that caused it (R105). -/
def State.enterRefill (s : State) (c : Fin 12) (side : BaySide) : State :=
  s.writeSupply c { s.channel c with supply := .refilling, refillBay := some side, active := side, refillElapsed := 0,
                                      fullRun := 0, lowRun := 0, emptyRun := 0 }

/-! ### Level samples (R99 to R101, R107) -/

/-- A sample byte's level (R225). -/
def Level.ofByte (b : Byte) : Option Level :=
  match b.toNat with
  | 0 => some .full
  | 1 => some .normal
  | 2 => some .low
  | 3 => some .empty
  | _ => none

/-- The last level and the three runs after a sample (R99). -/
def Channel.sampled (c : Channel) (l : Level) : Channel :=
  { c with lastLevel := some l,
           lowRun := if l = .low then min 8 (c.lowRun + 1) else 0,
           emptyRun := if l = .empty then min 8 (c.emptyRun + 1) else 0,
           fullRun := if l = .full then min 32 (c.fullRun + 1) else 0 }

/-- The active bay is declared empty by its float (R100). -/
def State.declareEmpty (s : State) (c : Fin 12) : State :=
  let ch := s.channel c
  let b := s.bay c ch.active
  let s1 := s.setBay (bayOf c ch.active) { b with unaccounted := b.remaining, remaining := 0, declaredEmpty := true }
  let s2 := s1.setChannel c { ch with active := ch.active.other, lowRun := 0 }
  (s2.raise .supply).evaluateSupply c

/-- The top-up taken from the refill bay's estimate (R107 step 1). -/
def State.topUp (s : State) (c : Fin 12) : State :=
  match (s.channel c).refillBay with
  | none => s
  | some side =>
    let b := s.bay c side
    s.setBay (bayOf c side) { b with remaining := b.remaining - (reserveFull - (s.channel c).reserve) }

/-- A refill completes (R107). -/
def State.completeRefill (s : State) (c : Fin 12) : State :=
  let s1 := s.topUp c
  let ch := { s1.channel c with reserve := reserveFull, refillElapsed := 0, refillBay := none, fullRun := 0 }
  let s2 := s1.setChannel c ch
  (s2.writeSupply c { ch with supply := s2.suppliedState c }).requestCleaning c 1

/-- What one channel's sample leads to, after the runs have changed (R99). -/
def State.actOnSample (s : State) (c : Fin 12) (l : Level) : State :=
  let ch := s.channel c
  match l with
  | .low =>
    if ch.lowRun = 8 ∧ (ch.supply = .supplied ∨ ch.supply = .low) ∧ (s.bay c ch.active).present ∧
        0 < (s.bay c ch.active).remaining then s.declareEmpty c
    else s
  | .empty =>
    if ch.emptyRun = 8 ∧ (ch.supply = .supplied ∨ ch.supply = .low ∨ ch.supply = .reserve) then
      s.writeSupply c { ch with supply := .dry, reserve := 0, emptyRun := 0 }
    else s
  | .full => if ch.fullRun = 32 ∧ ch.supply = .refilling then s.completeRefill c else s
  | .normal => s

/-- The runs and last levels after a well-formed LEVELS event (R99). -/
def InkUnit.sampled (ink : InkUnit) (levels : Vector Level 12) : InkUnit :=
  { ink with channels := Vector.ofFn fun c => (ink.channels[c]).sampled levels[c] }

/-- The twelve samples of an event; none when a byte holds another value (R99). -/
def sampleLevels (samples : Vector Byte 12) : Option (Vector Level 12) :=
  if (List.finRange 12).all fun c => (Level.ofByte samples[c]).isSome then
    some (Vector.ofFn fun c => (Level.ofByte samples[c]).getD .normal)
  else none

/-- A LEVELS event in the ink supply unit (R99). -/
def State.takeLevels (s : State) (samples : Vector Byte 12) : State :=
  match sampleLevels samples with
  | none => s
  | some levels =>
    (List.finRange 12).foldl (fun s c => s.actOnSample c levels[c]) (s.setInk (s.ink.sampled levels))

/-! ### Cartridges (R102 to R104) -/

/-- The supply state after a bay has been reported present (R102, R103). -/
def State.afterPresent (s : State) (b : Fin 24) : State :=
  let c := bayChannel b
  match (s.channel c).supply with
  | .supplied => s.evaluateSupply c
  | .low => s.evaluateSupply c
  | .reserve => if (s.ink.bays[b]).supplying then s.enterRefill c (baySide b) else s
  | .dry => if (s.ink.bays[b]).supplying then s.enterRefill c (baySide b) else s
  | .refilling => s
  | .fault => s

/-- The clamp on a reported fill volume (R102). -/
def clampFill (v : Nat) : Nat := max 100000000 (min 1000000000 v)

/-- A new cartridge (R102). -/
def State.newCartridge (s : State) (b : Fin 24) (serial : Vector Byte 12) (lot : Vector Byte 8) (fill : Nat) : State :=
  let s1 := s.setBay b { present := true, serial := serial, lot := lot, fill := clampFill fill,
                         remaining := clampFill fill, declaredEmpty := false, unaccounted := 0, insertedAt := s.clock }
  (s1.raiseIf (decide (clampFill fill ≠ fill)) .supply).afterPresent b

/-- A known cartridge (R103). -/
def State.knownCartridge (s : State) (b : Fin 24) : State :=
  (s.setBay b { s.ink.bays[b] with present := true }).afterPresent b

/-- The channel record after the removal of the bay it refills from (R104): the other bay takes over, or FAULT. -/
def State.refillBayRemoved (s : State) (c : Fin 12) (side : BaySide) : State :=
  if (s.bay c side.other).supplying then
    s.setChannel c { s.channel c with refillBay := some side.other, active := side.other }
  else s.writeSupply c { s.channel c with supply := .fault, refillBay := none }

/-- A bay reported absent (R104). For a bay already absent nothing at all follows: no switch of an active bay, no
evaluation (log entry 22). -/
def State.bayAbsent (s : State) (b : Fin 24) : State :=
  if !(s.ink.bays[b]).present then s
  else
    let c := bayChannel b
    let side := baySide b
    let s1 := s.setBay b { s.ink.bays[b] with present := false }
    let s2 := if (s1.channel c).active = side then s1.setChannel c { s1.channel c with active := side.other } else s1
    match (s2.channel c).supply with
    | .supplied => s2.evaluateSupply c
    | .low => s2.evaluateSupply c
    | .refilling => if (s2.channel c).refillBay = some side then s2.refillBayRemoved c side else s2
    | .reserve => s2
    | .dry => s2
    | .fault => s2

/-- A BAY_EVENT in the ink supply unit; a bay above 23 or a present byte other than 0 or 1 is not used (R102, R225). -/
def State.takeBayEvent (s : State) (bay present : Byte) (serial : Vector Byte 12) (lot : Vector Byte 8)
    (fill : Nat) : State :=
  if h : bay.toNat < 24 then
    let b : Fin 24 := ⟨bay.toNat, h⟩
    if present = 0 then s.bayAbsent b
    else if present = 1 then
      if serial = (s.ink.bays[b]).serial then s.knownCartridge b else s.newCartridge b serial lot fill
    else s
  else s

/-! ### The refill timer (R105, R108) -/

/-- The refill reaches 120 s: FAULT (R108). -/
def State.refillExpires (s : State) (c : Fin 12) : State :=
  s.writeSupply c { s.channel c with supply := .fault, refillBay := none, refillElapsed := 120, fullRun := 0 }

/-- One second of a running refill timer (R105): it adds one to refill elapsed, and at 120 s R108 follows. -/
def State.refillSecond (s : State) (c : Fin 12) : State :=
  if (s.channel c).supply = .refilling then
    if (s.channel c).refillElapsed + 1 < 120 then
      s.setChannel c { s.channel c with refillElapsed := (s.channel c).refillElapsed + 1 }
    else s.refillExpires c
  else s

/-- The expiry itself: the second that takes refill elapsed to 120 (R108). -/
def State.refillTimeout (s : State) (c : Fin 12) : State :=
  if (s.channel c).supply = .refilling ∧ 119 ≤ (s.channel c).refillElapsed then s.refillExpires c else s

end Sys2Proof.Machine
end

