-- ==== Sys2Proof/Machine/Colour.lean ====
section
/-! DEFINITION. The colour check unit: readings, ΔE, verdicts, history rings, drift and fail runs, density correction
(chapters 6 and 7, R116 to R145). -/

set_option Elab.async false

namespace Sys2Proof.Machine

/-! ### Coordinates -/

/-- The range of L (R117). -/
def clampL (x : Int) : Int := max 0 (min 10000 x)

/-- The range of a and b (R117). -/
def clampAB (x : Int) : Int := max (-12800) (min 12700 x)

/-- Coordinates brought into range (R117). -/
def Lab.clamped (x : Lab) : Lab := { L := clampL x.L, a := clampAB x.a, b := clampAB x.b }

/-- Sixteen triples brought into range. -/
def clampLabs (v : Vector Lab 16) : Vector Lab 16 := Vector.ofFn fun p => (v[p]).clamped

/-- A reading as its bytes give it, after clamping; the valid flag byte 1 marks it valid (R117, R225). -/
def RawReading.reading (r : RawReading) : Reading :=
  { lab := { L := (r.L.toNat : Int), a := r.a.toInt, b := r.b.toInt : Lab }.clamped, valid := r.valid == 1 }

/-! ### ΔE and the verdict -/

/-- The bits of the integer square root, from bit `k − 1` down to bit 0, on top of `r`. -/
def sqrtBits (n : Nat) : Nat → Nat → Nat
  | 0, r => r
  | k + 1, r => if (r + 2 ^ k) * (r + 2 ^ k) ≤ n then sqrtBits n k (r + 2 ^ k) else sqrtBits n k r

/-- The integer square root rounded down (R123). -/
def isqrt (n : Nat) : Nat := sqrtBits n (Nat.log2 n / 2 + 1) 0

/-- ΔE between a reading and a reference, in hundredths (R123). -/
def deltaE (x y : Lab) : Nat :=
  isqrt (((x.L - y.L) * (x.L - y.L) + (x.a - y.a) * (x.a - y.a) + (x.b - y.b) * (x.b - y.b)).toNat)

/-- The ΔE of a patch: none unless it is selected and its reading is valid (R123). -/
def patchDelta (patches : BitVec 16) (readings : Vector Reading 16) (reference : Vector Lab 16) (p : Fin 16) :
    Option Nat :=
  if patches.getLsbD p.val && (readings[p]).valid then some (deltaE (readings[p]).lab reference[p]) else none

/-- The patches that have a ΔE, in patch order, each with it. -/
def patchDeltas (patches : BitVec 16) (readings : Vector Reading 16) (reference : Vector Lab 16) :
    List (Fin 16 × Nat) :=
  (List.finRange 16).filterMap fun p => (patchDelta patches readings reference p).map fun d => (p, d)

/-- Mean, max and worst patch of a strip (R124). -/
structure StripFigures where
  mean : Nat
  max : Nat
  worst : Nat
  deriving DecidableEq, Repr

/-- The figures from the patches that have a ΔE; none when no patch has one (R124, R125). -/
def stripFigures : List (Fin 16 × Nat) → Option StripFigures
  | [] => none
  | d :: ds =>
    let all := d :: ds
    let top := (all.map (·.2)).foldl Nat.max 0
    some { mean := (all.map (·.2)).sum / all.length, max := top,
           worst := ((all.find? fun x => x.2 == top).map (·.1.val)).getD 0 }

/-- PASS or FAIL (R124). -/
def StripFigures.passes (f : StripFigures) (v : VerdictSettings) : Bool :=
  decide (f.max ≤ v.maxTolerance) && decide (f.mean ≤ v.meanTolerance)

/-- The reference a strip of an order is compared against, as things stand (R122, and step 7 of R6). -/
def State.chosenReference (s : State) (edition : Option Word32) (kind : Fin 8) : Option (Vector Lab 16) :=
  let kindRef := (s.colour.settings[kind]).bind (·.reference)
  match edition.bind s.findEdition with
  | none => kindRef
  | some i => match s.editions[i] with
    | none => kindRef
    | some e => if e.state = .fixed then e.readings else kindRef

/-! ### Gain sets -/

/-- The first values of a media kind's gain set (R139, R127). -/
def GainSet.first : GainSet :=
  { gains := Vector.replicate 12 1000, limitFlags := 0, correction := true, deadband := 40, rate := 6, maxStep := 20,
    captureMode := .continuous, suspended := false }

/-- The values an edition's gain set takes from its media kind's set (R139, R137). -/
def GainSet.forEdition (g : GainSet) : GainSet := { g with limitFlags := 0, suspended := false }

/-- The bounds of every gain (R138). -/
def clampGain (g : Int) : Nat := (max 850 (min 1150 g)).toNat

/-- Writes a gain set in use; a change of it marks the store dirty (R138). -/
def State.setGainSet (s : State) (g : Fin 24) (x : GainSet) : State :=
  (s.setColour { s.colour with gainSets := s.colour.gainSets.set g (some x) }).markDirtyIf
    (decide (some x ≠ s.colour.gainSets[g]))

/-- Writes the check state of a gain set (volatile, R127). -/
def State.setCheck (s : State) (g : Fin 24) (x : CheckState) : State :=
  s.setColour { s.colour with checks := s.colour.checks.set g x }

/-- δ of R141 step 3: (e × R) / 100 truncated toward zero, limited to S on both sides. -/
def correctionStep (e : Int) (rate maxStep : Nat) : Int :=
  max (-(maxStep : Int)) (min (maxStep : Int) ((e * (rate : Int)).tdiv 100))

/-- The sum of R141 step 4 for one channel, before the clamp; none when the channel is not corrected (not selected, not
valid, or within the deadband). -/
def GainSet.correctionSum (g : GainSet) (patches : BitVec 16) (readings : Vector Reading 16)
    (reference : Vector Lab 16) (c : Fin 12) : Option Int :=
  let p : Fin 16 := ⟨c.val, by omega⟩
  let e := (readings[p]).lab.L - (reference[p]).L
  if patches.getLsbD p.val && (readings[p]).valid && decide (g.deadband < e.natAbs) then
    some (((g.gains[c] : Nat) : Int) + correctionStep e g.rate g.maxStep)
  else none

/-- Whether the clamp bites (R141 step 4). -/
def clampBites (sum : Int) : Bool := decide (sum < 850) || decide (1150 < sum)

/-- The gain set after the density correction of one strip (R140 to R142). -/
def GainSet.corrected (g : GainSet) (patches : BitVec 16) (readings : Vector Reading 16)
    (reference : Vector Lab 16) : GainSet :=
  if g.correction then
    { g with
      gains := Vector.ofFn fun c => match g.correctionSum patches readings reference c with
        | none => g.gains[c]
        | some sum => clampGain sum
      limitFlags := BitVec.ofFnLE fun c => match g.correctionSum patches readings reference c with
        | none => g.limitFlags.getLsbD c.val
        | some sum => clampBites sum }
  else g

/-- Whether the clamp bites on some channel, which makes COLOUR pending (R142). -/
def GainSet.correctionBites (g : GainSet) (patches : BitVec 16) (readings : Vector Reading 16)
    (reference : Vector Lab 16) : Bool :=
  g.correction && (List.finRange 12).any fun c => match g.correctionSum patches readings reference c with
    | none => false
    | some sum => clampBites sum

/-! ### History, drift and failure -/

/-- Recording an entry: after the newest, the oldest leaving when eight are held (R127). -/
def recordEntry (ring : List HistoryEntry) (e : HistoryEntry) : List HistoryEntry :=
  if ring.length < 8 then ring ++ [e] else ring.drop 1 ++ [e]

/-- A PASS or FAIL strip offered to a ring, by capture mode and status (R128). -/
def CheckState.offered (k : CheckState) (mode : CaptureMode) (e : HistoryEntry) : CheckState :=
  match mode, k.status with
  | .continuous, .recording => { k with ring := recordEntry k.ring e }
  | .stopOnFail, .recording =>
    { k with ring := recordEntry k.ring e, status := if e.passed then .recording else .frozen }
  | .startOnFail, .waiting =>
    if e.passed then k else { k with ring := recordEntry k.ring e, status := .recording }
  | .startOnFail, .recording =>
    let ring := recordEntry k.ring e
    { k with ring := ring, status := if ring.length = 8 then .frozen else .recording }
  | _, _ => k

/-- The ring emptied and the capture status restarted (R129). -/
def CheckState.rearmed (k : CheckState) (mode : CaptureMode) : CheckState :=
  { k with ring := [], status := mode.startStatus }

/-- Drift run and flag after a PASS or FAIL strip (R131). -/
def CheckState.drifted (k : CheckState) (mean level : Nat) : CheckState :=
  if level < mean then
    { k with driftRun := min 255 (k.driftRun + 1), driftFlag := k.driftFlag || decide (k.driftRun + 1 = 5) }
  else { k with driftRun := 0, driftFlag := false }

/-- Whether this strip raises the drift flag, which makes COLOUR pending (R131). -/
def CheckState.raisesDrift (k : CheckState) (mean level : Nat) : Bool :=
  decide (level < mean) && decide (k.driftRun + 1 = 5)

/-- The fail run after a PASS or FAIL strip (R132). -/
def CheckState.failed (k : CheckState) (passed : Bool) : CheckState :=
  { k with failRun := if passed then 0 else min 255 (k.failRun + 1) }

/-- The cleaning levels a FAIL strip requests (R133): on each channel whose solid is selected, valid and over the max
tolerance. -/
def failCleanings (v : VerdictSettings) (readings : Vector Reading 16) (reference : Vector Lab 16) (failRun : Nat) :
    Vector Nat 12 :=
  Vector.ofFn fun c =>
    match patchDelta v.patches readings reference ⟨c.val, by omega⟩ with
    | none => 0
    | some d => if v.maxTolerance < d then (if failRun = 1 then 1 else 2) else 0

/-- Suspension of a gain set whose fail run calls for it (R134). -/
def State.suspendIfDue (s : State) (g : Fin 24) : State :=
  match s.colour.gainSets[g] with
  | none => s
  | some set =>
    if 2 ≤ (s.colour.checks[g]).failRun ∧ set.suspended = false then
      (((s.setGainSet g { set with suspended := true }).raise .colour)).reevaluate
    else s

/-- Density correction of the captured gain set (step 2 of R126; R140, R142). -/
def State.correctGains (s : State) (g : Fin 24) (patches : BitVec 16) (readings : Vector Reading 16)
    (reference : Vector Lab 16) : State :=
  match s.colour.gainSets[g] with
  | none => s
  | some set =>
    (s.setGainSet g (set.corrected patches readings reference)).raiseIf
      (set.correctionBites patches readings reference) .colour

/-- The capture mode of a gain set. -/
def State.captureMode (s : State) (g : Fin 24) : CaptureMode :=
  match s.colour.gainSets[g] with
  | none => .continuous
  | some set => set.captureMode

/-- Steps 3 and 4 of R126: history and drift. -/
def State.recordStrip (s : State) (g : Fin 24) (e : HistoryEntry) (driftLevel : Nat) : State :=
  let k := s.colour.checks[g]
  (s.setCheck g ((k.offered (s.captureMode g) e).drifted e.mean driftLevel)).raiseIf
    (k.raisesDrift e.mean driftLevel) .colour

/-- Step 5 of R126: the fail run, the cleaning requests, the suspension. -/
def State.countFailure (s : State) (g : Fin 24) (v : VerdictSettings) (readings : Vector Reading 16)
    (reference : Vector Lab 16) (passed : Bool) : State :=
  let s1 := s.setCheck g ((s.colour.checks[g]).failed passed)
  if passed then s1
  else (s1.requestCleanings (failCleanings v readings reference (s1.colour.checks[g]).failRun)).suspendIfDue g

/-- A judged strip, PASS or FAIL (steps 2 to 6 of R126). -/
def State.handOnStrip (s : State) (a : Attempt) (v : VerdictSettings) (readings : Vector Reading 16)
    (reference : Vector Lab 16) (f : StripFigures) : State :=
  let passed := f.passes v
  let e : HistoryEntry :=
    { order := a.reference, attempt := a.number, clock := s.clock, passed := passed, mean := f.mean, max := f.max,
      worst := f.worst }
  ((((s.correctGains a.gainSet v.patches readings reference).recordStrip a.gainSet e v.driftLevel).countFailure
    a.gainSet v readings reference passed)).modifyOrder a.slot fun o => { o with lastStrip := some (f.mean, f.max) }

/-- The colour check unit takes a strip's readings and returns the verdict (R126). -/
def State.judgeStrip (s : State) (a : Attempt) (readings : Vector Reading 16) : State × Verdict :=
  match s.orders.slots[a.slot] with
  | none => (s, .unverified)
  | some o =>
    match s.colour.settings[o.mediaKind], s.chosenReference o.edition o.mediaKind with
    | some v, some reference =>
      match stripFigures (patchDeltas v.patches readings reference) with
      | none => (s, .unverified)
      | some f => (s.handOnStrip a v readings reference f, if f.passes v then .pass else .fail)
    | _, _ => (s, .unverified)

end Sys2Proof.Machine
end

