-- ==== Sys2Proof/Machine/Editions.lean ====
section
/-! DEFINITION. The edition table: numbering, adoption of the reference, completion (R146 to R152). -/

set_option Elab.async false

namespace Sys2Proof.Machine

/-- Writes an edition slot and marks the store dirty (R146). -/
def State.setEdition (s : State) (i : Fin 16) (e : Option Edition) : State :=
  (s.setEditions (s.editions.set i e)).markDirty

/-- The reference an OPEN edition adopts from its first ACCEPTED print (R151): the valid readings, and the kind's
reference for the other patches. -/
def adoptReadings (readings : Vector Reading 16) (kindReference : Vector Lab 16) : Vector Lab 16 :=
  Vector.ofFn fun p => if (readings[p]).valid then (readings[p]).lab else kindReference[p]

/-- The edition after one acceptance (R150 steps 2, 4 and 5): an OPEN edition adopts `adopted` and becomes FIXED; it is
COMPLETE when its count reaches its size (R152). -/
def Edition.afterAccept (e : Edition) (adopted : Option (Vector Lab 16)) (clock : Word32) : Edition :=
  let e1 : Edition := { e with accepted := e.accepted + 1 }
  let e2 : Edition :=
    if e.state = .opened then { e1 with readings := adopted, fixedAt := some clock, state := .fixed } else e1
  if e2.accepted = e2.size then { e2 with state := .complete } else e2

/-- Numbering at the end of an ACCEPTED attempt of an order that names an edition (R150, R151). -/
def State.numberPrint (s : State) (a : Attempt) : State :=
  match s.orders.slots[a.slot] with
  | none => s
  | some o =>
    match o.edition.bind s.findEdition with
    | none => s
    | some i => match s.editions[i] with
      | none => s
      | some e =>
        let kindRef := (s.colour.settings[e.mediaKind]).bind (·.reference)
        let adopted := a.readings.bind fun r => kindRef.map fun k => adoptReadings r k
        (s.setOrder a.slot { o with editionNumber := some (e.accepted + 1) }).setEdition i
          (some (e.afterAccept adopted s.clock))

end Sys2Proof.Machine
end

