-- ==== Sys2Proof/Machine/Attempt.lean ====
section
/-! DEFINITION. The attempt controller: attempt start, phases, boundary checks, what each report does to the attempt,
its outcome and its end (chapter 3; R19, R40 to R42). Issuing its commands is Slot.lean's. -/

set_option Elab.async false

namespace Sys2Proof.Machine

/-! ### Phases (R49) -/

/-- The attempt entering a phase that issues a command: its step is READY. -/
def Attempt.enter (a : Attempt) (p : Phase) : Attempt := { a with phase := p, step := .ready }

/-- The dwell starts (R42): TIMING with the captured dwell, or the CUT phase at once for a dwell of 0. -/
def Attempt.enterDwell (a : Attempt) : Attempt :=
  if a.dwell = 0 then { a with phase := .cut, step := .ready, dwellRemaining := 0 }
  else { a with phase := .dwell, step := .timing, dwellRemaining := a.dwell }

/-- TAIL, or DWELL when the tail is 0. -/
def Attempt.enterTail (a : Attempt) : Attempt := if 0 < a.tail then a.enter .tail else a.enterDwell

/-- STRIP for a checked attempt without a pending outcome, otherwise TAIL or DWELL. -/
def Attempt.enterStrip (a : Attempt) : Attempt :=
  if a.check = true ∧ a.pendingOutcome = none then a.enter .strip else a.enterTail

/-- BANDS without a pending outcome, otherwise TAIL or DWELL. -/
def Attempt.enterBands (a : Attempt) : Attempt := if a.pendingOutcome = none then a.enter .bands else a.enterTail

/-- LEAD when there is one and no outcome is pending; the phases after it otherwise. -/
def Attempt.enterLead (a : Attempt) : Attempt :=
  if 0 < a.lead ∧ a.pendingOutcome = none then a.enter .lead else a.enterBands

/-- The first phase whose condition holds at the start. -/
def Attempt.enterFirst (a : Attempt) : Attempt := if 0 < a.waste then a.enter .wasteFeed else a.enterLead

/-- The phase that follows when `a.phase` ends (R49). -/
def Attempt.phaseOver (a : Attempt) : Attempt :=
  match a.phase with
  | .wasteFeed => a.enter .wasteCut
  | .wasteCut => a.enterLead
  | .lead => a.enterBands
  | .bands => a.enterStrip
  | .strip => a.enterTail
  | .tail => a.enterDwell
  | .dwell => { a with phase := .cut, step := .ready }
  | .cut => a

/-- Takes a pending outcome unless one is held (R40, R56, R58). -/
def Attempt.takePending (a : Attempt) (o : AttemptOutcome) : Attempt :=
  if a.pendingOutcome = none then { a with pendingOutcome := some o } else a

/-- Writes the attempt record of the attempt in flight. -/
def State.setAttempt (s : State) (a : Attempt) : State := s.setHolder (.attempt a)

/-! ### Start (R48) -/

/-- The media kind an attempt captures; a kind that is not defined gives nothing to print (R24: no order names one). -/
def State.kindOrBlank (s : State) (k : Fin 8) : MediaKind :=
  (s.media.kinds[k]).getD
    { name := Vector.replicate 8 0, bandLength := 25, lead := 0, tail := 0, stripMargin := 0, dwell := 0 }

/-- The gains an attempt captures. -/
def State.gainsOf (s : State) (g : Fin 24) : Vector Nat 12 :=
  match s.colour.gainSets[g] with
  | none => Vector.replicate 12 1000
  | some x => x.gains

/-- The attempt record at its start, before its first phase is entered (R48 steps 1 and 4 to 8). -/
def State.newAttempt (s : State) (i : Fin 40) (o : Order) : Attempt :=
  let m := s.kindOrBlank o.mediaKind
  let need := s.orderNeed o
  let start := s.media.roll.placementStart need
  let band := effectiveBand m.bandLength
  let g := (s.orderSet? o).getD (kindSet o.mediaKind)
  { slot := i, reference := o.reference, number := o.attemptsUsed + 1, phase := .lead, step := .ready,
    start := start, need := need, waste := start - s.media.roll.positionMm,
    bandLength := band, lead := m.lead, tail := m.tail, stripMargin := m.stripMargin, dwell := m.dwell,
    check := o.check, bandsTotal := bandCount o.printLength band, bandsDone := 0,
    gainSet := g, gains := s.gainsOf g, prices := s.costs.prices, version := s.costs.version,
    tallies := Vector.replicate 12 0, tallySaturated := false, ownPulses := 0, wastePulses := 0, cutsMade := 0,
    pendingOutcome := none, ceilingNoted := false, verdict := .none, readings := none, dwellRemaining := m.dwell }

/-- The attempt starts (R48): the order becomes ACTIVE, ORDER goes pending, the activity becomes ATTEMPT, and the
attempt enters its first phase. -/
def State.startAttempt (s : State) (i : Fin 40) (o : Order) : State :=
  let a := (s.newAttempt i o).enterFirst
  let o' := { o with state := .active, holds := {}, attemptsUsed := o.attemptsUsed + 1,
                     firstStart := some (o.firstStart.getD s.clock) }
  ((s.setOrder i o').raise .order).setAttempt a

/-! ### The band boundary (R54, R168) -/

/-- Whether the order's ceiling is crossed at this boundary (R168). -/
def Attempt.overCeiling (a : Attempt) (o : Order) : Bool :=
  match o.ceiling with
  | none => false
  | some c => decide (c < a.provisional o)

/-- The attempt after the boundary checks of R54, in their order. -/
def State.boundaryOutcome (s : State) (a : Attempt) (o : Order) : Attempt :=
  if o.cancelRequested then { a with pendingOutcome := some .cancelled }
  else
    let crossed := a.overCeiling o
    let a1 : Attempt := { a with ceilingNoted := a.ceilingNoted || crossed }
    if crossed && o.stopAtCeiling then { a1 with pendingOutcome := some .stopped }
    else if s.ink.anyChannel o.channels SupplyState.failsBoundary then { a1 with pendingOutcome := some .failedSupply }
    else a1

/-- The boundary checks before a BAND or STRIP: a pending outcome ends the phase, and TAIL or DWELL follows (R54). COST
goes pending when the ceiling is first noted (R168). -/
def State.boundary (s : State) (a : Attempt) : State × Attempt :=
  match s.orders.slots[a.slot] with
  | none => (s, a)
  | some o =>
    let a1 := s.boundaryOutcome a o
    let a2 := if a1.pendingOutcome = none then a1 else a1.enterTail
    (s.raiseIf (a1.ceilingNoted && !a.ceilingNoted) .cost, a2)

/-! ### Ink and paper of a report -/

/-- The tallies with a report's volumes added, each saturating (R52, R53). -/
def Attempt.tallied (a : Attempt) (volumes : Vector Nat 12) : Attempt :=
  { a with
    tallies := Vector.ofFn fun c => satAdd max48 a.tallies[c] volumes[c]
    tallySaturated := a.tallySaturated || (List.finRange 12).any fun c => decide (a.tallies[c] + volumes[c] > max48) }

/-- Tally and draw of a report's ink; COST on the attempt's first tally saturation (R52, R53). -/
def State.tallyAndDraw (s : State) (a : Attempt) (volumes : Vector Nat 12) : State × Attempt :=
  let a' := a.tallied volumes
  ((s.raiseIf (a'.tallySaturated && !a.tallySaturated) .cost).drawAll volumes, a')

/-- The uncut marker is set by pulses above 0 (R65). -/
def State.markUncut (s : State) (pulses : Nat) : State := if 0 < pulses then s.writeUncut true else s

/-- Slip of a paper-moving command: while a roll is declared, the media condition, and the attempt's pending outcome
(R39, R40). `order` is the reference of the order whose attempt is in flight. -/
def State.checkSlip (s : State) (lengthMm pulses : Nat) (order : Option Word32) : State × Bool :=
  if s.media.roll.declared && slips (lengthMm * 40) pulses then
    (s.noteMedia (.slip (decide (lengthMm * 40 < pulses)) (lengthMm * 40) pulses) order, true)
  else (s, false)

/-- Position, slip and uncut marker of a report that ended its command normally (R38 to R40, R65). -/
def State.movePaper (s : State) (a : Attempt) (cmd : EngineCommand) (pulses : Nat) : State × Attempt :=
  let s1 := s.advancePosition pulses (some a.reference)
  let r := s1.checkSlip cmd.lengthMm pulses (some a.reference)
  (r.1.markUncut pulses, if r.2 then a.takePending .failedMedia else a)

/-- Own pulses, saturating (R47, R51, R52). -/
def Attempt.addOwn (a : Attempt) (pulses : Nat) : Attempt := { a with ownPulses := satAdd max32 a.ownPulses pulses }

/-! ### Reports of the attempt's outstanding command -/

/-- FEED_DONE of the attempt (R51, R41). -/
def State.attemptFed (s : State) (a : Attempt) (cmd : EngineCommand) (pulses : Nat) : State :=
  let r := s.movePaper a cmd pulses
  let a1 := if r.2.phase = .wasteFeed then { r.2 with wastePulses := pulses } else r.2.addOwn pulses
  r.1.setAttempt a1.phaseOver

/-- BAND_DONE of the attempt (R52). -/
def State.attemptBanded (s : State) (a : Attempt) (cmd : EngineCommand) (pulses : Nat) (drops : Vector Drops 12) :
    State :=
  let t := s.tallyAndDraw a (s.volumes drops)
  let r := t.1.movePaper t.2 cmd pulses
  let a1 : Attempt := { r.2.addOwn pulses with bandsDone := a.bandsDone + 1 }
  r.1.setAttempt
    (if a1.pendingOutcome = none ∧ a1.bandsDone < a1.bandsTotal then a1.enter .bands else a1.phaseOver)

/-- STRIP_DONE of the attempt (R55). -/
def State.attemptStripped (s : State) (a : Attempt) (cmd : EngineCommand) (pulses : Nat) (drops : Vector Drops 12)
    (readings : Vector Reading 16) : State :=
  let t := s.tallyAndDraw a (s.volumes drops)
  let r := t.1.movePaper t.2 cmd pulses
  let j := r.1.judgeStrip r.2 readings
  j.1.setAttempt ({ r.2.addOwn pulses with readings := some readings, verdict := j.2 }).phaseOver

/-- BAND_STOPPED and STRIP_STOPPED of the attempt (R56). -/
def State.attemptStopped (s : State) (a : Attempt) (pulses : Nat) (drops : Vector Drops 12) (strip : Bool) : State :=
  let t := s.tallyAndDraw a (s.volumes drops)
  let s1 := (t.1.advancePosition pulses (some a.reference)).markUncut pulses
  let a1 := (t.2.addOwn pulses).takePending .interrupted
  let a2 := if strip then { a1 with verdict := .unverified } else a1
  s1.setAttempt a2.enterTail

/-! ### Outcome and end -/

/-- The outcome at the final cut (R59). -/
def Attempt.outcomeAtCut (a : Attempt) (o : Order) : AttemptOutcome :=
  match a.pendingOutcome with
  | some p => p
  | none =>
    if o.cancelRequested then .cancelled
    else if a.check = false then .accepted
    else if a.verdict = .pass then .accepted else .rejected

/-- The final state an outcome leads to; none when the order is retried (R19). -/
def Order.finalState (o : Order) (outcome : AttemptOutcome) : Option OrderState :=
  match outcome with
  | .accepted => some .completed
  | .cancelled => some .cancelled
  | .stopped => some .stopped
  | .rejected | .failedSupply | .failedMedia | .failedEngine | .interrupted =>
    if o.cancelRequested then some .cancelled
    else if o.attemptsUsed < o.attemptsAllowed then none
    else some .failed

/-- The order table takes an attempt's outcome (R19, R60 step 3). -/
def State.applyOutcome (s : State) (i : Fin 40) (outcome : AttemptOutcome) : State :=
  match s.orders.slots[i] with
  | none => s
  | some o =>
    let o1 := { o with lastOutcome := some outcome }
    match o1.finalState outcome with
    | some final => s.finishOrder i o1 final
    | none => (s.setOrder i (s.evaluated o1)).raise .order

/-- The end of an attempt (R60): cost, edition, order, record. -/
def State.endAttempt (s : State) (a : Attempt) (outcome : AttemptOutcome) (own : Bool) : State :=
  let s1 := s.postAttempt a outcome own
  let s2 := if outcome = .accepted then s1.numberPrint a else s1
  (s2.applyOutcome a.slot outcome).setHolder .idle

/-- CUT_DONE of the attempt: of WASTE_CUT (R41, R51) or of CUT (R59). -/
def State.attemptCut (s : State) (a : Attempt) : State :=
  if a.phase = .wasteCut then
    ((s.postWaste a a.waste true).writeUncut false).setAttempt a.phaseOver
  else
    let a1 : Attempt := { a with cutsMade := 1 }
    let outcome := match s.orders.slots[a.slot] with
      | some o => a1.outcomeAtCut o
      | none => .rejected
    (s.writeUncut false).endAttempt a1 outcome outcome.ownAccount

/-- Clear-out pending is set only while a roll is declared (R29, R45). -/
def State.setClearOut (s : State) : State :=
  if s.media.roll.declared then s.setRoll { s.media.roll with clearOutPending := true } else s

/-- The immediate end of an attempt (R61): the waste measured is posted during WASTE_FEED and WASTE_CUT, the attempt's
cost goes to account 0 with no cut and no handling, the clear-out is set when the uncut marker is set (not at a roll
removal), and the marker is cleared. -/
def State.endAtOnce (s : State) (a : Attempt) (outcome : AttemptOutcome) (clearOut : Bool) : State :=
  let s1 := if a.phase = .wasteFeed ∨ a.phase = .wasteCut then s.postWaste a (pulsesToMm a.wastePulses) false else s
  let s2 := if clearOut && s1.uncut then s1.setClearOut else s1
  (s2.writeUncut false).endAttempt { a with cutsMade := 0 } outcome false

/-- What a timeout of the attempt's command does while the engine state stays OK, WARN or LIMITED (R58). -/
def Attempt.timedOut (a : Attempt) : Attempt :=
  let a1 := a.takePending .failedEngine
  match a1.phase with
  | .wasteFeed => a1.enter .wasteCut
  | .lead => a1.enterTail
  | .bands => a1.enterTail
  | .strip => { a1 with verdict := .unverified }.enterTail
  | .tail => a1.enterDwell
  | .wasteCut => a1.enter .wasteCut
  | .cut => a1.enter .cut
  | .dwell => a1

/-- One second of a running dwell (R42): it lowers dwell remaining, and at 0 the attempt enters its CUT phase. -/
def Attempt.dwellSecond (a : Attempt) : Attempt :=
  if 1 < a.dwellRemaining then { a with dwellRemaining := a.dwellRemaining - 1 }
  else { a with dwellRemaining := 0, phase := .cut, step := .ready }

end Sys2Proof.Machine
end

