-- ==== Sys2Proof/Machine/Operands.lean ====
section
/-! DEFINITION. The byte encodings of R222 both ways, the frame and its CRC (R185, R186), and the code of every choice
of section 12.3. -/

set_option Elab.async false

namespace Sys2Proof.Machine

/-! ### Reading fields -/

/-- The byte at an offset of a payload; 0 past its end (every layout checks the length first). -/
def byteAt (p : List Byte) (i : Nat) : Nat := (p.getD i 0).toNat

/-- An unsigned field of `k` bytes at offset `i`, least significant byte first (R222). -/
def uintAt (p : List Byte) (i : Nat) : Nat → Nat
  | 0 => 0
  | k + 1 => byteAt p i + 256 * uintAt p (i + 1) k

def u16At (p : List Byte) (i : Nat) : Nat := uintAt p i 2
def u32At (p : List Byte) (i : Nat) : Nat := uintAt p i 4
def u48At (p : List Byte) (i : Nat) : Nat := uintAt p i 6

/-- A u32 that is a name or a clock value. -/
def word32At (p : List Byte) (i : Nat) : Word32 := BitVec.ofNat 32 (u32At p i)

/-- A signed 16-bit number, two's complement (R222). -/
def s16At (p : List Byte) (i : Nat) : Int := (BitVec.ofNat 16 (u16At p i)).toInt

/-- A flag, indicator or on/off byte holds 0 or 1 (R222). -/
def flagOk (p : List Byte) (i : Nat) : Bool := decide (byteAt p i ≤ 1)

def flagAt (p : List Byte) (i : Nat) : Bool := byteAt p i == 1

/-- An optional field: its indicator byte, then its value (R222). -/
def optionalAt {α : Type} (p : List Byte) (i : Nat) (value : Nat → α) : Option α :=
  if flagAt p i then some (value (i + 1)) else none

/-- `n` bytes of text as received, bytes of 0 included (R222). -/
def textAt (n : Nat) (p : List Byte) (i : Nat) : Vector Byte n := Vector.ofFn fun k => p.getD (i + k.val) 0

/-- `n` u16 fields in turn. -/
def u16sAt (n : Nat) (p : List Byte) (i : Nat) : Vector Nat n := Vector.ofFn fun k => u16At p (i + 2 * k.val)

/-- `n` u32 fields in turn. -/
def u32sAt (n : Nat) (p : List Byte) (i : Nat) : Vector Nat n := Vector.ofFn fun k => u32At p (i + 4 * k.val)

/-- Sixteen coordinate triples (L u16, a and b s16) in patch order. -/
def labsAt (p : List Byte) (i : Nat) : Vector Lab 16 :=
  Vector.ofFn fun k =>
    { L := (u16At p (i + 6 * k.val) : Int), a := s16At p (i + 6 * k.val + 2), b := s16At p (i + 6 * k.val + 4) }

/-! ### Writing fields -/

/-- An unsigned field of `k` bytes, least significant byte first (R222). -/
def uint : Nat → Nat → List Byte
  | 0, _ => []
  | k + 1, n => BitVec.ofNat 8 n :: uint k (n / 256)

def u8 (n : Nat) : List Byte := uint 1 n
def u16 (n : Nat) : List Byte := uint 2 n
def u32 (n : Nat) : List Byte := uint 4 n
def u48 (n : Nat) : List Byte := uint 6 n
def u64 (n : Nat) : List Byte := uint 8 n
def word32 (w : Word32) : List Byte := u32 w.toNat
def s16 (x : Int) : List Byte := u16 (BitVec.ofInt 16 x).toNat
def flag (b : Bool) : List Byte := [if b then 1 else 0]

/-- An optional field of a reply: indicator 1 and the value, or indicator 0 and the value bytes as 0 (R222). -/
def optionalField {α : Type} (size : Nat) (value : α → List Byte) : Option α → List Byte
  | some x => 1#8 :: value x
  | none => List.replicate (size + 1) 0

/-- A triple of coordinates. -/
def labField (x : Lab) : List Byte := s16 x.L ++ s16 x.a ++ s16 x.b

/-- Fields of one encoding in turn. -/
def fieldsOf {α : Type} {n : Nat} (value : α → List Byte) (v : Vector α n) : List Byte := v.toList.flatMap value

/-! ### Codes (section 12.3) -/

def Status.code : Status → Nat
  | .ok => 0x00
  | .adjusted => 0x01
  | .unknownKind => 0x10
  | .badLength => 0x11
  | .badField => 0x12
  | .notFound => 0x13
  | .duplicate => 0x14
  | .full => 0x15
  | .wrongState => 0x16
  | .busy => 0x17
  | .editionFull => 0x18
  | .noReference => 0x19
  | .overCeiling => 0x1A

def OrderState.code : OrderState → Nat
  | .queued => 0
  | .held => 1
  | .active => 2
  | .completed => 3
  | .failed => 4
  | .cancelled => 5
  | .stopped => 6

def AttemptOutcome.code : AttemptOutcome → Nat
  | .accepted => 0
  | .rejected => 1
  | .failedSupply => 2
  | .failedMedia => 3
  | .failedEngine => 4
  | .interrupted => 5
  | .cancelled => 6
  | .stopped => 7

def SupplyState.code : SupplyState → Nat
  | .supplied => 0
  | .low => 1
  | .reserve => 2
  | .dry => 3
  | .refilling => 4
  | .fault => 5

/-- Not in the tables: 0 for the first bay, 1 for the second (log entry 12). -/
def BaySide.code : BaySide → Nat
  | .first => 0
  | .second => 1

def Level.code : Level → Nat
  | .full => 0
  | .normal => 1
  | .low => 2
  | .empty => 3

def Verdict.code : Verdict → Nat
  | .none => 0
  | .pass => 1
  | .fail => 2
  | .unverified => 3

def CaptureMode.code : CaptureMode → Nat
  | .continuous => 0
  | .stopOnFail => 1
  | .startOnFail => 2

/-- The capture mode of a choice byte, if it is one of the three (R129). -/
def CaptureMode.ofCode : Nat → Option CaptureMode
  | 0 => some .continuous
  | 1 => some .stopOnFail
  | 2 => some .startOnFail
  | _ => none

def CaptureStatus.code : CaptureStatus → Nat
  | .recording => 0
  | .waiting => 1
  | .frozen => 2

/-- Not in the tables: OPEN 0, FIXED 1, COMPLETE 2, CLOSED 3, in the order of R146 (log entry 12). -/
def EditionState.code : EditionState → Nat
  | .opened => 0
  | .fixed => 1
  | .complete => 2
  | .closed => 3

def EngineState.code : EngineState → Nat
  | .starting => 0
  | .ok => 1
  | .warn => 2
  | .limited => 3
  | .off => 4

/-- The printer activity the holder shows (R76). -/
def Holder.activityCode : Holder → Nat
  | .idle => 0
  | .attempt _ => 1
  | .clearOut _ => 2
  | .cleaning _ => 3
  | .trim _ => 4
  | .probing _ => 5

def Phase.code : Phase → Nat
  | .wasteFeed => 0
  | .wasteCut => 1
  | .lead => 2
  | .bands => 3
  | .strip => 4
  | .tail => 5
  | .dwell => 6
  | .cut => 7

def AttemptStep.code : AttemptStep → Nat
  | .ready => 0
  | .outstanding => 1
  | .timing => 2

def StoreEvent.code : StoreEvent → Nat
  | .none => 0
  | .storeLost => 1
  | .storeFault => 2

/-- The kind codes of the engine commands (section 12.3). -/
def EngineCommand.kind : EngineCommand → Nat
  | .feed _ => 0xA0
  | .band _ _ _ _ _ => 0xA1
  | .strip _ _ _ _ => 0xA2
  | .cut => 0xA3
  | .clean _ => 0xA4
  | .probe => 0xA5
  | .engineReset => 0xA6

/-- The command timeouts of R69, in seconds. -/
def EngineCommand.timeout : EngineCommand → Nat
  | .feed _ => 60
  | .band _ _ _ _ _ => 30
  | .strip _ _ _ _ => 30
  | .cut => 10
  | .clean _ => 240
  | .probe => 1
  | .engineReset => 10

/-- The payload of an engine command (R224). -/
def EngineCommand.payload : EngineCommand → List Byte
  | .feed length => u32 length
  | .band order attempt index length gains =>
    word32 order ++ u8 attempt ++ u16 index ++ u8 length ++ fieldsOf u16 gains
  | .strip order attempt margin gains => word32 order ++ u8 attempt ++ u8 margin ++ fieldsOf u16 gains
  | .cut => []
  | .clean levels => fieldsOf u8 levels
  | .probe => []
  | .engineReset => []

/-- The hold reasons as the set byte of section 12.3. -/
def HoldReasons.code (h : HoldReasons) : Nat :=
  h.noRoll.toNat + 2 * h.mediaKind.toNat + 4 * h.mediaWidth.toNat + 8 * h.mediaShort.toNat +
    16 * h.supply.toNat + 32 * h.colourSuspended.toNat

/-! ### The frame (R185, R186) -/

/-- One bit of the CRC register: shift left, and take in x¹² + x⁵ + 1 when a one falls out. -/
def crcBit (r : BitVec 16) : BitVec 16 := if r.msb then (r <<< 1) ^^^ 0x1021#16 else r <<< 1

/-- One byte, most significant bit first. -/
def crcByte (r : BitVec 16) (b : Byte) : BitVec 16 :=
  crcBit (crcBit (crcBit (crcBit (crcBit (crcBit (crcBit (crcBit (r ^^^ ((b.setWidth 16) <<< 8)))))))))

/-- The frame CRC over the covered bytes, from all ones (R186). -/
def crc16 (bytes : List Byte) : BitVec 16 := bytes.foldl crcByte 0xFFFF#16

/-- The bytes a CRC covers: length, kind, tag and payload (R186). -/
def covered (kind tag : Byte) (payload : List Byte) : List Byte :=
  u16 payload.length ++ [kind, tag] ++ payload

/-- A whole frame: start byte, covered bytes, CRC most significant byte first (R185). -/
def frameBytes (kind tag : Byte) (payload : List Byte) : List Byte :=
  let body := covered kind tag payload
  let c := crc16 body
  0x5A#8 :: body ++ [(c >>> 8).setWidth 8, c.setWidth 8]

/-- A whole engine command frame. -/
def EngineCommand.frame (c : EngineCommand) (tag : Byte) : List Byte :=
  frameBytes (BitVec.ofNat 8 c.kind) tag c.payload

end Sys2Proof.Machine
end

