-- ==== Sys2Proof/Machine/Slot.lean ====
section
/-! DEFINITION. The engine slot: issuing commands with their tags, the holders' next commands, the arbiter, selection
(R18, R44, R45, R50, R70, R76 to R79, R84). -/

set_option Elab.async false

namespace Sys2Proof.Machine

/-- Issues an engine command: it takes the next tag and becomes the outstanding command (R69, R70). -/
def State.issue (s : State) (cmd : EngineCommand) (party : Party) : State :=
  s.setEngine { s.engine with
    outstanding := some { command := cmd, tag := s.engine.nextTag, party := party, frame := cmd.frame s.engine.nextTag },
    nextTag := s.engine.nextTag + 1 }

/-! ### The attempt's next command (R50) -/

/-- The print length of the order in a slot. -/
def State.slotLength (s : State) (i : Fin 40) : Nat :=
  match s.orders.slots[i] with
  | some o => o.printLength
  | none => 0

/-- The command of the attempt's phase (R50); none in DWELL. -/
def State.phaseCommand (s : State) (a : Attempt) : Option EngineCommand :=
  match a.phase with
  | .wasteFeed => some (.feed a.waste)
  | .wasteCut => some .cut
  | .lead => some (.feed a.lead)
  | .bands =>
    some (.band a.reference a.number (a.bandsDone + 1)
      (bandMm (s.slotLength a.slot) a.bandLength a.bandsTotal (a.bandsDone + 1)) a.gains)
  | .strip => some (.strip a.reference a.number a.stripMargin a.gains)
  | .tail => some (.feed a.tail)
  | .dwell => none
  | .cut => some .cut

/-- Issues the command of the attempt's phase; the step becomes OUTSTANDING (R50). -/
def State.issuePhase (s : State) (a : Attempt) : State :=
  match s.phaseCommand a with
  | none => s.setAttempt a
  | some cmd => (s.issue cmd .attempt).setAttempt { a with step := .outstanding }

/-- A READY step is issued once the cover is closed, a BAND or STRIP after its boundary checks (R50, R54, R77). -/
def State.serveAttempt (s : State) (a : Attempt) : State :=
  if a.step = .ready ∧ s.engine.coverClosed then
    if a.phase = .bands ∨ a.phase = .strip then
      (s.boundary a).1.issuePhase (s.boundary a).2
    else s.issuePhase a
  else s

/-! ### Clear-out and trim (R44, R45, R80) -/

/-- The next command of a clear-out or trim: its FEED, unless that is over or its length is 0, then its CUT. -/
def Task.command (t : Task) : EngineCommand := if t.feedOver = false ∧ 0 < t.length then .feed t.length else .cut

/-- Issues the task's next command once the cover is closed (R77). -/
def State.serveTask (s : State) (t : Task) (party : Party) : State :=
  if s.engine.coverClosed then s.issue t.command party else s

/-- A task that has just been given the slot. -/
def Task.new (length : Nat) : Task := { length := length, feedOver := false, pulses := none }

/-- The clear-out takes the slot: it feeds the tail of the roll's media kind (R45, R37). -/
def State.startClearOut (s : State) : State :=
  let t := Task.new (s.margins s.media.roll.mediaKind).2.2
  (s.setHolder (.clearOut t)).issue t.command .clearOut

/-- The pending trim takes the slot (R44). -/
def State.startTrim (s : State) (length : Nat) : State :=
  let t := Task.new length
  ((s.setEngine { s.engine with pendingTrim := none }).setHolder (.trim t)).issue t.command .trim

/-! ### Cleaning (R79) -/

/-- The levels one CLEAN carries. -/
def InkUnit.cleanLevels (ink : InkUnit) : Vector Nat 12 :=
  Vector.ofFn fun c => if (ink.channels[c]).cleanable then (ink.channels[c]).cleaning else 0

/-- The channels after a CLEAN has been built: a carried level becomes 0, a dropped channel keeps its own. -/
def InkUnit.cleanTaken (ink : InkUnit) : InkUnit :=
  { ink with channels := Vector.ofFn fun c =>
      if (ink.channels[c]).cleanable then { ink.channels[c] with cleaning := 0 } else ink.channels[c] }

/-- One CLEAN is issued (R79). -/
def State.startCleaning (s : State) : State :=
  let levels := s.ink.cleanLevels
  ((s.setInk s.ink.cleanTaken).setHolder (.cleaning levels)).issue (.clean levels) .cleaning

/-! ### Selection (R18) -/

/-- The better of two choices: the higher priority, and the earlier in the arrival list among equals. -/
def betterChoice (best : Option (Fin 40 × Order)) (i : Fin 40) : Option Order → Option (Fin 40 × Order)
  | none => best
  | some o =>
    if o.state = .queued then
      match best with
      | none => some (i, o)
      | some (j, p) => if p.priority < o.priority then some (i, o) else some (j, p)
    else best

/-- The QUEUED order with the highest priority, the earliest in the arrival list among equals (R18). -/
def OrderBlock.choose (b : OrderBlock) : Option (Fin 40 × Order) :=
  b.arrival.foldl (fun best i => betterChoice best i b.slots[i]) none

/-- Selection: every unfinished order is re-evaluated, then one is chosen and its attempt starts (R18, R48). -/
def State.select (s : State) : State :=
  let s1 := s.reevaluate
  match s1.orders.choose with
  | none => s1
  | some (i, o) =>
    let s2 := s1.startAttempt i o
    match s2.holder with
    | .attempt a => s2.serveAttempt a
    | _ => s2

/-! ### The arbiter (R78) -/

/-- The engine states in which an attempt may start (R18). -/
def EngineState.selects : EngineState → Bool
  | .starting => false
  | .ok => true
  | .warn => true
  | .limited => false
  | .off => false

/-- OK, WARN or LIMITED: the states in which tasks run and the error count changes (R78, R81). -/
def EngineState.running : EngineState → Bool
  | .starting => false
  | .ok => true
  | .warn => true
  | .limited => true
  | .off => false

/-- Uses 3 to 6 of R78, in their order. -/
def State.offerWork (s : State) : State :=
  if s.media.roll.clearOutPending then s.startClearOut
  else if (List.finRange 12).any fun c => (s.ink.channels[c]).cleanable then s.startCleaning
  else match s.engine.pendingTrim with
    | some length => s.startTrim length
    | none => if !s.orders.paused && s.engine.state.selects then s.select else s

/-- The arbiter's offer: the first use of R78 that applies. -/
def State.offer (s : State) : State :=
  match s.engine.state with
  | .starting => s.issue .engineReset .startUp
  | .off => if s.engine.autoRecovery then (s.issue .probe .probing).setHolder (.probing false) else s
  | .ok | .warn | .limited =>
    if s.engine.coverClosed && !s.engine.startUpFlag then s.offerWork else s

/-- What the slot does next: nothing while a command is outstanding or the part is quiet; otherwise the holder's next
command (R77), or the arbiter's offer when nobody holds the slot (R78). -/
def State.serveSlot (s : State) : State :=
  if !s.working || s.engine.outstanding.isSome then s
  else match s.holder with
    | .idle => s.offer
    | .attempt a => s.serveAttempt a
    | .clearOut t => s.serveTask t .clearOut
    | .trim t => s.serveTask t .trim
    | .cleaning _ => s
    | .probing true => (s.issue .probe .probing).setHolder (.probing false)
    | .probing false => s

end Sys2Proof.Machine
end

