-- ==== Sys2Proof/Machine/Reports.lean ====
section
/-! DEFINITION. What arrives from the engine: classing a frame, correct, late and mismatched reports, bad frames,
timeouts, the error count and the engine states, roll and cover events, probing (chapter 4; R30, R46, R57). -/

set_option Elab.async false

namespace Sys2Proof.Machine

/-- A report with its fields (R225). -/
inductive Report where
  | feedDone (pulses : Nat)
  | bandDone (pulses : Nat) (drops : Vector Drops 12)
  | bandStopped (pulses : Nat) (drops : Vector Drops 12)
  | stripDone (pulses : Nat) (drops : Vector Drops 12) (readings : Vector Reading 16)
  | stripStopped (pulses : Nat) (drops : Vector Drops 12)
  | cutDone
  | cleanDone
  | probeAck
  | ready
  deriving DecidableEq, Repr

/-- Which reports answer a command (R69). -/
def Report.answers (r : Report) (c : EngineCommand) : Bool :=
  match c, r with
  | .feed _, .feedDone _ => true
  | .band _ _ _ _ _, .bandDone _ _ => true
  | .band _ _ _ _ _, .bandStopped _ _ => true
  | .strip _ _ _ _, .stripDone _ _ _ => true
  | .strip _ _ _ _, .stripStopped _ _ => true
  | .cut, .cutDone => true
  | .clean _, .cleanDone => true
  | .probe, .probeAck => true
  | .engineReset, .ready => true
  | _, _ => false

/-- The measured pulses a report carries (R37). -/
def Report.pulses? : Report → Option Nat
  | .feedDone p => some p
  | .bandDone p _ => some p
  | .bandStopped p _ => some p
  | .stripDone p _ _ => some p
  | .stripStopped p _ => some p
  | .cutDone => none
  | .cleanDone => none
  | .probeAck => none
  | .ready => none

/-- The drop counts a report carries (R73). -/
def Report.drops? : Report → Option (Vector Drops 12)
  | .feedDone _ => none
  | .bandDone _ d => some d
  | .bandStopped _ d => some d
  | .stripDone _ d _ => some d
  | .stripStopped _ d => some d
  | .cutDone => none
  | .cleanDone => none
  | .probeAck => none
  | .ready => none

/-! ### Counters, error count and engine state (R81, R82, R209) -/

/-- A counter's advance: it stays at 65,535 (R210). -/
def advanceCounter (n : Nat) : Nat := satAdd 65535 n 1

def State.setEngineCounters (s : State) (c : EngineCounters) : State := s.setEngine { s.engine with counters := c }

def State.countEngineCrc (s : State) : State :=
  s.setEngineCounters { s.engine.counters with crcErrors := advanceCounter s.engine.counters.crcErrors }

def State.countTimeout (s : State) : State :=
  s.setEngineCounters { s.engine.counters with timeouts := advanceCounter s.engine.counters.timeouts }

def State.countMismatch (s : State) : State :=
  s.setEngineCounters { s.engine.counters with mismatches := advanceCounter s.engine.counters.mismatches }

def State.countLate (s : State) : State :=
  s.setEngineCounters { s.engine.counters with lateReports := advanceCounter s.engine.counters.lateReports }

/-- The engine state of an error count (R82). -/
def stateOfCount (n : Nat) : EngineState :=
  if n ≤ 95 then .ok else if n ≤ 127 then .warn else if n ≤ 254 then .limited else .off

/-- A task ends at once by OFF or ENGINE_RESTART (R80): its measured feed is posted, or nothing; a trim that had fed
sets clear-out pending. -/
def State.endTask (s : State) (t : Task) (trim : Bool) : State :=
  let s1 := if t.pulses.isSome then s.postTask t.pulses false else s
  let s2 := if trim && decide (0 < t.pulses.getD 0) then s1.setClearOut else s1
  s2.setHolder .idle

/-- The levels of a CLEAN that timed out or was abandoned return to their channels (R79). -/
def State.returnLevels (s : State) (levels : Vector Nat 12) : State := (s.requestCleanings levels).setHolder .idle

/-- The holder of the slot ends at once (step 2 of R83 and of R86). -/
def State.endHolder (s : State) : State :=
  match s.holder with
  | .idle => s
  | .attempt a => s.endAtOnce a .failedEngine true
  | .clearOut t => s.endTask t false
  | .trim t => s.endTask t true
  | .cleaning levels => s.returnLevels levels
  | .probing _ => s.setHolder .idle

/-- An outstanding command is abandoned: its tag becomes the expired tag (step 1 of R83 and of R86). -/
def State.abandon (s : State) : State :=
  match s.engine.outstanding with
  | none => s
  | some o => s.setEngine { s.engine with outstanding := none, expiredTag := some o.tag }

/-- The engine state has become OFF (R83). -/
def State.enterOff (s : State) : State :=
  let s1 := s.abandon.endHolder
  let s2 := s1.setEngine { s1.engine with probeRun := 0 }
  if s2.engine.autoRecovery then s2.setHolder (.probing true) else s2

/-- The engine state changes: ENGINE goes pending (R82). -/
def State.setEngineState (s : State) (e : EngineState) : State :=
  (s.setEngine { s.engine with state := e }).raise .engine

/-- A new error count, and the engine state recomputed from it (R81, R82); OFF has its own sequence (R83). -/
def State.setCount (s : State) (n : Nat) : State :=
  let s1 := s.setEngine { s.engine with errorCount := n }
  if stateOfCount n = s.engine.state then s1
  else
    let s2 := s1.setEngineState (stateOfCount n)
    if stateOfCount n = .off then s2.enterOff else s2

/-- An increase of the error count, in OK, WARN or LIMITED only, not above 255 (R81). -/
def State.addErrors (s : State) (k : Nat) : State :=
  if s.engine.state.running then s.setCount (satAdd 255 s.engine.errorCount k) else s

/-- A correct report lowers the count by one, not below 0, in OK, WARN or LIMITED (R81). -/
def State.forgiveError (s : State) : State :=
  if s.engine.state.running then s.setCount (s.engine.errorCount - 1) else s

/-! ### Correct reports -/

/-- FEED_DONE or CUT_DONE of a clear-out or trim (R44, R45, R39, R40). -/
def State.taskFed (s : State) (t : Task) (cmd : EngineCommand) (pulses : Nat) (trim : Bool) : State :=
  let s1 := ((s.advancePosition pulses none).checkSlip cmd.lengthMm pulses none).1
  let t' : Task := { t with feedOver := true, pulses := some pulses }
  s1.setHolder (if trim then .trim t' else .clearOut t')

/-- A clear-out ends at its CUT_DONE (R45 step 3, R172). -/
def State.clearOutCut (s : State) (t : Task) : State :=
  ((s.setRoll { s.media.roll with clearOutPending := false }).postTask t.pulses true).setHolder .idle

/-- A trim ends at its CUT_DONE (R44 step 3, R171). -/
def State.trimCut (s : State) (t : Task) : State := (s.postTask t.pulses true).setHolder .idle

/-- CLEAN_DONE: the carried levels are drawn and posted to account 1 (R79, R112, R173). -/
def State.cleanDone (s : State) (levels : Vector Nat 12) : State :=
  let volumes : Vector Nat 12 := Vector.ofFn fun c => cleaningVolume levels[c]
  ((s.drawAll (Vector.ofFn fun c => volumes[c] * 10000)).postCleaning volumes).setHolder .idle

/-- PROBE_ACK: the probe run advances, and at 16 recovery is complete (R84). -/
def State.probeAcked (s : State) : State :=
  if s.engine.probeRun + 1 < 16 then s.setEngine { s.engine with probeRun := s.engine.probeRun + 1 }
  else
    ((s.setEngine { s.engine with errorCount := 0, probeRun := 0 }).setEngineState .ok).setHolder .idle

/-- READY as a correct report (R87, R75). -/
def State.readyTaken (s : State) : State :=
  (s.setEngine { s.engine with errorCount := 0, probeRun := 0, coverClosed := false, startUpFlag := true,
                               rollNoted := false, coverNoted := false }).setEngineState .ok

/-- A report of a command whose party has ended: its ink is drawn, its pulses change no position (R46, R95). -/
def State.orphanReport (s : State) (r : Report) : State :=
  match r.drops? with
  | none => s
  | some d => s.drawAll (s.volumes d)

/-- A report of the attempt's outstanding command (R51, R52, R55, R56, R59). -/
def State.attemptReport (s : State) (a : Attempt) (cmd : EngineCommand) : Report → State
  | .feedDone p => s.attemptFed a cmd p
  | .bandDone p d => s.attemptBanded a cmd p d
  | .bandStopped p d => s.attemptStopped a p d false
  | .stripDone p d rs => s.attemptStripped a cmd p d rs
  | .stripStopped p d => s.attemptStopped a p d true
  | .cutDone => s.attemptCut a
  | .cleanDone => s
  | .probeAck => s
  | .ready => s

/-- A report of a task's outstanding command. -/
def State.taskReport (s : State) (t : Task) (cmd : EngineCommand) (trim : Bool) : Report → State
  | .feedDone p => s.taskFed t cmd p trim
  | .cutDone => if trim then s.trimCut t else s.clearOutCut t
  | .bandDone _ _ => s
  | .bandStopped _ _ => s
  | .stripDone _ _ _ => s
  | .stripStopped _ _ => s
  | .cleanDone => s
  | .probeAck => s
  | .ready => s

/-- A correct report is delivered to the party that issued the command (R72 class 3). -/
def State.deliver (s : State) (cmd : EngineCommand) (party : Party) (r : Report) : State :=
  match party, s.holder with
  | .startUp, _ => s.readyTaken
  | .attempt, .attempt a => s.attemptReport a cmd r
  | .clearOut, .clearOut t => s.taskReport t cmd false r
  | .trim, .trim t => s.taskReport t cmd true r
  | .cleaning, .cleaning levels => s.cleanDone levels
  | .probing, .probing _ => s.probeAcked
  | _, _ => s.orphanReport r

/-- The outstanding command leaves the slot. -/
def State.freeSlot (s : State) : State := s.setEngine { s.engine with outstanding := none }

/-- A correct report (R72 class 3): slot, error count, delivery. -/
def State.correctReport (s : State) (o : Outstanding) (r : Report) : State :=
  (s.freeSlot.forgiveError).deliver o.command o.party r

/-! ### Late and mismatched reports, bad frames -/

/-- A late report's ink is drawn and posted to account 0 (R73, R174). -/
def State.lateInk (s : State) (r : Report) : State :=
  match r.drops? with
  | none => s
  | some d => (s.drawAll (s.volumes d)).postLateInk (s.volumes d)

/-- A late report's pulses are applied to the position (R73, R38). -/
def State.latePulses (s : State) (r : Report) : State :=
  match r.pulses? with
  | none => s
  | some p => s.advancePosition p ((s.attempt?).map (·.reference))

/-- A late report (R73). -/
def State.lateReport (s : State) (r : Report) : State :=
  let s1 := (s.setEngine { s.engine with expiredTag := none }).countLate
  (s1.lateInk r).latePulses r

/-- A mismatched report (R72 class 5). -/
def State.mismatchedReport (s : State) : State := s.countMismatch.addErrors 2

/-- A bad frame (R72 class 1). -/
def State.badFrame (s : State) : State := if s.working then (s.countEngineCrc.addErrors 4).serveSlot else s

/-- The command a report with this tag correctly answers, if it does (R72 class 3). -/
def State.answered? (s : State) (tag : Byte) (r : Report) : Option Outstanding :=
  match s.engine.outstanding with
  | none => none
  | some o => if o.tag = tag ∧ r.answers o.command then some o else none

/-- A report taken from the engine link: correct, late or mismatched, in the order of R72; then the slot is served. -/
def State.takeReport (s : State) (tag : Byte) (r : Report) : State :=
  if s.working then
    (match s.answered? tag r with
      | some o => s.correctReport o r
      | none => if s.engine.expiredTag = some tag then s.lateReport r else s.mismatchedReport).serveSlot
  else s

/-! ### Timeouts (R71) -/

/-- What the timed-out command's party does, when the state has not become OFF (R58, R79, R80, R84, R87). -/
def State.tellTimeout (s : State) (cmd : EngineCommand) (party : Party) : State :=
  match party, s.holder with
  | .startUp, _ => s.raise .engine
  | .attempt, .attempt a => s.setAttempt a.timedOut
  | .clearOut, .clearOut t =>
    s.setHolder (.clearOut { t with feedOver := t.feedOver || decide (cmd ≠ .cut) })
  | .trim, .trim t => s.setHolder (.trim { t with feedOver := t.feedOver || decide (cmd ≠ .cut) })
  | .cleaning, .cleaning levels => s.returnLevels levels
  | .probing, .probing due =>
    (s.setEngine { s.engine with probeRun := 0 }).setHolder (.probing due)
  | _, _ => s

/-- The timeout of the outstanding command (R71): steps 1 to 4, before the slot is served. -/
def State.timeOut (s : State) (o : Outstanding) : State :=
  let s1 := (s.setEngine { s.engine with outstanding := none, expiredTag := some o.tag }).countTimeout
  let s2 := s1.addErrors 8
  if s1.engine.state ≠ .off ∧ s2.engine.state = .off then s2 else s2.tellTimeout o.command o.party

/-- ENGINE_COMMAND_TIMEOUT: nothing when no command is outstanding. -/
def State.takeTimeout (s : State) : State :=
  match s.engine.outstanding with
  | none => s
  | some o => if s.working then (s.timeOut o).serveSlot else s

/-- One second after the last PROBE issue: a PROBE still outstanding has timed out, and the next one is issued
(R84). -/
def State.probeInterval (s : State) : State :=
  match s.holder with
  | .probing _ =>
    if s.working then
      let s1 := match s.engine.outstanding with
        | none => s
        | some o => s.timeOut o
      (s1.setHolder (.probing true)).serveSlot
    else s
  | _ => s

/-! ### Roll and cover events (R30, R46, R75) -/

/-- A report event noted as received since READY; with both, the start-up reports flag clears (R75). -/
def EngineLink.noted (e : EngineLink) (roll : Bool) : EngineLink :=
  if e.startUpFlag && decide (e.state ≠ .starting) then
    let rollNoted := e.rollNoted || roll
    let coverNoted := e.coverNoted || !roll
    { e with rollNoted := rollNoted, coverNoted := coverNoted, startUpFlag := !(rollNoted && coverNoted) }
  else e

/-- Whatever used the roll has ended: its outstanding command stays in the slot without a party (R46). -/
def State.orphanCommand (s : State) : State :=
  match s.engine.outstanding with
  | none => s
  | some o =>
    if o.party = .attempt ∨ o.party = .clearOut ∨ o.party = .trim then
      s.setEngine { s.engine with outstanding := some { o with party := .ended } }
    else s

/-- What was using the roll ends at once (R46). -/
def State.endRollUser (s : State) : State :=
  match s.holder with
  | .attempt a => s.orphanCommand.endAtOnce a .failedMedia false
  | .trim t => ((if t.pulses.isSome then s.postTask t.pulses false else s).orphanCommand).setHolder .idle
  | .clearOut _ => s.orphanCommand.setHolder .idle
  | .idle => s
  | .cleaning _ => s
  | .probing _ => s

/-- The removal of the declared roll (R30, R46). -/
def State.removeRoll (s : State) : State :=
  let s1 := s.setRoll { s.media.roll with declared := false, clearOutPending := false }
  let s2 := s1.setEngine { s1.engine with pendingTrim := none }
  ((s2.noteMedia .rollRemoved ((s2.attempt?).map (·.reference))).endRollUser).reevaluate

/-- Absent taken (R30). For a roll not present before nothing changes, but that a declaration loaded at the start falls,
with its clear-out, at the absent that follows READY (the last paragraph of R30; R67, R87, R219). R30's two sentences meet
there, and the model lets the second decide once the state is not STARTING (log entry 21). -/
def State.rollAbsent (s : State) : State :=
  if s.media.present || (s.media.roll.declared && decide (s.engine.state ≠ .starting)) then
    let s1 := s.setMedia { s.media with present := false }
    if s.media.roll.declared then s1.removeRoll else s1
  else s

/-- A ROLL_EVENT; a byte other than 0 or 1 is not used (R30, R75, R225). -/
def State.takeRollEvent (s : State) (present : Byte) : State :=
  if present = 1 then
    let s1 := s.setMedia { s.media with present := true }
    (s1.setEngine (s1.engine.noted true)).serveSlot
  else if present = 0 then
    let s1 := s.rollAbsent
    (s1.setEngine (s1.engine.noted true)).serveSlot
  else s

/-- A COVER_EVENT; a byte other than 0 or 1 is not used (R75, R225). -/
def State.takeCoverEvent (s : State) (closed : Byte) : State :=
  if closed = 0 ∨ closed = 1 then
    (s.setEngine ({ s.engine with coverClosed := closed == 1 }.noted false)).serveSlot
  else s

/-- An engine event while the part works (R74). -/
def State.whenWorking (s : State) (f : State → State) : State := if s.working then f s else s

end Sys2Proof.Machine
end

