-- ==== Sys2Proof/Machine/Store.lean ====
section
/-! DEFINITION. The retained store: the copy, writes and their ends, the load and start-up, PART_RESET, the soft reset,
power-up and power loss (chapter 11). -/

set_option Elab.async false

namespace Sys2Proof.Machine

/-- The retained set as it stands: what a write copies (R212, R213). -/
def State.retained (s : State) : Retained :=
  { kinds := s.media.kinds, roll := s.media.roll, settings := s.colour.settings, gainSets := s.colour.gainSets,
    editions := s.editions, prices := s.costs.prices, version := s.costs.version, accounts := s.costs.accounts,
    bays := s.ink.bays, sizes := s.ink.sizes, channels := Vector.ofFn fun c => (s.ink.channels[c]).retained,
    uncut := s.uncut, autoRecovery := s.engine.autoRecovery }

/-- Whether a write may begin: always outside the quiet time; within it while an attempt is left (R220 step 4). -/
def State.mayWrite (s : State) : Bool :=
  match s.quiet with
  | none => true
  | some q => decide (0 < q.writesLeft)

/-- A write begins when the store is dirty and none is in flight (R213); in the quiet time it uses up one of the
attempts of R220 step 4. -/
def State.beginWrite (s : State) : State :=
  if s.store.dirty && s.store.writing.isNone && s.mayWrite then
    (s.setStore { s.store with dirty := false, writing := some s.retained }).setQuiet
      (s.quiet.map fun q => { q with writesLeft := q.writesLeft - 1 })
  else s

/-- The write in flight ends, as written or failed (R214, R215). -/
def State.endWrite (s : State) (copy : Retained) : WriteResult → State
  | .written =>
    s.setStore { s.store with image := .intact copy, writing := none, lastWrite := some s.clock, lastFailed := false }
  | .failed imageKept =>
    (s.setStore { s.store with image := if imageKept then s.store.image else .lost, writing := none, dirty := true,
                               failedWrites := satAdd 255 s.store.failedWrites 1, event := .storeFault,
                               lastFailed := true }).raise .system

/-- STORE_WRITE_END: nothing when no write is in flight. -/
def State.storeWriteEnd (s : State) (result : WriteResult) : State :=
  match s.store.writing with
  | none => s
  | some copy => s.endWrite copy result

/-- The store state STATUS_QUERY shows (R198): CLEAN 0, DIRTY 1, WRITING 2. -/
def RetainedStore.stateCode (r : RetainedStore) : Nat :=
  if r.writing.isSome then 2 else if r.dirty then 1 else 0

/-- The load of R217 with the reset values in place: the image, or the factory defaults with STORE_LOST, SYSTEM and the
dirty flag. -/
def State.load (image : Image) (pending : List Instr) (freeReads : Nat) : State :=
  match image with
  | .intact r => State.loaded r image pending freeReads
  | .lost =>
    let s := State.loaded Retained.factory image pending freeReads
    (s.setStore { s.store with event := .storeLost, dirty := true }).raise .system

/-- Steps 1 and 5 of R218: an uncut marker found set becomes a clear-out (R67), and ENGINE_RESET is issued. -/
def State.settle (s : State) : State :=
  let s1 := if s.uncut then (s.setRoll { s.media.roll with clearOutPending := true }).writeUncut false else s
  s1.serveSlot

/-- What cutting off the power does to the memory: an image being written is lost (R214, R221). -/
def RetainedStore.cutOff (r : RetainedStore) : Image := if r.writing.isSome then .lost else r.image

/-- The power-up sequence (R217, R218). -/
def State.powerUp (s : State) (memoryKept : Bool) : State :=
  (State.load (if memoryKept then s.store.cutOff else .lost) s.pending s.freeReads).settle

/-- RST_N asserted or power lost (R221): the part is held, and only the image remains. -/
def State.powerLoss (s : State) : State :=
  { State.loaded Retained.factory s.store.cutOff s.pending s.freeReads with held := true }

/-- The conditions of R220 step 5: the PART_RESET reply sent whole, no write in flight and none to begin. -/
def State.softResetDue (s : State) : Bool :=
  match s.quiet with
  | none => false
  | some q => q.replySent && s.store.writing.isNone && (!s.store.dirty || decide (q.writesLeft = 0))

/-- STORE_FAULT and SYSTEM at a soft reset whose last write before it failed, unless STORE_LOST stands (R220). -/
def State.faultAtReset (s : State) (lastFailed : Bool) : State :=
  if lastFailed then
    (if s.store.event = .storeLost then s else s.setStore { s.store with event := .storeFault }).raise .system
  else s

/-- The soft reset (R220 step 5): the power-up sequence with the image just written. -/
def State.softReset (s : State) : State :=
  if s.softResetDue then
    ((State.load s.store.image s.pending s.freeReads).faultAtReset s.store.lastFailed).settle
  else s

/-- Steps 1 and 2 of R220, and the beginning of the quiet time (step 3): the attempt is abandoned without outcome or
posting (R66) and the store is marked, a trim that had fed sets clear-out pending and marks the store, and nothing holds
the slot any more. Both steps mark the store outright, whether or not a retained field changes (log entry 11). -/
def State.goQuiet (s : State) : State :=
  let s1 := match s.holder with
    | .attempt _ => ((if s.uncut then s.setClearOut else s).writeUncut false).markDirty
    | .trim t => if 0 < t.pulses.getD 0 then s.setClearOut.markDirty else s
    | .idle => s
    | .clearOut _ => s
    | .cleaning _ => s
    | .probing _ => s
  ((s1.freeSlot).setHolder .idle).setQuiet (some { replySent := false, writesLeft := 3 })

end Sys2Proof.Machine
end

