-- ==== Sys2Proof/Machine/ServerLink.lean ====
section
/-! DEFINITION. The server link: replies and notices going out, requests taken, frames received; and the receiver both
links share (R185 to R196, R204, R205). -/

set_option Elab.async false

namespace Sys2Proof.Machine

/-! ### Sending (R196, R204, R205) -/

/-- A reply's payload (R223): status, the kind answered, and the fields, which only OK and ADJUSTED carry. -/
def replyPayload (kind : Byte) (status : Status) (fields : List Byte) : List Byte :=
  u8 status.code ++ [kind] ++ fields

/-- A NOTICE payload (R223). -/
def noticePayload (set : Byte) (clock : Word32) : List Byte := [set] ++ word32 clock

/-- The transmitter starts on the oldest frame of `tx`: a reply as it stands; a NOTICE with the categories pending and
enabled now, or, when there is none, removed unsent and the next frame taken (R196, R204). -/
def State.startFrom (s : State) : List TxFrame → State
  | [] => s.setServer { s.server with tx := [], sending := none }
  | .reply tag kind status fields :: rest =>
    s.setServer { s.server with tx := .reply tag kind status fields :: rest,
                                sending := some (frameBytes 0x80 tag (replyPayload kind status fields)) }
  | .notice :: rest =>
    if s.notices.pending &&& s.notices.enabled = 0 then
      (s.setNotices { s.notices with place := .none }).startFrom rest
    else
      (s.setServer { s.server with
          tx := .notice :: rest,
          sending := some (frameBytes 0x81 0 (noticePayload (s.notices.pending &&& s.notices.enabled) s.clock)) }).setNotices
        { s.notices with place := .sending }

/-- Whether the PART_RESET reply has been sent whole, after which nothing more is sent (R200, R220). -/
def State.silent (s : State) : Bool :=
  match s.quiet with
  | none => false
  | some q => q.replySent

/-- The transmitter, when free, starts the oldest frame. -/
def State.kick (s : State) : State :=
  if s.silent || s.server.sending.isSome then s else s.startFrom s.server.tx

/-- The SENDING notice has left: a notice owed queues the next one (R205). -/
def State.noticeSent (s : State) : State :=
  if s.notices.owed then
    (s.setServer { s.server with tx := s.server.tx ++ [.notice] }).setNotices
      { s.notices with place := .awaiting, owed := false }
  else s.setNotices { s.notices with place := .none }

/-- What follows when this frame has been sent whole: the place of a NOTICE, or the end of the PART_RESET reply. -/
def State.frameSent (s : State) : TxFrame → State
  | .notice => s.noticeSent
  | .reply _ kind status _ =>
    if kind = 0x71 ∧ status = .ok then s.setQuiet (s.quiet.map fun q => { q with replySent := true }) else s

/-- The frame being sent leaves the transmit queue (R196). -/
def State.finishSending (s : State) : State :=
  match s.server.sending, s.server.tx with
  | some _, f :: rest => (s.setServer { s.server with tx := rest, sending := none }).frameSent f
  | _, _ => s

/-! ### Counters (R208) -/

def State.setServerCounters (s : State) (c : ServerCounters) : State := s.setServer { s.server with counters := c }

def State.countTaken (s : State) : State :=
  s.setServerCounters { s.server.counters with framesTaken := advanceCounter s.server.counters.framesTaken }

def State.countServerCrc (s : State) : State :=
  s.setServerCounters { s.server.counters with crcErrors := advanceCounter s.server.counters.crcErrors }

def State.countDiscard (s : State) : State :=
  s.setServerCounters { s.server.counters with discards := advanceCounter s.server.counters.discards }

def State.countOverrun (s : State) : State :=
  s.setServerCounters { s.server.counters with overruns := advanceCounter s.server.counters.overruns }

/-! ### Taking requests (R192 to R194) -/

/-- What a request's own rule gives: the state after its effects, the status, and the result fields. -/
structure Answer where
  state : State
  status : Status
  fields : List Byte

/-- A refusal: nothing changes (R194). -/
def State.refuse (s : State) (status : Status) : Answer := { state := s, status := status, fields := [] }

/-- An accepted request answered OK. -/
def State.accept (s : State) (fields : List Byte) : Answer := { state := s, status := .ok, fields := fields }

/-- An accepted request answered ADJUSTED when a value was clamped, and OK otherwise (R195). -/
def State.acceptIf (s : State) (clamped : Bool) (fields : List Byte) : Answer :=
  { state := s, status := if clamped then .adjusted else .ok, fields := fields }

/-- A request's rule: from the payload and the state to its answer. -/
abbrev RequestRule := List Byte → State → Answer

/-- The number of reply frames in the transmit queue (R196). -/
def replyCount : List TxFrame → Nat
  | [] => 0
  | .reply _ _ _ _ :: rest => replyCount rest + 1
  | .notice :: rest => replyCount rest

/-- A request is taken whole: counted, carried out, and its one reply queued (R192, R194). -/
def State.takeRequest (s : State) (f : Frame) (rule : RequestRule) : State :=
  let a := rule f.payload s.countTaken
  a.state.setServer { a.state.server with tx := a.state.server.tx ++ [.reply f.tag f.kind a.status a.fields] }

/-- Room to queue a reply, in a part that takes frames (R192, R220). -/
def State.takesRequests (s : State) : Bool := s.working && decide (replyCount s.server.tx < 4)

/-- Takes held frames from the head while there is room for a reply, at most `fuel` of them (R192). `rules` gives each
kind its rule. -/
def State.drain (rules : Byte → RequestRule) : Nat → State → State
  | 0, s => s
  | fuel + 1, s =>
    match s.server.holding with
    | [] => s
    | f :: rest =>
      if s.takesRequests then
        State.drain rules fuel ((s.setServer { s.server with holding := rest }).takeRequest f (rules f.kind))
      else s

/-- A good frame offered to the receive holding queue; an overrun when it holds four (R191). -/
def State.hold (s : State) (f : Frame) : State :=
  if s.server.holding.length < 4 then s.setServer { s.server with holding := s.server.holding ++ [f] }
  else s.countOverrun

/-- A good server link frame: taken at once when nothing is held before it and a reply has room; otherwise offered to
the holding queue, from whose head frames are then taken (R191, R192). -/
def State.receiveFrame (s : State) (rules : Byte → RequestRule) (f : Frame) (rule : RequestRule) : State :=
  if s.server.holding = [] ∧ s.takesRequests then s.takeRequest f rule
  else State.drain rules 4 (s.hold f)

/-- A frame has left the server link: the transmitter takes the next one, then held requests take the room
(R192, R196). -/
def State.transmitComplete (s : State) (rules : Byte → RequestRule) : State :=
  match s.server.sending with
  | none => s
  | some _ => State.drain rules 4 s.finishSending.kick

/-! ### Receiving bytes (R187 to R190) -/

/-- The receiver of a link. -/
def State.receiver (s : State) : Link → Receiver
  | .server => s.server.receiver
  | .engine => s.engine.receiver

def State.setReceiver (s : State) (link : Link) (r : Receiver) : State :=
  match link with
  | .server => s.setServer { s.server with receiver := r }
  | .engine => s.setEngine { s.engine with receiver := r }

/-- The length field of the bytes held: the first two, least significant first (R185). -/
def Receiver.payloadLength (bytes : List Byte) : Nat := u16At bytes 0

/-- The part that follows once `bytes` are held; HUNTING stands for a frame whose last byte is in (R187). -/
def Receiver.phaseOf (bytes : List Byte) : RxPhase :=
  if bytes.length < 2 then .length
  else if bytes.length = 2 then .kind
  else if bytes.length = 3 then .tag
  else if bytes.length < 4 + Receiver.payloadLength bytes then .payload
  else if bytes.length < 6 + Receiver.payloadLength bytes then .crc
  else .hunting

/-- Whether the frame held is complete and its CRC is good (R186, R190). -/
def crcGood (bytes : List Byte) : Bool :=
  let n := bytes.length
  let c := crc16 (bytes.take (n - 2))
  decide (bytes.drop (n - 2) = [(c >>> 8).setWidth 8, c.setWidth 8])

/-- The frame in the bytes held: kind, tag and the payload between them and the CRC. -/
def frameOf (bytes : List Byte) : Frame :=
  { kind := bytes.getD 2 0, tag := bytes.getD 3 0, payload := (bytes.drop 4).take (bytes.length - 6) }

/-- The frame in progress is discarded: HUNTING, and a discard on the server link or a bad frame on the engine link
(R187 to R189). -/
def State.discard (s : State) (link : Link) : State :=
  let s1 := s.setReceiver link Receiver.idle
  match link with
  | .server => s1.countDiscard
  | .engine => s1.badFrame

end Sys2Proof.Machine
end

