-- ==== Sys2Proof/Machine/OrderRequests.lean ====
section
/-! DEFINITION. The requests of the order table and scheduler: SUBMIT to READ_CLOCK (R4 to R15, R20; layouts of
section 12.4). -/

set_option Elab.async false

namespace Sys2Proof.Machine

/-! ### Shared by every request family -/

/-- The status of the first check that fails, in the order listed (R194). -/
def firstRefusal : List (Bool × Status) → Option Status
  | [] => none
  | (fails, status) :: rest => if fails then some status else firstRefusal rest

/-- A request carried out unless one of its checks fails (R194). -/
def State.checked (s : State) (checks : List (Bool × Status)) (carryOut : Answer) : Answer :=
  match firstRefusal checks with
  | some status => s.refuse status
  | none => carryOut

/-- The payload is of the length its layout gives (R194). -/
def wrongLength (p : List Byte) (n : Nat) : Bool := decide (p.length ≠ n)

/-- A channel set of twelve bits from its u16 (R222). -/
def channelSet (n : Nat) : BitVec 12 := BitVec.ofNat 12 n

/-- A channel set that names a channel above 11 (R222). -/
def badChannelSet (n : Nat) : Bool := decide (4096 ≤ n)

/-! ### SUBMIT (R4 to R8) -/

/-- The fields of SUBMIT as they stand in its payload. -/
structure SubmitFields where
  reference : Word32
  account : Nat
  mediaKind : Nat
  edition : Option Word32
  printLength : Nat
  printWidth : Nat
  channels : Option Nat
  priority : Nat
  deadline : Option Word32
  ceiling : Option Nat
  stopAtCeiling : Bool
  check : Nat
  attemptsAllowed : Nat
  deriving DecidableEq, Repr

/-- Step 1 of R4: the length, the four indicators and the stop-at-ceiling flag. -/
def submitMalformed (p : List Byte) : Bool :=
  wrongLength p 34 || !flagOk p 6 || !flagOk p 15 || !flagOk p 19 || !flagOk p 24 || !flagOk p 31

/-- The SUBMIT layout (section 12.4). -/
def submitFields (p : List Byte) : SubmitFields :=
  { reference := word32At p 0, account := byteAt p 4, mediaKind := byteAt p 5,
    edition := optionalAt p 6 (word32At p), printLength := u16At p 11, printWidth := u16At p 13,
    channels := optionalAt p 15 (u16At p), priority := byteAt p 18, deadline := optionalAt p 19 (word32At p),
    ceiling := optionalAt p 24 (u48At p), stopAtCeiling := flagAt p 31, check := byteAt p 32,
    attemptsAllowed := byteAt p 33 }

/-- The media kind named, once it is known to be 0 to 7. -/
def SubmitFields.kind (f : SubmitFields) : Fin 8 := Fin.ofNat 8 f.mediaKind

/-- The edition record a SUBMIT names, if it is present. -/
def State.namedEdition (s : State) (edition : Option Word32) : Option Edition :=
  (edition.bind s.findEdition).bind fun i => s.editions[i]

/-- Step 2 of R4. -/
def State.submitOutOfRange (s : State) (f : SubmitFields) : Bool :=
  decide (f.account < 2) || decide (63 < f.account) || decide (7 < f.mediaKind) ||
    decide (f.printLength < 50) || decide (30000 < f.printLength) ||
    decide (f.printWidth < 100) || decide (1600 < f.printWidth) ||
    (match f.channels with | some n => decide (n = 0) || badChannelSet n | none => false) ||
    decide (1 < f.check) ||
    (match s.namedEdition f.edition with | some e => decide (e.mediaKind.val ≠ f.mediaKind) | none => false)

/-- Step 4 of R5. -/
def State.submitNotFound (s : State) (f : SubmitFields) : Bool :=
  (s.media.kinds[f.kind]).isNone || (f.edition.isSome && (s.namedEdition f.edition).isNone)

/-- Step 5 of R5. -/
def State.submitEditionClosed (s : State) (f : SubmitFields) : Bool :=
  match s.namedEdition f.edition with
  | some e => decide (e.state = .complete) || decide (e.state = .closed)
  | none => false

/-- Step 6 of R5. -/
def State.submitEditionFull (s : State) (f : SubmitFields) : Bool :=
  match s.namedEdition f.edition with
  | some e => decide (e.accepted + s.unfinishedNaming e.reference = e.size)
  | none => false

/-- The check after clamping: CHECK when asked for, and always for an order of an edition (R7). -/
def SubmitFields.checks (f : SubmitFields) : Bool := decide (f.check = 1) || f.edition.isSome

/-- Step 7 of R6. -/
def State.submitNoReference (s : State) (f : SubmitFields) : Bool :=
  f.checks && (s.chosenReference f.edition f.kind).isNone

/-- Step 8 of R6. -/
def State.submitOverCeiling (s : State) (f : SubmitFields) : Bool :=
  match f.ceiling with
  | some c => decide (c < s.estimate (needMm (s.margins f.kind) f.printLength f.checks) f.kind)
  | none => false

/-- The lowest-numbered free slot (R1). -/
def State.freeSlot? (s : State) : Option (Fin 40) := firstIndex fun i => (s.orders.slots[i]).isNone

/-- Some field of R7 is clamped. -/
def SubmitFields.clamped (f : SubmitFields) : Bool :=
  decide (7 < f.priority) || decide (f.attemptsAllowed = 0) || decide (4 < f.attemptsAllowed) ||
    (f.edition.isSome && decide (f.check = 0))

/-- The record at admission, before its eligibility is evaluated (R2, R7, R8 step 2). -/
def SubmitFields.record (f : SubmitFields) (clock : Word32) : Order :=
  { reference := f.reference, state := .queued, account := Fin.ofNat 64 f.account, mediaKind := f.kind,
    edition := f.edition, printLength := f.printLength, printWidth := f.printWidth,
    channels := channelSet (f.channels.getD 4095), priority := min 7 f.priority, deadline := f.deadline,
    ceiling := f.ceiling, stopAtCeiling := f.stopAtCeiling, check := f.checks,
    attemptsAllowed := max 1 (min 4 f.attemptsAllowed), acceptedTime := clock,
    late := match f.deadline with | some d => decide (d ≤ clock) | none => false }

/-- The checks of R4 to R6, in their order. -/
def State.submitChecks (s : State) (f : SubmitFields) : List (Bool × Status) :=
  [(s.submitOutOfRange f, .badField), ((s.findOrder f.reference).isSome, .duplicate),
   (s.submitNotFound f, .notFound), (s.submitEditionClosed f, .wrongState), (s.submitEditionFull f, .editionFull),
   (s.submitNoReference f, .noReference), (s.submitOverCeiling f, .overCeiling), (s.freeSlot?.isNone, .full)]

/-- Steps 1 to 3 of R8: the record in its slot, at the end of the arrival list, evaluated; LATE for a deadline already
reached. -/
def State.admitted (s : State) (i : Fin 40) (o : Order) : State :=
  let s1 := s.setOrders { s.orders with slots := s.orders.slots.set i (some (s.evaluated o)),
                                        arrival := s.orders.arrival ++ [i] }
  s1.raiseIf o.late .late

/-- Admission and the re-evaluation and selection that follow it (R8); the reply holds the values of step 3. -/
def State.placeOrder (s : State) (f : SubmitFields) : Answer :=
  match s.freeSlot? with
  | none => s.refuse .full
  | some i =>
    let o := s.evaluated (f.record s.clock)
    (((s.admitted i (f.record s.clock)).reevaluate).serveSlot).acceptIf f.clamped
      (u8 i.val ++ u8 o.state.code ++ u8 o.holds.code)

/-- SUBMIT (R4 to R8). -/
def takeSubmit : RequestRule := fun p s =>
  if submitMalformed p then s.refuse .badLength
  else s.checked (s.submitChecks (submitFields p)) (s.placeOrder (submitFields p))

/-! ### AMEND (R9, R10) -/

/-- The AMEND layout: the reference, then a marker and a value for each of priority, deadline, ceiling and stop at
ceiling; 20 bytes (log entry 14). -/
def amendMalformed (p : List Byte) : Bool :=
  wrongLength p 20 || decide (1 < byteAt p 4) || decide (2 < byteAt p 6) || decide (2 < byteAt p 11) ||
    decide (1 < byteAt p 18) || (decide (byteAt p 18 = 1) && !flagOk p 19)

/-- Step 5 of R9. -/
def State.amendOverCeiling (s : State) (p : List Byte) (o : Order) : Bool :=
  decide (byteAt p 11 = 1) && decide (u48At p 12 < s.estimate (s.orderNeed o) o.mediaKind)

/-- A field that can be left, set or removed. -/
def changed {α : Type} (marker : Nat) (value : α) (old : Option α) : Option α :=
  if marker = 1 then some value else if marker = 2 then none else old

/-- The record with the fields of an accepted AMEND, and its late flag settled against the deadline that results
(R10). -/
def Order.amended (o : Order) (p : List Byte) (clock : Word32) : Order :=
  let o1 : Order :=
    { o with priority := if byteAt p 4 = 1 then min 7 (byteAt p 5) else o.priority,
             deadline := changed (byteAt p 6) (word32At p 7) o.deadline,
             ceiling := changed (byteAt p 11) (u48At p 12) o.ceiling,
             stopAtCeiling := if byteAt p 18 = 1 then flagAt p 19 else o.stopAtCeiling }
  { o1 with late := o1.pastDeadline clock }

/-- An accepted AMEND and the re-evaluation and selection that follow it (R10). -/
def State.amend (s : State) (i : Fin 40) (o : Order) (p : List Byte) : Answer :=
  let o' := o.amended p s.clock
  ((((s.setOrder i o').raiseIf (o'.late && !o.late) .late).reevaluate).serveSlot).acceptIf
    (decide (byteAt p 4 = 1) && decide (7 < byteAt p 5)) []

/-- AMEND (R9, R10). -/
def takeAmend : RequestRule := fun p s =>
  if amendMalformed p then s.refuse .badLength
  else match s.findOrder (word32At p 0) with
    | none => s.refuse .notFound
    | some i => match s.orders.slots[i] with
      | none => s.refuse .notFound
      | some o =>
        s.checked
          [(decide (o.state = .active), .busy), (!o.state.unfinished, .wrongState),
           (s.amendOverCeiling p o, .overCeiling)]
          (s.amend i o p)

/-! ### CANCEL, RELEASE, queries (R11 to R14) -/

/-- CANCEL (R11). -/
def takeCancel : RequestRule := fun p s =>
  if wrongLength p 4 then s.refuse .badLength
  else match s.findOrder (word32At p 0) with
    | none => s.refuse .notFound
    | some i => match s.orders.slots[i] with
      | none => s.refuse .notFound
      | some o => match o.state with
        | .queued => (s.finishOrder i o .cancelled).accept []
        | .held => (s.finishOrder i o .cancelled).accept []
        | .active => (s.setOrder i { o with cancelRequested := true }).accept []
        | .completed => s.refuse .wrongState
        | .failed => s.refuse .wrongState
        | .cancelled => s.refuse .wrongState
        | .stopped => s.refuse .wrongState

/-- RELEASE (R12). -/
def takeRelease : RequestRule := fun p s =>
  if wrongLength p 4 then s.refuse .badLength
  else match s.findOrder (word32At p 0) with
    | none => s.refuse .notFound
    | some i => match s.orders.slots[i] with
      | none => s.refuse .notFound
      | some o =>
        s.checked [(o.state.unfinished, .wrongState)]
          ((s.setOrders { s.orders with slots := s.orders.slots.set i none }).accept [])

/-- The six figures of the cost summary (R182). -/
def CostSummary.fields (c : CostSummary) : List Byte :=
  u48 c.ownInk ++ u48 c.ownMedia ++ u48 c.ownCut ++ u48 c.handling ++ u48 c.ownTotal ++ u48 c.spoiledTotal

/-- The order record as returned (section 12.4). -/
def Order.fields (o : Order) (slot : Fin 40) : List Byte :=
  word32 o.reference ++ u8 slot.val ++ u8 o.state.code ++ u8 o.holds.code ++ u8 o.account.val ++ u8 o.mediaKind.val ++
    optionalField 4 word32 o.edition ++ u16 o.printLength ++ u16 o.printWidth ++ u16 o.channels.toNat ++
    u8 o.priority ++ optionalField 4 word32 o.deadline ++ optionalField 6 u48 o.ceiling ++ flag o.stopAtCeiling ++
    flag o.check ++ u8 o.attemptsAllowed ++ u8 o.attemptsUsed ++ word32 o.acceptedTime ++
    optionalField 4 word32 o.firstStart ++ optionalField 4 word32 o.endTime ++ flag o.late ++ flag o.cancelRequested ++
    optionalField 1 (fun x => u8 x.code) o.lastOutcome ++ optionalField 2 u16 o.editionNumber ++ o.cost.fields ++
    optionalField 4 (fun x => u16 x.1 ++ u16 x.2) o.lastStrip

/-- ORDER_QUERY (R13). -/
def takeOrderQuery : RequestRule := fun p s =>
  if wrongLength p 4 then s.refuse .badLength
  else match s.findOrder (word32At p 0) with
    | none => s.refuse .notFound
    | some i => match s.orders.slots[i] with
      | none => s.refuse .notFound
      | some o => s.accept (o.fields i)

/-- The reference of the order in a slot, when its state is in the set and its class is the one asked for. -/
def State.listed (s : State) (set : Byte) (unfinished : Bool) (i : Fin 40) : Option Word32 :=
  match s.orders.slots[i] with
  | none => none
  | some o => if set.getLsbD o.state.code && o.state.unfinished == unfinished then some o.reference else none

/-- The references ORDER_LIST returns: unfinished in arrival-list order, then final by slot (R14). -/
def State.orderList (s : State) (set : Byte) : List Word32 :=
  s.orders.arrival.filterMap (s.listed set true) ++ (List.finRange 40).filterMap (s.listed set false)

/-- ORDER_LIST (R14). -/
def takeOrderList : RequestRule := fun p s =>
  if wrongLength p 1 then s.refuse .badLength
  else
    s.checked [(decide (128 ≤ byteAt p 0), .badField)]
      (s.accept (u8 (s.orderList (p.getD 0 0)).length ++ (s.orderList (p.getD 0 0)).flatMap word32))

/-! ### PAUSE, RESUME and the clock (R15, R20) -/

/-- PAUSE (R15). -/
def takePause : RequestRule := fun p s =>
  if wrongLength p 0 then s.refuse .badLength else (s.setOrders { s.orders with paused := true }).accept []

/-- RESUME (R15): selection may follow at once. -/
def takeResume : RequestRule := fun p s =>
  if wrongLength p 0 then s.refuse .badLength
  else ((s.setOrders { s.orders with paused := false }).serveSlot).accept []

/-- A new clock value, followed by the lateness scan (R20, R21). -/
def State.setClockTo (s : State) (w : Word32) : State := (s.setOrders { s.orders with clock := w }).latenessScan

/-- SET_CLOCK (R20). -/
def takeSetClock : RequestRule := fun p s =>
  if wrongLength p 4 then s.refuse .badLength else (s.setClockTo (word32At p 0)).accept []

/-- READ_CLOCK (R20). -/
def takeReadClock : RequestRule := fun p s =>
  if wrongLength p 0 then s.refuse .badLength else s.accept (word32 s.clock)

end Sys2Proof.Machine
end

