-- ==== Sys2Proof/Machine/MediaRequests.lean ====
section
/-! DEFINITION. The requests of the media unit: MEDIA_DEFINE to TRIM (R26 to R28, R31 to R33, R43). Their layouts follow
the field order of their rules and the widths of R222 (log entry 14). -/

set_option Elab.async false

namespace Sys2Proof.Machine

/-- A media kind number of a payload, once it is known to be 0 to 7. -/
def kindAt (p : List Byte) (i : Nat) : Fin 8 := Fin.ofNat 8 (byteAt p i)

/-! ### MEDIA_DEFINE, MEDIA_QUERY (R26 to R28) -/

/-- MEDIA_DEFINE: kind, name, band length, dwell, and lead, tail and strip margin as optional fields; 20 bytes. -/
def mediaDefineMalformed (p : List Byte) : Bool :=
  wrongLength p 20 || !flagOk p 12 || !flagOk p 15 || !flagOk p 18

/-- Some field of R27 is clamped. -/
def mediaDefineClamped (p : List Byte) : Bool :=
  (flagAt p 12 && decide (200 < u16At p 13)) || (flagAt p 15 && decide (500 < u16At p 16)) ||
    (flagAt p 18 && (decide (byteAt p 19 < 30) || decide (80 < byteAt p 19))) || decide (600 < u16At p 10)

/-- The entry an accepted MEDIA_DEFINE leaves, over the one held before (R24, R27). -/
def mediaDefined (p : List Byte) (old : Option MediaKind) : MediaKind :=
  { name := textAt 8 p 1
    bandLength := byteAt p 9
    lead := if flagAt p 12 then min 200 (u16At p 13) else (old.map (·.lead)).getD 30
    tail := if flagAt p 15 then min 500 (u16At p 16) else (old.map (·.tail)).getD 30
    stripMargin := if flagAt p 18 then max 30 (min 80 (byteAt p 19)) else (old.map (·.stripMargin)).getD 40
    dwell := min 600 (u16At p 10) }

/-- The order table holds an ACTIVE order of this kind (R26 check 3). -/
def State.kindActive (s : State) (k : Fin 8) : Bool :=
  (List.finRange 40).any fun i => match s.orders.slots[i] with
    | some o => decide (o.state = .active) && o.mediaKind == k
    | none => false

/-- The verdict settings of a kind at its first definition (R118). -/
def VerdictSettings.first : VerdictSettings :=
  { reference := none, maxTolerance := 300, meanTolerance := 150, driftLevel := 100, patches := 0xFFFF#16 }

/-- What a kind's first definition brings into use: its verdict settings and its gain set with its check state (R118,
R127, R137, R139). -/
def State.firstDefinition (s : State) (k : Fin 8) : State :=
  s.setColour
    { settings := s.colour.settings.set k (some VerdictSettings.first)
      gainSets := s.colour.gainSets.set (kindSet k) (some GainSet.first)
      checks := s.colour.checks.set (kindSet k) (CheckState.fresh .continuous) }

/-- An accepted MEDIA_DEFINE (R27), before its re-evaluation. -/
def State.defineKind (s : State) (k : Fin 8) (m : MediaKind) : State :=
  let s1 := s.setMedia { s.media with kinds := s.media.kinds.set k (some m) }
  (if (s.media.kinds[k]).isSome then s1 else s1.firstDefinition k).markDirty

/-- MEDIA_DEFINE (R26, R27). -/
def takeMediaDefine : RequestRule := fun p s =>
  if mediaDefineMalformed p then s.refuse .badLength
  else
    s.checked
      [(decide (7 < byteAt p 0) || decide (byteAt p 9 = 0), .badField), (s.kindActive (kindAt p 0), .busy)]
      ((((s.defineKind (kindAt p 0) (mediaDefined p s.media.kinds[kindAt p 0])).reevaluate).serveSlot).acceptIf
        (mediaDefineClamped p) [])

/-- The fields MEDIA_QUERY returns (R28). -/
def MediaKind.fields (m : MediaKind) : List Byte :=
  m.name.toList ++ u8 m.bandLength ++ u8 (effectiveBand m.bandLength) ++ u16 m.lead ++ u16 m.tail ++
    u8 m.stripMargin ++ u16 m.dwell

/-- MEDIA_QUERY (R28). -/
def takeMediaQuery : RequestRule := fun p s =>
  if wrongLength p 1 then s.refuse .badLength
  else if 7 < byteAt p 0 then s.refuse .badField
  else match s.media.kinds[kindAt p 0] with
    | none => s.refuse .notFound
    | some m => s.accept m.fields

/-! ### The roll (R31 to R33) -/

/-- The printer activity is ATTEMPT, CLEAR_OUT or TRIM. -/
def Holder.usesRoll : Holder → Bool
  | .idle => false
  | .attempt _ => true
  | .clearOut _ => true
  | .cleaning _ => false
  | .trim _ => true
  | .probing _ => false

/-- The roll an accepted ROLL_DECLARE leaves (R31). -/
def Roll.declare (r : Roll) (kind : Fin 8) (width length : Nat) : Roll :=
  { r with declared := true, mediaKind := kind, width := width, length := length, position := 0,
           zones := Vector.replicate 8 Zone.inert }

/-- ROLL_DECLARE: kind u8, width u16, length u32 (R31). -/
def takeRollDeclare : RequestRule := fun p s =>
  if wrongLength p 7 then s.refuse .badLength
  else
    s.checked
      [(decide (7 < byteAt p 0) || decide (u16At p 1 < 300) || decide (1600 < u16At p 1) || decide (u32At p 3 < 1000) ||
          decide (200000 < u32At p 3), .badField),
       ((s.media.kinds[kindAt p 0]).isNone, .notFound), (!s.media.present, .wrongState),
       (s.holder.usesRoll || s.engine.pendingTrim.isSome, .busy)]
      ((((s.setRoll (s.media.roll.declare (kindAt p 0) (u16At p 1) (u32At p 3))).reevaluate).serveSlot).accept [])

/-- Writes one flaw zone; the re-evaluation and any selection follow (R32). -/
def State.writeZone (s : State) (zone : Fin 8) (z : Zone) : Answer :=
  (((s.setRoll { s.media.roll with zones := s.media.roll.zones.set zone z }).reevaluate).serveSlot).accept []

/-- FLAW_MARK: zone u8, start u32, end u32 (R32). -/
def takeFlawMark : RequestRule := fun p s =>
  if wrongLength p 9 then s.refuse .badLength
  else
    s.checked
      [(decide (7 < byteAt p 0) || decide (200000 < u32At p 1) || decide (200000 < u32At p 5), .badField),
       (!s.media.roll.declared, .wrongState)]
      (s.writeZone (kindAt p 0) { start := u32At p 1, stop := u32At p 5 })

/-- FLAW_CLEAR: zone u8 (R32). -/
def takeFlawClear : RequestRule := fun p s =>
  if wrongLength p 1 then s.refuse .badLength
  else
    s.checked [(decide (7 < byteAt p 0), .badField), (!s.media.roll.declared, .wrongState)]
      (s.writeZone (kindAt p 0) Zone.inert)

/-- The condition's choice code (section 12.3). -/
def MediaEvent.code : MediaEvent → Nat
  | .slip _ _ _ => 0
  | .rollEnd => 1
  | .rollRemoved => 2

/-- The direction, expected and measured pulses of a SLIP. -/
def MediaEvent.slip? : MediaEvent → Option (Bool × Nat × Nat)
  | .slip long expected measured => some (long, expected, measured)
  | .rollEnd => none
  | .rollRemoved => none

/-- The media condition's fields (R33): the last three only SLIP has, each with an indicator of its own (log entry 26). -/
def MediaCondition.fields (c : MediaCondition) : List Byte :=
  u8 c.event.code ++ word32 c.clock ++ optionalField 4 word32 c.order ++
    optionalField 1 (fun x => u8 (if x.1 then 0 else 1)) c.event.slip? ++
    optionalField 4 (fun x => u32 x.2.1) c.event.slip? ++ optionalField 4 (fun x => u32 x.2.2) c.event.slip?

/-- The roll record's fields (R33): one indicator covers the media condition whole (log entry 26). -/
def MediaUnit.rollFields (m : MediaUnit) : List Byte :=
  flag m.present ++ flag m.roll.declared ++ u8 m.roll.mediaKind.val ++ u16 m.roll.width ++ u32 m.roll.length ++
    u32 m.roll.positionMm ++ fieldsOf (fun z => u32 z.start ++ u32 z.stop) m.roll.zones ++
    flag m.roll.clearOutPending ++ optionalField 22 MediaCondition.fields m.condition

/-- ROLL_QUERY (R33). -/
def takeRollQuery : RequestRule := fun p s =>
  if wrongLength p 0 then s.refuse .badLength else s.accept s.media.rollFields

/-! ### TRIM (R43) -/

/-- The printer activity is IDLE. -/
def Holder.isIdle : Holder → Bool
  | .idle => true
  | .attempt _ => false
  | .clearOut _ => false
  | .cleaning _ => false
  | .trim _ => false
  | .probing _ => false

/-- Step 5 of R43. -/
def State.trimBusy (s : State) : Bool :=
  !s.holder.isIdle || s.engine.pendingTrim.isSome || !s.engine.state.running || !s.engine.coverClosed

/-- TRIM: length u16 (R43). -/
def takeTrim : RequestRule := fun p s =>
  if wrongLength p 2 then s.refuse .badLength
  else
    s.checked
      [(decide (u16At p 0 < 10) || decide (2000 < u16At p 0), .badField), (!s.media.roll.declared, .wrongState),
       (decide (s.media.roll.length < s.media.roll.positionMm + u16At p 0), .badField), (s.trimBusy, .busy)]
      (((s.setEngine { s.engine with pendingTrim := some (u16At p 0) }).serveSlot).accept [])

end Sys2Proof.Machine
end

