-- ==== Sys2Proof/Machine/ColourRequests.lean ====
section
/-! DEFINITION. The requests of the colour check unit: REFERENCE_SET to COLOUR_RESUME (R119 to R121, R129, R130, R135)
and GAINS_SET to GAINS_QUERY (R143 to R145). -/

set_option Elab.async false

namespace Sys2Proof.Machine

/-! ### Verdict settings (R119 to R121) -/

/-- Writes the verdict settings of a kind and marks the store dirty (R118). -/
def State.setSettings (s : State) (k : Fin 8) (v : VerdictSettings) : State :=
  (s.setColour { s.colour with settings := s.colour.settings.set k (some v) }).markDirty

/-- REFERENCE_SET: kind u8, sixteen triples (R119). -/
def takeReferenceSet : RequestRule := fun p s =>
  if wrongLength p 97 then s.refuse .badLength
  else if 7 < byteAt p 0 then s.refuse .badField
  else match s.colour.settings[kindAt p 0] with
    | none => s.refuse .notFound
    | some v =>
      (s.setSettings (kindAt p 0) { v with reference := some (clampLabs (labsAt p 1)) }).acceptIf
        (decide (clampLabs (labsAt p 1) ≠ labsAt p 1)) []

/-- COLOUR_LIMITS_SET: kind u8, max, mean and drift u16, patch set (R120). -/
def takeColourLimitsSet : RequestRule := fun p s =>
  if wrongLength p 9 then s.refuse .badLength
  else if 7 < byteAt p 0 ∨ u16At p 7 = 0 then s.refuse .badField
  else match s.colour.settings[kindAt p 0] with
    | none => s.refuse .notFound
    | some v =>
      (s.setSettings (kindAt p 0)
        { v with maxTolerance := min 2000 (u16At p 1), meanTolerance := min 2000 (u16At p 3),
                 driftLevel := min 2000 (u16At p 5), patches := BitVec.ofNat 16 (u16At p 7) }).acceptIf
        (decide (2000 < u16At p 1) || decide (2000 < u16At p 3) || decide (2000 < u16At p 5)) []

/-- The fields COLOUR_QUERY returns (R121): one indicator says whether the reference is present and covers its sixteen
readings (log entry 26). -/
def VerdictSettings.fields (v : VerdictSettings) : List Byte :=
  optionalField 96 (fieldsOf labField) v.reference ++ u16 v.maxTolerance ++ u16 v.meanTolerance ++ u16 v.driftLevel ++
    u16 v.patches.toNat

/-- COLOUR_QUERY (R121). -/
def takeColourQuery : RequestRule := fun p s =>
  if wrongLength p 1 then s.refuse .badLength
  else if 7 < byteAt p 0 then s.refuse .badField
  else match s.colour.settings[kindAt p 0] with
    | none => s.refuse .notFound
    | some v => s.accept v.fields

/-! ### The gain-set selector (R129, R222) -/

/-- A payload of a length with a selector at its start whose type is 0 or 1. -/
def selectorMalformed (p : List Byte) (n : Nat) : Bool := wrongLength p n || !flagOk p 0

/-- Check 2 of R129: a media kind number above 7. -/
def selectorOutOfRange (p : List Byte) : Bool := !flagAt p 0 && decide (7 < u32At p 1)

/-- The gain set a selector names; none when the kind is not defined or the edition not present. -/
def State.selected? (s : State) (p : List Byte) : Option (Fin 24) :=
  if flagAt p 0 then (s.findEdition (word32At p 1)).map editionSet
  else if (s.media.kinds[Fin.ofNat 8 (u32At p 1)]).isSome then some (kindSet (Fin.ofNat 8 (u32At p 1)))
  else none

/-- The checks of R129 in their order, `outOfRange` standing for check 2; then `act` on the set named. -/
def State.withGainSet (s : State) (p : List Byte) (n : Nat) (malformed outOfRange : Bool)
    (act : Fin 24 → GainSet → Answer) : Answer :=
  if selectorMalformed p n || malformed then s.refuse .badLength
  else if selectorOutOfRange p || outOfRange then s.refuse .badField
  else match s.selected? p with
    | none => s.refuse .notFound
    | some g => match s.colour.gainSets[g] with
      | none => s.refuse .notFound
      | some x => act g x

/-! ### History (R129, R130) -/

/-- One entry as HISTORY_QUERY returns it (R127). -/
def HistoryEntry.fields (e : HistoryEntry) : List Byte :=
  word32 e.order ++ u8 e.attempt ++ word32 e.clock ++ u8 (if e.passed then Verdict.pass.code else Verdict.fail.code) ++
    u16 e.mean ++ u16 e.max ++ u8 e.worst

/-- The fields HISTORY_QUERY returns (R130). R222 gives no width for the fail run and the drift run, sent as a u8 each (log
entry 25). -/
def CheckState.fields (k : CheckState) (x : GainSet) : List Byte :=
  u8 x.captureMode.code ++ u8 k.status.code ++ u8 k.ring.length ++ k.ring.flatMap HistoryEntry.fields ++ u8 k.failRun ++
    u8 k.driftRun ++ flag k.driftFlag ++ flag x.suspended

/-- HISTORY_QUERY (R130). -/
def takeHistoryQuery : RequestRule := fun p s =>
  s.withGainSet p 5 false false fun g x => s.accept ((s.colour.checks[g]).fields x)

/-- HISTORY_REARM (R129). -/
def takeHistoryRearm : RequestRule := fun p s =>
  s.withGainSet p 5 false false fun g x => (s.setCheck g ((s.colour.checks[g]).rearmed x.captureMode)).accept []

/-- The mode byte of CAPTURE_MODE_SET. -/
def modeAt (p : List Byte) : CaptureMode := (CaptureMode.ofCode (byteAt p 5)).getD .continuous

/-- CAPTURE_MODE_SET: selector, mode (R129). -/
def takeCaptureModeSet : RequestRule := fun p s =>
  s.withGainSet p 6 false (CaptureMode.ofCode (byteAt p 5)).isNone fun g x =>
    ((s.setGainSet g { x with captureMode := modeAt p }).setCheck g
      ((s.colour.checks[g]).rearmed (modeAt p))).accept []

/-- COLOUR_RESUME of a suspended set (R135): its re-evaluation and any selection follow. -/
def State.resumeSet (s : State) (g : Fin 24) (x : GainSet) : State :=
  ((((s.setGainSet g { x with suspended := false }).setCheck g { s.colour.checks[g] with failRun := 0 }).markDirty
    ).reevaluate).serveSlot

/-- COLOUR_RESUME (R135). -/
def takeColourResume : RequestRule := fun p s =>
  s.withGainSet p 5 false false fun g x =>
    if x.suspended then (s.resumeSet g x).accept [] else s.refuse .wrongState

/-! ### Gains (R143 to R145) -/

/-- A gain brought into 850 to 1150 (R143). -/
def gainLimited (n : Nat) : Nat := max 850 (min 1150 n)

/-- GAINS_SET: selector, twelve gains (R143). -/
def takeGainsSet : RequestRule := fun p s =>
  s.withGainSet p 29 false false fun g x =>
    let asked := u16sAt 12 p 5
    ((s.setGainSet g { x with gains := Vector.ofFn fun c => gainLimited asked[c], limitFlags := 0 }).markDirty).acceptIf
      ((List.finRange 12).any fun c => decide (gainLimited asked[c] ≠ asked[c])) []

/-- CORRECTION_SET: selector, on/off flag, D, R, S (R144). -/
def takeCorrectionSet : RequestRule := fun p s =>
  s.withGainSet p 12 (!flagOk p 5) false fun g x =>
    (s.setGainSet g
      { x with correction := flagAt p 5, deadband := min 500 (u16At p 6), rate := min 20 (u16At p 8),
               maxStep := max 1 (min 50 (u16At p 10)) }).acceptIf
      (decide (500 < u16At p 6) || decide (20 < u16At p 8) || decide (u16At p 10 = 0) || decide (50 < u16At p 10)) []

/-- The fields GAINS_QUERY returns (R145). R145 and R222 do not say whether the twelve limit flags are twelve flag bytes or
one channel set: the model sends twelve flag bytes in channel order, DESIGN CHOICE (log entry 27). -/
def GainSet.fields (x : GainSet) (g : Fin 24) : List Byte :=
  u8 g.val ++ fieldsOf u16 x.gains ++ (List.finRange 12).flatMap (fun c => flag (x.limitFlags.getLsbD c.val)) ++
    flag x.correction ++ u16 x.deadband ++ u16 x.rate ++ u16 x.maxStep

/-- GAINS_QUERY (R145). -/
def takeGainsQuery : RequestRule := fun p s => s.withGainSet p 5 false false fun g x => s.accept (x.fields g)

end Sys2Proof.Machine
end

