-- ==== Sys2Proof/Machine/EditionRequests.lean ====
section
/-! DEFINITION. The requests of the edition table: EDITION_OPEN to EDITION_QUERY (R148, R149, R155 to R157). -/

set_option Elab.async false

namespace Sys2Proof.Machine

/-- EDITION_OPEN: reference u32, kind u8, size u16, and the carried-over part as one optional field of a count u16 and
sixteen triples; 106 bytes (R148). -/
def editionOpenMalformed (p : List Byte) : Bool := wrongLength p 106 || !flagOk p 7

/-- The carried-over part of EDITION_OPEN as it stands in the payload (R148). -/
def carriedPart (p : List Byte) : Option (Nat × Vector Lab 16) := optionalAt p 7 fun i => (u16At p i, labsAt p (i + 2))

/-- Check 2 of R148. -/
def editionOpenOutOfRange (p : List Byte) : Bool :=
  decide (7 < byteAt p 4) || decide (u16At p 5 = 0) || decide (999 < u16At p 5) ||
    (match carriedPart p with
      | some x => decide (x.1 = 0) || decide (u16At p 5 < x.1)
      | none => false)

/-- The lowest-numbered free edition slot (R149). -/
def State.freeEditionSlot? (s : State) : Option (Fin 16) := firstIndex fun i => (s.editions[i]).isNone

/-- The record of an accepted EDITION_OPEN (R149). -/
def openedEdition (p : List Byte) (clock : Word32) : Edition :=
  match carriedPart p with
  | none =>
    { reference := word32At p 0, mediaKind := kindAt p 4, size := u16At p 5, accepted := 0, state := .opened,
      readings := none, openedAt := clock, fixedAt := none }
  | some x =>
    { reference := word32At p 0, mediaKind := kindAt p 4, size := u16At p 5, accepted := x.1,
      state := if x.1 = u16At p 5 then .complete else .fixed, readings := some (clampLabs x.2), openedAt := clock,
      fixedAt := some clock }

/-- Some carried-over coordinate is clamped (R149). -/
def carriedClamped (p : List Byte) : Bool :=
  match carriedPart p with
  | some x => decide (clampLabs x.2 ≠ x.2)
  | none => false

/-- The gain set and check state of an edition slot come into use, copied from the kind's set (R137, R139). -/
def State.useEditionSet (s : State) (i : Fin 16) (kind : Fin 8) : State :=
  let x := (s.colour.gainSets[kindSet kind]).getD GainSet.first
  (s.setGainSet (editionSet i) x.forEdition).setCheck (editionSet i) (CheckState.fresh x.captureMode)

/-- The kind's verdict settings hold no reference (R148 check 5). -/
def State.kindReference (s : State) (k : Fin 8) : Option (Vector Lab 16) := (s.colour.settings[k]).bind (·.reference)

/-- EDITION_OPEN (R148, R149). -/
def takeEditionOpen : RequestRule := fun p s =>
  if editionOpenMalformed p then s.refuse .badLength
  else
    s.checked
      [(editionOpenOutOfRange p, .badField), ((s.findEdition (word32At p 0)).isSome, .duplicate),
       ((s.media.kinds[kindAt p 4]).isNone, .notFound), ((s.kindReference (kindAt p 4)).isNone, .noReference),
       (s.freeEditionSlot?.isNone, .full)]
      (match s.freeEditionSlot? with
        | none => s.refuse .full
        | some i =>
          ((s.useEditionSet i (kindAt p 4)).setEdition i (some (openedEdition p s.clock))).acceptIf
            (carriedClamped p) (u8 i.val))

/-- A request that carries an edition reference alone: BAD_LENGTH, NOT_FOUND, then `act` on the record. -/
def State.withEdition (s : State) (p : List Byte) (act : Fin 16 → Edition → Answer) : Answer :=
  if wrongLength p 4 then s.refuse .badLength
  else match s.findEdition (word32At p 0) with
    | none => s.refuse .notFound
    | some i => match s.editions[i] with
      | none => s.refuse .notFound
      | some e => act i e

/-- The record an accepted EDITION_CLOSE leaves (R155): one closed from OPEN takes its kind's reference. -/
def Edition.closedWith (e : Edition) (kindReference : Option (Vector Lab 16)) : Edition :=
  { e with state := .closed, readings := if e.state = .opened then kindReference else e.readings }

/-- EDITION_CLOSE (R155). -/
def takeEditionClose : RequestRule := fun p s =>
  s.withEdition p fun i e =>
    s.checked [(decide (e.state = .closed), .wrongState), (decide (0 < s.unfinishedNaming e.reference), .busy)]
      ((s.setEdition i (some (e.closedWith (s.kindReference e.mediaKind)))).accept [])

/-- The slot's gain set leaves use (R156). -/
def State.dropEditionSet (s : State) (i : Fin 16) : State :=
  (s.setColour { s.colour with gainSets := s.colour.gainSets.set (editionSet i) none }).setCheck (editionSet i)
    (CheckState.fresh .continuous)

/-- EDITION_REMOVE (R156). -/
def takeEditionRemove : RequestRule := fun p s =>
  s.withEdition p fun i e =>
    s.checked [(decide (e.state ≠ .closed), .wrongState)] (((s.dropEditionSet i).setEdition i none).accept [])

/-- The suspended flag of the edition in a slot (R154). -/
def State.editionSuspended (s : State) (i : Fin 16) : Bool :=
  ((s.colour.gainSets[editionSet i]).map (·.suspended)).getD false

/-- The fields EDITION_QUERY returns (R157): one indicator covers the sixteen readings (log entry 26). R222 gives no width
for the two derived counts, sent as a u16 each (log entry 25). -/
def State.editionFields (s : State) (i : Fin 16) (e : Edition) : List Byte :=
  word32 e.reference ++ u8 i.val ++ u8 e.mediaKind.val ++ u16 e.size ++ u16 e.accepted ++ u16 (e.accepted + 1) ++
    u8 e.state.code ++ flag (s.editionSuspended i) ++ u8 (editionSet i).val ++
    optionalField 96 (fieldsOf labField) e.readings ++ word32 e.openedAt ++ optionalField 4 word32 e.fixedAt ++
    u16 (s.unfinishedNaming e.reference) ++ u16 (e.size - e.accepted - s.unfinishedNaming e.reference)

/-- EDITION_QUERY (R157). -/
def takeEditionQuery : RequestRule := fun p s => s.withEdition p fun i e => s.accept (s.editionFields i e)

end Sys2Proof.Machine
end

