-- ==== Sys2Proof/Machine/EngineRequests.lean ====
section
/-! DEFINITION. ATTEMPT_QUERY (R68) and the requests of the engine link controller: ENGINE_RESTART, AUTO_RECOVERY_SET
and ENGINE_QUERY (R84 to R86, R88). -/

set_option Elab.async false

namespace Sys2Proof.Machine

/-! ### ATTEMPT_QUERY (R68) -/

/-- The fields ATTEMPT_QUERY returns, in the order of R68. -/
def Attempt.fields (a : Attempt) : List Byte :=
  word32 a.reference ++ u8 a.slot.val ++ u8 a.number ++ u8 a.phase.code ++ u8 a.step.code ++ u32 a.start ++ u32 a.need ++
    u32 a.waste ++ u16 a.bandsTotal ++ u16 a.bandsDone ++ fieldsOf u16 a.gains ++ u8 a.gainSet.val ++ word32 a.version ++
    fieldsOf u48 a.tallies ++ flag a.tallySaturated ++ u32 a.ownPulses ++ u32 a.wastePulses ++
    optionalField 1 (fun x => u8 x.code) a.pendingOutcome ++ flag a.ceilingNoted ++ u8 a.verdict.code ++
    u16 a.dwellRemaining

/-- ATTEMPT_QUERY (R68). -/
def takeAttemptQuery : RequestRule := fun p s =>
  if wrongLength p 0 then s.refuse .badLength
  else match s.attempt? with
    | none => s.refuse .notFound
    | some a => s.accept a.fields

/-! ### ENGINE_RESTART (R86) -/

/-- Steps 1 to 3 of R86. -/
def State.restart (s : State) : State :=
  let s1 := s.abandon.endHolder
  let s2 := s1.setEngine { s1.engine with probeRun := 0 }
  if s2.engine.state = .starting then s2 else s2.setEngineState .starting

/-- ENGINE_RESTART (R86): step 4 is the arbiter's. -/
def takeEngineRestart : RequestRule := fun p s =>
  if wrongLength p 0 then s.refuse .badLength else (s.restart.serveSlot).accept []

/-! ### AUTO_RECOVERY_SET (R84, R85) -/

/-- Probing ends because the setting was turned off: a PROBE outstanding stays in the slot without a party (R84). -/
def State.stopProbing (s : State) : State :=
  match s.holder with
  | .probing _ =>
    (s.setEngine { s.engine with
      probeRun := 0, outstanding := s.engine.outstanding.map fun o => { o with party := .ended } }).setHolder .idle
  | .idle => s
  | .attempt _ => s
  | .clearOut _ => s
  | .cleaning _ => s
  | .trim _ => s

/-- Probing begins because the setting was turned on in OFF (R84). -/
def State.startProbing (s : State) : State :=
  if s.engine.state = .off ∧ s.holder = .idle then
    ((s.setEngine { s.engine with probeRun := 0 }).setHolder (.probing true)).serveSlot
  else s

/-- The setting takes a value (R85). -/
def State.setAutoRecovery (s : State) (on : Bool) : State :=
  let s1 := (s.setEngine { s.engine with autoRecovery := on }).markDirtyIf (on != s.engine.autoRecovery)
  if on then s1.startProbing else s1.stopProbing

/-- AUTO_RECOVERY_SET: one flag (R85). -/
def takeAutoRecoverySet : RequestRule := fun p s =>
  if wrongLength p 1 || !flagOk p 0 then s.refuse .badLength else (s.setAutoRecovery (flagAt p 0)).accept []

/-! ### ENGINE_QUERY (R88) -/

/-- The command after `passed` more seconds: its timer never falls, and it stops at the timeout, when the command leaves
the slot (R69, R71). -/
def Outstanding.later (o : Outstanding) (passed : Nat) : Outstanding :=
  { o with elapsed := o.elapsed + min passed (o.command.timeout - o.elapsed) }

/-- The timer of the outstanding command brought up to now, by the free value of log entry 9. -/
def State.readTimer (s : State) : State :=
  match s.engine.outstanding with
  | none => s
  | some o =>
    (s.setEngine { s.engine with outstanding := some (o.later (Config.secondsPassed s.freeReads)) }).setFreeReads
      (s.freeReads + 1)

/-- The outstanding command's kind, tag and whole seconds since its issue (R69, R88). -/
def Outstanding.fields (o : Outstanding) : List Byte := u8 o.command.kind ++ [o.tag] ++ u32 o.elapsed

/-- The fields ENGINE_QUERY returns, in the order of R88. R222 gives no width for the error count and the probe run, sent
as a u8 each (log entry 25). R88 and R223 do not say whether the outstanding command's kind, tag and seconds are absent
together or each by itself: the model sends one indicator before the three, DESIGN CHOICE (log entry 26). -/
def State.engineFields (s : State) : List Byte :=
  u8 s.engine.state.code ++ u8 s.engine.errorCount ++ flag s.engine.autoRecovery ++ u8 s.engine.probeRun ++
    u8 s.holder.activityCode ++ optionalField 6 Outstanding.fields s.engine.outstanding ++
    optionalField 1 (fun t => [t]) s.engine.expiredTag ++ [s.engine.nextTag] ++ flag s.engine.coverClosed ++
    flag s.engine.startUpFlag ++ flag s.media.roll.clearOutPending ++ optionalField 2 u16 s.engine.pendingTrim

/-- ENGINE_QUERY (R88): the fields as they stand now. Reading the timer uses up one free value when a command is
outstanding. -/
def takeEngineQuery : RequestRule := fun p s =>
  if wrongLength p 0 then s.refuse .badLength else s.readTimer.accept s.readTimer.engineFields

end Sys2Proof.Machine
end

