-- ==== Sys2Proof/Machine/InkRequests.lean ====
section
/-! DEFINITION. The requests of the ink supply unit: DROP_SIZES_SET to SUPPLY_QUERY (R92, R109, R111, R113, R114). -/

set_option Elab.async false

namespace Sys2Proof.Machine

/-- A channel number of a payload, once it is known to be 0 to 11. -/
def channelAt (p : List Byte) (i : Nat) : Fin 12 := Fin.ofNat 12 (byteAt p i)

/-! ### Settings (R92, R113) -/

/-- A drop size brought into 10 to 999 (R92). -/
def sizeLimited (n : Nat) : Nat := max 10 (min 999 n)

/-- The table DROP_SIZES_SET writes. -/
def dropSizesAt (p : List Byte) : DropSizes :=
  { small := sizeLimited (u16At p 0), medium := sizeLimited (u16At p 2), large := sizeLimited (u16At p 4) }

/-- Writes the drop-size table; the store is marked dirty when a value differs (R92). -/
def State.setSizes (s : State) (z : DropSizes) : State :=
  (s.setInk { s.ink with sizes := z }).markDirtyIf (decide (z ≠ s.ink.sizes))

/-- DROP_SIZES_SET: three u16 (R92). -/
def takeDropSizesSet : RequestRule := fun p s =>
  if wrongLength p 6 then s.refuse .badLength
  else
    (s.setSizes (dropSizesAt p)).acceptIf
      (decide (sizeLimited (u16At p 0) ≠ u16At p 0) || decide (sizeLimited (u16At p 2) ≠ u16At p 2) ||
        decide (sizeLimited (u16At p 4) ≠ u16At p 4)) []

/-- A new low threshold, with the evaluation of R96 at once (R113). -/
def State.setThreshold (s : State) (c : Fin 12) (nl : Nat) : State :=
  (s.setChannel c { s.channel c with lowThreshold := nl }).evaluateSupply c

/-- CHANNEL_SET: channel u8, low threshold u32 (R113). -/
def takeChannelSet : RequestRule := fun p s =>
  if wrongLength p 5 then s.refuse .badLength
  else
    s.checked [(decide (11 < byteAt p 0), .badField)]
      (((s.setThreshold (channelAt p 0) (min 500000000 (u32At p 1))).serveSlot).acceptIf
        (decide (500000000 < u32At p 1)) [])

/-! ### CHANNEL_RESET (R109) -/

/-- A bay present with an estimate above 0. -/
def Bay.hasInk (b : Bay) : Bool := b.present && decide (0 < b.remaining)

/-- The bay a reset channel refills from: its active bay when that one qualifies, otherwise the other (R109). -/
def State.resetBay (s : State) (c : Fin 12) : Option BaySide :=
  let active := (s.channel c).active
  if (s.bay c active).hasInk then some active
  else if (s.bay c active.other).hasInk then some active.other
  else none

/-- The FAULT channel after an accepted CHANNEL_RESET (R109). -/
def State.resetChannel (s : State) (c : Fin 12) : State :=
  match s.resetBay c with
  | some side => s.enterRefill c side
  | none => s.writeSupply c { s.channel c with supply := .dry }

/-- CHANNEL_RESET: channel u8 (R109). -/
def takeChannelReset : RequestRule := fun p s =>
  if wrongLength p 1 then s.refuse .badLength
  else
    s.checked
      [(decide (11 < byteAt p 0), .badField),
       (decide ((s.channel (channelAt p 0)).supply ≠ .fault), .wrongState)]
      (((s.resetChannel (channelAt p 0)).serveSlot).accept [])

/-! ### CLEAN_REQUEST (R111) -/

/-- The twelve levels of CLEAN_REQUEST. -/
def levelsAt (p : List Byte) : Vector Nat 12 := Vector.ofFn fun c => byteAt p c.val

/-- CLEAN_REQUEST: twelve u8 (R111). -/
def takeCleanRequest : RequestRule := fun p s =>
  if wrongLength p 12 then s.refuse .badLength
  else
    s.checked [((List.finRange 12).any fun c => decide (3 < (levelsAt p)[c]), .badField)]
      (((s.requestCleanings (levelsAt p)).serveSlot).accept [])

/-! ### SUPPLY_QUERY (R114) -/

/-- The channel record's fields, in the order of R90. R222 gives no width for refill elapsed and the three runs, sent as a
u8 each, nor for the residue, sent as a u16 (log entry 25). -/
def Channel.fields (c : Channel) : List Byte :=
  u8 c.supply.code ++ u8 c.active.code ++ optionalField 1 (fun b => u8 b.code) c.refillBay ++ u8 c.refillElapsed ++
    u16 c.residue ++ u32 c.reserve ++ u32 c.lowThreshold ++ u8 c.lowRun ++ u8 c.emptyRun ++ u8 c.fullRun ++
    optionalField 1 (fun l => u8 l.code) c.lastLevel ++ u64 c.lifetime ++ u8 c.cleaning

/-- The bay record's fields, in the order of R91. -/
def Bay.fields (b : Bay) : List Byte :=
  flag b.present ++ b.serial.toList ++ b.lot.toList ++ u32 b.fill ++ u32 b.remaining ++ flag b.declaredEmpty ++
    u32 b.unaccounted ++ word32 b.insertedAt

/-- The drop sizes, small, medium, large. -/
def DropSizes.fields (z : DropSizes) : List Byte := u16 z.small ++ u16 z.medium ++ u16 z.large

/-- SUPPLY_QUERY: channel u8 (R114). -/
def takeSupplyQuery : RequestRule := fun p s =>
  if wrongLength p 1 then s.refuse .badLength
  else
    s.checked [(decide (11 < byteAt p 0), .badField)]
      (s.accept ((s.channel (channelAt p 0)).fields ++ u32 (s.baySum (channelAt p 0)) ++
        (s.bay (channelAt p 0) .first).fields ++ (s.bay (channelAt p 0) .second).fields ++ s.ink.sizes.fields))

end Sys2Proof.Machine
end

