-- ==== Sys2Proof/Machine/CostRequests.lean ====
section
/-! DEFINITION. The requests of the cost unit: PRICES_SET to ACCOUNT_LOAD (R160, R161, R179 to R181). -/

set_option Elab.async false

namespace Sys2Proof.Machine

/-! ### Prices (R160, R161) -/

/-- The price table as it stands in a PRICES_SET payload: twelve ink prices, eight media prices, cut, handling. -/
def pricesAt (p : List Byte) : PriceTable :=
  { ink := u32sAt 12 p 0, media := u32sAt 8 p 48, cut := u32At p 80, handling := u32At p 84 }

/-- Each price above its range becomes its upper limit (R159, R160). -/
def PriceTable.clamped (t : PriceTable) : PriceTable :=
  { ink := Vector.ofFn fun c => min 1000000 t.ink[c], media := Vector.ofFn fun k => min 10000000 t.media[k],
    cut := min 100000 t.cut, handling := min 10000000 t.handling }

/-- The whole table is replaced and the version advances (R160). -/
def State.setPrices (s : State) (t : PriceTable) : State :=
  (s.setCosts { s.costs with prices := t, version := s.costs.version + 1 }).markDirty

/-- PRICES_SET: twenty-two u32 (R160). -/
def takePricesSet : RequestRule := fun p s =>
  if wrongLength p 88 then s.refuse .badLength
  else
    (s.setPrices (pricesAt p).clamped).acceptIf (decide ((pricesAt p).clamped ≠ pricesAt p))
      (word32 (s.costs.version + 1))

/-- The whole price table in the order of PRICES_SET. -/
def PriceTable.fields (t : PriceTable) : List Byte :=
  fieldsOf u32 t.ink ++ fieldsOf u32 t.media ++ u32 t.cut ++ u32 t.handling

/-- PRICES_QUERY (R161). -/
def takePricesQuery : RequestRule := fun p s =>
  if wrongLength p 0 then s.refuse .badLength else s.accept (s.costs.prices.fields ++ word32 s.costs.version)

/-! ### Accounts (R179 to R181) -/

/-- An account number of a payload, once it is known to be 0 to 63. -/
def accountAt (p : List Byte) (i : Nat) : Fin 64 := Fin.ofNat 64 (byteAt p i)

/-- The fields ACCOUNT_QUERY returns (R179); account fields are u48 (R222). -/
def Account.fields (a : Account) : List Byte :=
  u48 a.ink ++ u48 a.media ++ u48 a.cut ++ u48 a.handling ++ u48 a.total ++ u48 a.acceptedPrints ++
    u48 a.attemptsPosted ++ flag a.saturated

/-- ACCOUNT_QUERY: account u8 (R179). -/
def takeAccountQuery : RequestRule := fun p s =>
  if wrongLength p 1 then s.refuse .badLength
  else s.checked [(decide (63 < byteAt p 0), .badField)] (s.accept (s.costs.accounts[accountAt p 0]).fields)

/-- ACCOUNT_CLEAR: account u8 (R180). -/
def takeAccountClear : RequestRule := fun p s =>
  if wrongLength p 1 then s.refuse .badLength
  else s.checked [(decide (63 < byteAt p 0), .badField)] ((s.setAccount (accountAt p 0) {}).accept [])

/-- The account ACCOUNT_LOAD writes: six u48 from offset 1 (R181). A u48 money value cannot exceed 2⁴⁸−1. -/
def loadedAccount (p : List Byte) : Account :=
  let ink := u48At p 1
  let media := u48At p 7
  let cut := u48At p 13
  let handling := u48At p 19
  { ink := ink, media := media, cut := cut, handling := handling, total := accountTotal ink media cut handling,
    acceptedPrints := min 65535 (u48At p 25), attemptsPosted := min 65535 (u48At p 31),
    saturated := decide (65535 < u48At p 25) || decide (65535 < u48At p 31) ||
      decide (max48 < ink + media + cut + handling) }

/-- ACCOUNT_LOAD: account u8, four money values and two counts as u48 (R181). -/
def takeAccountLoad : RequestRule := fun p s =>
  if wrongLength p 37 then s.refuse .badLength
  else
    s.checked [(decide (63 < byteAt p 0), .badField)]
      ((s.setAccount (accountAt p 0) (loadedAccount p)).acceptIf
        (decide (65535 < u48At p 25) || decide (65535 < u48At p 31)) [])

end Sys2Proof.Machine
end

