-- ==== Sys2Proof/Machine/LinkRequests.lean ====
section
/-! DEFINITION. IDENTIFY and STATUS_QUERY (R197, R198), the requests of the notice unit and of the link counters (R202,
R206, R210), STORE_COMMIT and PART_RESET (R216, R220), and the rule of every kind code (R193). -/

set_option Elab.async false

namespace Sys2Proof.Machine

/-! ### IDENTIFY and STATUS_QUERY -/

/-- The fixed values of R197, in its order; each number is sent as a u8 and the largest payload as a u16 (log entry 25). -/
def identityFields : List Byte :=
  [0x4C, 0x65, 0x64, 0x77, 0x6F, 0x72, 0x74, 0x68,
   0x43, 0x61, 0x6C, 0x75, 0x70, 0x72, 0x61, 0x00,
   0x43, 0x31, 0x32, 0x34, 0x30, 0x00, 0x00, 0x00] ++
    u8 Config.revision ++ [40, 4, 8, 8, 12, 24, 24, 8, 16, 64, 8, 4] ++ u16 512

/-- IDENTIFY (R197). -/
def takeIdentify : RequestRule := fun p s =>
  if wrongLength p 0 then s.refuse .badLength else s.accept identityFields

/-- The fields STATUS_QUERY returns, in the order of R198; the cover byte is 1 for closed (log entry 12), and the error
count a u8 (log entry 25). -/
def State.statusFields (s : State) : List Byte :=
  u8 s.holder.activityCode ++ flag s.orders.paused ++ flag s.engine.coverClosed ++ u8 s.engine.state.code ++
    u8 s.engine.errorCount ++ u8 s.store.stateCode ++ [s.notices.pending]

/-- STATUS_QUERY (R198). -/
def takeStatusQuery : RequestRule := fun p s =>
  if wrongLength p 0 then s.refuse .badLength else s.accept s.statusFields

/-! ### Notices and counters -/

/-- The enable set is replaced; a pending category newly enabled is a trigger (R202, R203). -/
def State.enable (s : State) (set : Byte) : State :=
  let s1 := s.setNotices { s.notices with enabled := set }
  if s.notices.pending &&& set &&& ~~~s.notices.enabled = 0 then s1 else s1.trigger

/-- NOTICE_ENABLE: one category set; the reply carries the enable set now held (R202, and the worked example of section
10.4). A closing sentence of R223 names the pending set there; R194 gives a reply the result fields of the request's own rule
(DEDUCED, log entry 24). -/
def takeNoticeEnable : RequestRule := fun p s =>
  if wrongLength p 1 then s.refuse .badLength else (s.enable (p.getD 0 0)).accept [p.getD 0 0]

/-- The categories of a set become clear (R206). -/
def State.clearNotices (s : State) (set : Byte) : State :=
  s.setNotices { s.notices with pending := s.notices.pending &&& ~~~set }

/-- NOTICE_CLEAR: one category set (R206). -/
def takeNoticeClear : RequestRule := fun p s =>
  if wrongLength p 1 then s.refuse .badLength
  else (s.clearNotices (p.getD 0 0)).accept [s.notices.pending &&& ~~~(p.getD 0 0)]

/-- The eight counters, server link first (R208 to R210), each sent as a u16 (log entry 25). -/
def State.counterFields (s : State) : List Byte :=
  u16 s.server.counters.framesTaken ++ u16 s.server.counters.crcErrors ++ u16 s.server.counters.discards ++
    u16 s.server.counters.overruns ++ u16 s.engine.counters.crcErrors ++ u16 s.engine.counters.timeouts ++
    u16 s.engine.counters.mismatches ++ u16 s.engine.counters.lateReports

/-- All eight counters become 0 (R210). -/
def State.clearCounters (s : State) : State := (s.setServerCounters {}).setEngineCounters {}

/-- COUNTERS_QUERY: the clear option, 0 keep or 1 clear (R210). -/
def takeCountersQuery : RequestRule := fun p s =>
  if wrongLength p 1 then s.refuse .badLength
  else
    s.checked [(decide (1 < byteAt p 0), .badField)]
      ((if byteAt p 0 = 1 then s.clearCounters else s).accept s.counterFields)

/-! ### The store -/

/-- The fields STORE_COMMIT returns: event, failed writes (a u8, log entry 25), last write, store state (R216, log entry
10). -/
def RetainedStore.fields (r : RetainedStore) : List Byte :=
  u8 r.event.code ++ u8 r.failedWrites ++ optionalField 4 word32 r.lastWrite ++ u8 r.stateCode

/-- STORE_COMMIT (R216). -/
def takeStoreCommit : RequestRule := fun p s =>
  if wrongLength p 0 then s.refuse .badLength else s.markDirty.accept s.markDirty.store.fields

/-- PART_RESET (R220). -/
def takePartReset : RequestRule := fun p s =>
  if wrongLength p 0 then s.refuse .badLength else s.goQuiet.accept []

/-! ### The kinds (R193, section 12.3) -/

/-- Any other kind: UNKNOWN_KIND, the payload not examined (R193). -/
def takeUnknownKind : RequestRule := fun _ s => s.refuse .unknownKind

/-- The rule of a kind code. -/
def ruleOf (kind : Byte) : RequestRule :=
  match kind.toNat with
  | 0x10 => takeSubmit
  | 0x11 => takeAmend
  | 0x12 => takeCancel
  | 0x13 => takeRelease
  | 0x14 => takeOrderQuery
  | 0x15 => takeOrderList
  | 0x16 => takePause
  | 0x17 => takeResume
  | 0x18 => takeSetClock
  | 0x19 => takeReadClock
  | 0x20 => takeMediaDefine
  | 0x21 => takeMediaQuery
  | 0x22 => takeRollDeclare
  | 0x23 => takeFlawMark
  | 0x24 => takeFlawClear
  | 0x25 => takeRollQuery
  | 0x26 => takeTrim
  | 0x28 => takeAttemptQuery
  | 0x30 => takeEngineRestart
  | 0x31 => takeAutoRecoverySet
  | 0x32 => takeEngineQuery
  | 0x38 => takeDropSizesSet
  | 0x39 => takeChannelSet
  | 0x3A => takeChannelReset
  | 0x3B => takeCleanRequest
  | 0x3C => takeSupplyQuery
  | 0x40 => takeReferenceSet
  | 0x41 => takeColourLimitsSet
  | 0x42 => takeColourQuery
  | 0x43 => takeHistoryQuery
  | 0x44 => takeHistoryRearm
  | 0x45 => takeCaptureModeSet
  | 0x46 => takeColourResume
  | 0x48 => takeGainsSet
  | 0x49 => takeCorrectionSet
  | 0x4A => takeGainsQuery
  | 0x50 => takeEditionOpen
  | 0x51 => takeEditionClose
  | 0x52 => takeEditionRemove
  | 0x53 => takeEditionQuery
  | 0x54 => takePricesSet
  | 0x55 => takePricesQuery
  | 0x56 => takeAccountQuery
  | 0x57 => takeAccountClear
  | 0x58 => takeAccountLoad
  | 0x60 => takeIdentify
  | 0x61 => takeStatusQuery
  | 0x68 => takeNoticeEnable
  | 0x69 => takeNoticeClear
  | 0x6A => takeCountersQuery
  | 0x70 => takeStoreCommit
  | 0x71 => takePartReset
  | _ => takeUnknownKind

end Sys2Proof.Machine
end

