-- ==== Sys2Proof/Machine/Receive.lean ====
section
/-! DEFINITION. What the bytes of a link become: the engine's frames classed by kind and length (R72, R74, R225), the
receiver byte by byte (R187 to R190), and what surrounds every command. -/

set_option Elab.async false

namespace Sys2Proof.Machine

/-! ### Frames of the engine (R72, R74, R225) -/

/-- A LEVELS event in a working part; a cleaning or an order may then take the slot (R74, R78). -/
def State.engineLevels (s : State) (samples : Vector Byte 12) : State :=
  s.whenWorking fun s => (s.takeLevels samples).serveSlot

/-- A BAY_EVENT in a working part. -/
def State.engineBay (s : State) (bay present : Byte) (serial : Vector Byte 12) (lot : Vector Byte 8) (fill : Nat) :
    State :=
  s.whenWorking fun s => (s.takeBayEvent bay present serial lot fill).serveSlot

/-- A ROLL_EVENT in a working part. -/
def State.engineRoll (s : State) (present : Byte) : State := s.whenWorking fun s => s.takeRollEvent present

/-- A COVER_EVENT in a working part. -/
def State.engineCover (s : State) (closed : Byte) : State := s.whenWorking fun s => s.takeCoverEvent closed

/-- The drop counts of the twelve channels at offset 4 (R225). -/
def dropsAt (p : List Byte) : Vector Drops 12 :=
  Vector.ofFn fun c =>
    { small := word32At p (4 + 12 * c.val), medium := word32At p (8 + 12 * c.val), large := word32At p (12 + 12 * c.val) }

/-- The sixteen readings at offset 148 (R225). -/
def rawReadingsAt (p : List Byte) : Vector RawReading 16 :=
  Vector.ofFn fun k =>
    { L := BitVec.ofNat 16 (u16At p (148 + 7 * k.val)), a := BitVec.ofNat 16 (u16At p (150 + 7 * k.val)),
      b := BitVec.ofNat 16 (u16At p (152 + 7 * k.val)), valid := p.getD (154 + 7 * k.val) 0 }

/-- The readings as they are used (R117). -/
def readingsOf (r : Vector RawReading 16) : Vector Reading 16 := Vector.ofFn fun p => RawReading.reading r[p]

/-- A good frame of the engine link: a report or an event of the length its layout gives, or a bad frame (R72 class 1,
R225). -/
def State.engineFrame (s : State) (f : Frame) : State :=
  let p := f.payload
  match f.kind.toNat, p.length with
  | 0xB0, 4 => s.takeReport f.tag (.feedDone (u32At p 0))
  | 0xB1, 148 => s.takeReport f.tag (.bandDone (u32At p 0) (dropsAt p))
  | 0xB2, 148 => s.takeReport f.tag (.bandStopped (u32At p 0) (dropsAt p))
  | 0xB3, 260 => s.takeReport f.tag (.stripDone (u32At p 0) (dropsAt p) (readingsOf (rawReadingsAt p)))
  | 0xB4, 148 => s.takeReport f.tag (.stripStopped (u32At p 0) (dropsAt p))
  | 0xB5, 0 => s.takeReport f.tag .cutDone
  | 0xB6, 0 => s.takeReport f.tag .cleanDone
  | 0xB7, 0 => s.takeReport f.tag .probeAck
  | 0xB8, 0 => s.takeReport f.tag .ready
  | 0xC0, 12 => s.engineLevels (textAt 12 p 0)
  | 0xC1, 26 => s.engineBay (p.getD 0 0) (p.getD 1 0) (textAt 12 p 2) (textAt 8 p 14) (u32At p 22)
  | 0xC2, 1 => s.engineRoll (p.getD 0 0)
  | 0xC3, 1 => s.engineCover (p.getD 0 0)
  | _, _ => s.badFrame

/-! ### The receiver (R187 to R190) -/

/-- The frame's last byte is in: a bad CRC is counted; a good frame goes to the holding queue, or is classed at once on
the engine link (R190). -/
def State.judge (s : State) (link : Link) (bytes : List Byte) : State :=
  let f := frameOf bytes
  match link with
  | .server => if crcGood bytes then s.receiveFrame ruleOf f (ruleOf f.kind) else s.countServerCrc
  | .engine => if crcGood bytes then s.engineFrame f else s.badFrame

/-- A byte with a good stop bit (R187, R189, R190). -/
def State.receiveByte (s : State) (link : Link) (b : Byte) : State :=
  let r := s.receiver link
  if r.phase = .hunting then
    if b = 0x5A#8 then s.setReceiver link { phase := .length, bytes := [] } else s
  else
    let bytes := r.bytes ++ [b]
    if bytes.length = 2 ∧ 512 < Receiver.payloadLength bytes then s.discard link
    else if Receiver.phaseOf bytes = .hunting then (s.setReceiver link Receiver.idle).judge link bytes
    else s.setReceiver link { phase := Receiver.phaseOf bytes, bytes := bytes }

/-- A frame in progress is dropped, for a framing error or a gap; in HUNTING nothing happens (R187, R188). -/
def State.dropFrame (s : State) (link : Link) : State :=
  if (s.receiver link).phase = .hunting then s else s.discard link

/-- The receiver waits for the second length byte, and this one makes the length field exceed 512 (R189). -/
def Receiver.overlong (r : Receiver) (b : Byte) : Bool :=
  decide (r.phase = .length) && decide (r.bytes.length = 1) && decide (512 < Receiver.payloadLength (r.bytes ++ [b]))

/-- The receiver waits for its frame's last byte (R190). -/
def Receiver.lastByteDue (r : Receiver) (b : Byte) : Bool :=
  decide (r.phase = .crc) && decide (Receiver.phaseOf (r.bytes ++ [b]) = .hunting)

/-! ### What surrounds every command -/

/-- After each event, whole: the transmitter, when free, starts the next frame (R196), and a write begins when the store
is dirty and none is in flight, its copy taken between two events (R213; log entry 5). -/
def State.closeStep (s : State) : State := s.kick.beginWrite

/-- A command while the part has power; a part held in reset takes none (R217, R221; log entry 4). -/
def State.run (s : State) (f : State → State) : Host.Outcome State Fault Refusal :=
  .next (if s.held then s else (f s).closeStep)

/-- A good server link frame of a request kind (R190 to R193; log entry 3). -/
def State.runRequest (s : State) (kind tag : Byte) (payload : List Byte) (rule : RequestRule) :
    Host.Outcome State Fault Refusal :=
  s.run fun s => s.receiveFrame ruleOf { kind := kind, tag := tag, payload := payload } rule

end Sys2Proof.Machine
end

