-- ==== Sys2Proof/Machine/Events.lean ====
section
/-! DEFINITION. The meanings of the event commands: bytes and line events, reports and engine events, timers, the store,
power and reset. An event whose occasion does not stand leaves the state as it is (log entry 4). -/

set_option Elab.async false

namespace Sys2Proof.Machine

/-! ### Line events -/

/-- The second CRC byte of the server link frame in progress (R190). -/
def execServerFrameReceived (lastByte : Byte) (s : State) : Host.Outcome State Fault Refusal :=
  s.run fun s => if s.server.receiver.lastByteDue lastByte then s.receiveByte .server lastByte else s

/-- A byte with its stop bit low: a frame in progress is discarded (R187). -/
def execFramingError (link : Link) (s : State) : Host.Outcome State Fault Refusal := s.run fun s => s.dropFrame link

/-- The second length byte makes the length exceed 512 (R189). -/
def execLengthDiscard (link : Link) (secondByte : Byte) (s : State) : Host.Outcome State Fault Refusal :=
  s.run fun s => if (s.receiver link).overlong secondByte then s.receiveByte link secondByte else s

/-- The gap timer expires over a frame in progress (R188); an elapsed-time timer is not acted on in the quiet time of
R220. -/
def execInterByteGapTimeout (link : Link) (s : State) : Host.Outcome State Fault Refusal :=
  s.run fun s => s.whenWorking fun s => s.dropFrame link

/-- The last CRC byte of the frame being sent has left: the next frame is taken, then held requests take the room
(R192, R196). -/
def execTransmitComplete (s : State) : Host.Outcome State Fault Refusal := s.run fun s => s.transmitComplete ruleOf

/-- A byte with a good stop bit (R187). -/
def execByteReceived (link : Link) (byte : Byte) (s : State) : Host.Outcome State Fault Refusal :=
  s.run fun s => s.receiveByte link byte

/-! ### Reports (R72) -/

/-- A bad frame (R72 class 1). -/
def execEngineBadFrame (s : State) : Host.Outcome State Fault Refusal := s.run fun s => s.badFrame

/-- FEED_DONE (R51, R72). -/
def execFeedDone (tag : Byte) (pulses : Word32) (s : State) : Host.Outcome State Fault Refusal :=
  s.run fun s => s.takeReport tag (.feedDone pulses.toNat)

/-- BAND_DONE (R52, R72). -/
def execBandDone (tag : Byte) (pulses : Word32) (drops : Vector Drops 12) (s : State) :
    Host.Outcome State Fault Refusal :=
  s.run fun s => s.takeReport tag (.bandDone pulses.toNat drops)

/-- BAND_STOPPED (R56, R72). -/
def execBandStopped (tag : Byte) (pulses : Word32) (drops : Vector Drops 12) (s : State) :
    Host.Outcome State Fault Refusal :=
  s.run fun s => s.takeReport tag (.bandStopped pulses.toNat drops)

/-- STRIP_DONE (R55, R72). -/
def execStripDone (tag : Byte) (pulses : Word32) (drops : Vector Drops 12) (readings : Vector RawReading 16)
    (s : State) : Host.Outcome State Fault Refusal :=
  s.run fun s => s.takeReport tag (.stripDone pulses.toNat drops (readingsOf readings))

/-- STRIP_STOPPED (R56, R72). -/
def execStripStopped (tag : Byte) (pulses : Word32) (drops : Vector Drops 12) (s : State) :
    Host.Outcome State Fault Refusal :=
  s.run fun s => s.takeReport tag (.stripStopped pulses.toNat drops)

/-- CUT_DONE (R59, R72). -/
def execCutDone (tag : Byte) (s : State) : Host.Outcome State Fault Refusal := s.run fun s => s.takeReport tag .cutDone

/-- CLEAN_DONE (R72, R112). -/
def execCleanDone (tag : Byte) (s : State) : Host.Outcome State Fault Refusal :=
  s.run fun s => s.takeReport tag .cleanDone

/-- PROBE_ACK (R72, R84). -/
def execProbeAck (tag : Byte) (s : State) : Host.Outcome State Fault Refusal :=
  s.run fun s => s.takeReport tag .probeAck

/-- READY (R72, R87). -/
def execReady (tag : Byte) (s : State) : Host.Outcome State Fault Refusal := s.run fun s => s.takeReport tag .ready

/-! ### Engine events (R74) -/

/-- LEVELS (R99). -/
def execLevels (samples : Vector Byte 12) (s : State) : Host.Outcome State Fault Refusal :=
  s.run fun s => s.engineLevels samples

/-- BAY_EVENT (R102 to R104). -/
def execBayEvent (bay present : Byte) (serial : Vector Byte 12) (lot : Vector Byte 8) (fill : Word32) (s : State) :
    Host.Outcome State Fault Refusal :=
  s.run fun s => s.engineBay bay present serial lot fill.toNat

/-- ROLL_EVENT (R30, R46, R75). -/
def execRollEvent (present : Byte) (s : State) : Host.Outcome State Fault Refusal :=
  s.run fun s => s.engineRoll present

/-- COVER_EVENT (R57, R75). -/
def execCoverEvent (closed : Byte) (s : State) : Host.Outcome State Fault Refusal :=
  s.run fun s => s.engineCover closed

/-! ### Timers -/

/-- The timeout of the outstanding engine command (R71). -/
def execEngineCommandTimeout (s : State) : Host.Outcome State Fault Refusal := s.run fun s => s.takeTimeout

/-- One second since the last PROBE was issued (R84). -/
def execProbeInterval (s : State) : Host.Outcome State Fault Refusal := s.run fun s => s.probeInterval

/-- The attempt's dwell is running (R42). -/
def Attempt.dwelling (a : Attempt) : Bool := decide (a.phase = .dwell) && decide (a.step = .timing)

/-- One elapsed second of the attempt's dwell, when `due` holds of it; the CUT may then be issued (R42). -/
def State.dwellSecond (s : State) (due : Attempt → Bool) : State :=
  match s.attempt? with
  | none => s
  | some a => if a.dwelling && due a then (s.setAttempt a.dwellSecond).serveSlot else s

/-- One second of a running dwell (R42). -/
def execDwellSecond (s : State) : Host.Outcome State Fault Refusal :=
  s.run fun s => s.whenWorking fun s => s.dwellSecond fun _ => true

/-- The last second of a running dwell (R42; log entry 7). -/
def execDwellEnd (s : State) : Host.Outcome State Fault Refusal :=
  s.run fun s => s.whenWorking fun s => s.dwellSecond fun a => decide (a.dwellRemaining ≤ 1)

/-- The last second before a refill reaches 120 s (R108; log entry 7). -/
def execRefillTimeout (channel : Fin 12) (s : State) : Host.Outcome State Fault Refusal :=
  s.run fun s => s.whenWorking fun s => (s.refillTimeout channel).serveSlot

/-- One second of a running refill timer (R105). -/
def execRefillElapsedSecond (channel : Fin 12) (s : State) : Host.Outcome State Fault Refusal :=
  s.run fun s => s.whenWorking fun s => (s.refillSecond channel).serveSlot

/-- One tick of the print-room clock; the lateness scan follows, but not in the quiet time of R220 (R20, R21). -/
def State.tick (s : State) : State :=
  if s.working then s.setClockTo (s.clock + 1) else s.setOrders { s.orders with clock := s.clock + 1 }

/-- The one-second interval expires (R20). -/
def execClockTick (s : State) : Host.Outcome State Fault Refusal := s.run fun s => s.tick

/-! ### Store, reset, power -/

/-- The store write in flight ends (R214, R215). -/
def execStoreWriteEnd (result : WriteResult) (s : State) : Host.Outcome State Fault Refusal :=
  s.run fun s => s.storeWriteEnd result

/-- The soft reset of R220 step 5, once it is due. -/
def execSoftReset (s : State) : Host.Outcome State Fault Refusal := s.run fun s => s.softReset

/-- Power applied or RST_N released (R217, R218). -/
def execPowerUp (memoryKept : Bool) (s : State) : Host.Outcome State Fault Refusal :=
  .next (s.powerUp memoryKept).closeStep

/-- RST_N asserted or power lost (R221). -/
def execPowerLoss (s : State) : Host.Outcome State Fault Refusal := .next s.powerLoss

end Sys2Proof.Machine
end

