-- ==== Sys2Proof/Machine/Requests.lean ====
section
/-! DEFINITION. The meanings of the request commands: a good frame of that kind on the server link, with its own rule
(R191 to R194). -/

set_option Elab.async false

namespace Sys2Proof.Machine

/-- SUBMIT (R8). -/
def execSubmit (tag : Byte) (payload : List Byte) (s : State) : Host.Outcome State Fault Refusal :=
  s.runRequest 0x10 tag payload takeSubmit

/-- AMEND (R9). -/
def execAmend (tag : Byte) (payload : List Byte) (s : State) : Host.Outcome State Fault Refusal :=
  s.runRequest 0x11 tag payload takeAmend

/-- CANCEL (R11). -/
def execCancel (tag : Byte) (payload : List Byte) (s : State) : Host.Outcome State Fault Refusal :=
  s.runRequest 0x12 tag payload takeCancel

/-- RELEASE (R12). -/
def execRelease (tag : Byte) (payload : List Byte) (s : State) : Host.Outcome State Fault Refusal :=
  s.runRequest 0x13 tag payload takeRelease

/-- ORDER_QUERY (R13). -/
def execOrderQuery (tag : Byte) (payload : List Byte) (s : State) : Host.Outcome State Fault Refusal :=
  s.runRequest 0x14 tag payload takeOrderQuery

/-- ORDER_LIST (R14). -/
def execOrderList (tag : Byte) (payload : List Byte) (s : State) : Host.Outcome State Fault Refusal :=
  s.runRequest 0x15 tag payload takeOrderList

/-- PAUSE (R15). -/
def execPause (tag : Byte) (payload : List Byte) (s : State) : Host.Outcome State Fault Refusal :=
  s.runRequest 0x16 tag payload takePause

/-- RESUME (R15). -/
def execResume (tag : Byte) (payload : List Byte) (s : State) : Host.Outcome State Fault Refusal :=
  s.runRequest 0x17 tag payload takeResume

/-- SET_CLOCK (R20). -/
def execSetClock (tag : Byte) (payload : List Byte) (s : State) : Host.Outcome State Fault Refusal :=
  s.runRequest 0x18 tag payload takeSetClock

/-- READ_CLOCK (R20). -/
def execReadClock (tag : Byte) (payload : List Byte) (s : State) : Host.Outcome State Fault Refusal :=
  s.runRequest 0x19 tag payload takeReadClock

/-- MEDIA_DEFINE (R27). -/
def execMediaDefine (tag : Byte) (payload : List Byte) (s : State) : Host.Outcome State Fault Refusal :=
  s.runRequest 0x20 tag payload takeMediaDefine

/-- MEDIA_QUERY (R28). -/
def execMediaQuery (tag : Byte) (payload : List Byte) (s : State) : Host.Outcome State Fault Refusal :=
  s.runRequest 0x21 tag payload takeMediaQuery

/-- ROLL_DECLARE (R31). -/
def execRollDeclare (tag : Byte) (payload : List Byte) (s : State) : Host.Outcome State Fault Refusal :=
  s.runRequest 0x22 tag payload takeRollDeclare

/-- FLAW_MARK (R32). -/
def execFlawMark (tag : Byte) (payload : List Byte) (s : State) : Host.Outcome State Fault Refusal :=
  s.runRequest 0x23 tag payload takeFlawMark

/-- FLAW_CLEAR (R32). -/
def execFlawClear (tag : Byte) (payload : List Byte) (s : State) : Host.Outcome State Fault Refusal :=
  s.runRequest 0x24 tag payload takeFlawClear

/-- ROLL_QUERY (R33). -/
def execRollQuery (tag : Byte) (payload : List Byte) (s : State) : Host.Outcome State Fault Refusal :=
  s.runRequest 0x25 tag payload takeRollQuery

/-- TRIM (R43). -/
def execTrim (tag : Byte) (payload : List Byte) (s : State) : Host.Outcome State Fault Refusal :=
  s.runRequest 0x26 tag payload takeTrim

/-- ATTEMPT_QUERY (R68). -/
def execAttemptQuery (tag : Byte) (payload : List Byte) (s : State) : Host.Outcome State Fault Refusal :=
  s.runRequest 0x28 tag payload takeAttemptQuery

/-- ENGINE_RESTART (R86). -/
def execEngineRestart (tag : Byte) (payload : List Byte) (s : State) : Host.Outcome State Fault Refusal :=
  s.runRequest 0x30 tag payload takeEngineRestart

/-- AUTO_RECOVERY_SET (R85). -/
def execAutoRecoverySet (tag : Byte) (payload : List Byte) (s : State) : Host.Outcome State Fault Refusal :=
  s.runRequest 0x31 tag payload takeAutoRecoverySet

/-- ENGINE_QUERY (R88). -/
def execEngineQuery (tag : Byte) (payload : List Byte) (s : State) : Host.Outcome State Fault Refusal :=
  s.runRequest 0x32 tag payload takeEngineQuery

/-- DROP_SIZES_SET (R92). -/
def execDropSizesSet (tag : Byte) (payload : List Byte) (s : State) : Host.Outcome State Fault Refusal :=
  s.runRequest 0x38 tag payload takeDropSizesSet

/-- CHANNEL_SET (R113). -/
def execChannelSet (tag : Byte) (payload : List Byte) (s : State) : Host.Outcome State Fault Refusal :=
  s.runRequest 0x39 tag payload takeChannelSet

/-- CHANNEL_RESET (R109). -/
def execChannelReset (tag : Byte) (payload : List Byte) (s : State) : Host.Outcome State Fault Refusal :=
  s.runRequest 0x3A tag payload takeChannelReset

/-- CLEAN_REQUEST (R111). -/
def execCleanRequest (tag : Byte) (payload : List Byte) (s : State) : Host.Outcome State Fault Refusal :=
  s.runRequest 0x3B tag payload takeCleanRequest

/-- SUPPLY_QUERY (R114). -/
def execSupplyQuery (tag : Byte) (payload : List Byte) (s : State) : Host.Outcome State Fault Refusal :=
  s.runRequest 0x3C tag payload takeSupplyQuery

/-- REFERENCE_SET (R119). -/
def execReferenceSet (tag : Byte) (payload : List Byte) (s : State) : Host.Outcome State Fault Refusal :=
  s.runRequest 0x40 tag payload takeReferenceSet

/-- COLOUR_LIMITS_SET (R120). -/
def execColourLimitsSet (tag : Byte) (payload : List Byte) (s : State) : Host.Outcome State Fault Refusal :=
  s.runRequest 0x41 tag payload takeColourLimitsSet

/-- COLOUR_QUERY (R121). -/
def execColourQuery (tag : Byte) (payload : List Byte) (s : State) : Host.Outcome State Fault Refusal :=
  s.runRequest 0x42 tag payload takeColourQuery

/-- HISTORY_QUERY (R130). -/
def execHistoryQuery (tag : Byte) (payload : List Byte) (s : State) : Host.Outcome State Fault Refusal :=
  s.runRequest 0x43 tag payload takeHistoryQuery

/-- HISTORY_REARM (R129). -/
def execHistoryRearm (tag : Byte) (payload : List Byte) (s : State) : Host.Outcome State Fault Refusal :=
  s.runRequest 0x44 tag payload takeHistoryRearm

/-- CAPTURE_MODE_SET (R129). -/
def execCaptureModeSet (tag : Byte) (payload : List Byte) (s : State) : Host.Outcome State Fault Refusal :=
  s.runRequest 0x45 tag payload takeCaptureModeSet

/-- COLOUR_RESUME (R135). -/
def execColourResume (tag : Byte) (payload : List Byte) (s : State) : Host.Outcome State Fault Refusal :=
  s.runRequest 0x46 tag payload takeColourResume

/-- GAINS_SET (R143). -/
def execGainsSet (tag : Byte) (payload : List Byte) (s : State) : Host.Outcome State Fault Refusal :=
  s.runRequest 0x48 tag payload takeGainsSet

/-- CORRECTION_SET (R144). -/
def execCorrectionSet (tag : Byte) (payload : List Byte) (s : State) : Host.Outcome State Fault Refusal :=
  s.runRequest 0x49 tag payload takeCorrectionSet

/-- GAINS_QUERY (R145). -/
def execGainsQuery (tag : Byte) (payload : List Byte) (s : State) : Host.Outcome State Fault Refusal :=
  s.runRequest 0x4A tag payload takeGainsQuery

/-- EDITION_OPEN (R149). -/
def execEditionOpen (tag : Byte) (payload : List Byte) (s : State) : Host.Outcome State Fault Refusal :=
  s.runRequest 0x50 tag payload takeEditionOpen

/-- EDITION_CLOSE (R155). -/
def execEditionClose (tag : Byte) (payload : List Byte) (s : State) : Host.Outcome State Fault Refusal :=
  s.runRequest 0x51 tag payload takeEditionClose

/-- EDITION_REMOVE (R156). -/
def execEditionRemove (tag : Byte) (payload : List Byte) (s : State) : Host.Outcome State Fault Refusal :=
  s.runRequest 0x52 tag payload takeEditionRemove

/-- EDITION_QUERY (R157). -/
def execEditionQuery (tag : Byte) (payload : List Byte) (s : State) : Host.Outcome State Fault Refusal :=
  s.runRequest 0x53 tag payload takeEditionQuery

/-- PRICES_SET (R160). -/
def execPricesSet (tag : Byte) (payload : List Byte) (s : State) : Host.Outcome State Fault Refusal :=
  s.runRequest 0x54 tag payload takePricesSet

/-- PRICES_QUERY (R161). -/
def execPricesQuery (tag : Byte) (payload : List Byte) (s : State) : Host.Outcome State Fault Refusal :=
  s.runRequest 0x55 tag payload takePricesQuery

/-- ACCOUNT_QUERY (R179). -/
def execAccountQuery (tag : Byte) (payload : List Byte) (s : State) : Host.Outcome State Fault Refusal :=
  s.runRequest 0x56 tag payload takeAccountQuery

/-- ACCOUNT_CLEAR (R180). -/
def execAccountClear (tag : Byte) (payload : List Byte) (s : State) : Host.Outcome State Fault Refusal :=
  s.runRequest 0x57 tag payload takeAccountClear

/-- ACCOUNT_LOAD (R181). -/
def execAccountLoad (tag : Byte) (payload : List Byte) (s : State) : Host.Outcome State Fault Refusal :=
  s.runRequest 0x58 tag payload takeAccountLoad

/-- IDENTIFY (R197). -/
def execIdentify (tag : Byte) (payload : List Byte) (s : State) : Host.Outcome State Fault Refusal :=
  s.runRequest 0x60 tag payload takeIdentify

/-- STATUS_QUERY (R198). -/
def execStatusQuery (tag : Byte) (payload : List Byte) (s : State) : Host.Outcome State Fault Refusal :=
  s.runRequest 0x61 tag payload takeStatusQuery

/-- NOTICE_ENABLE (R202). -/
def execNoticeEnable (tag : Byte) (payload : List Byte) (s : State) : Host.Outcome State Fault Refusal :=
  s.runRequest 0x68 tag payload takeNoticeEnable

/-- NOTICE_CLEAR (R206). -/
def execNoticeClear (tag : Byte) (payload : List Byte) (s : State) : Host.Outcome State Fault Refusal :=
  s.runRequest 0x69 tag payload takeNoticeClear

/-- COUNTERS_QUERY (R210). -/
def execCountersQuery (tag : Byte) (payload : List Byte) (s : State) : Host.Outcome State Fault Refusal :=
  s.runRequest 0x6A tag payload takeCountersQuery

/-- STORE_COMMIT (R216). -/
def execStoreCommit (tag : Byte) (payload : List Byte) (s : State) : Host.Outcome State Fault Refusal :=
  s.runRequest 0x70 tag payload takeStoreCommit

/-- PART_RESET (R220). -/
def execPartReset (tag : Byte) (payload : List Byte) (s : State) : Host.Outcome State Fault Refusal :=
  s.runRequest 0x71 tag payload takePartReset

/-- A good frame of a kind that no request has: the reply is UNKNOWN_KIND (R193). A kind that is a request after all is
answered by its own rule. -/
def execUnknownKind (kind tag : Byte) (payload : List Byte) (s : State) : Host.Outcome State Fault Refusal :=
  s.runRequest kind tag payload (ruleOf kind)

end Sys2Proof.Machine
end

