-- ==== Sys2Proof/Machine/Dispatch.lean ====
section
/-! DEFINITION. exec: one arm for each command, each a direct call of its meaning. -/

namespace Sys2Proof.Machine

def exec (i : Instr) (s : State) : Host.Outcome State Fault Refusal :=
  match i with
  | .submit tag payload => Sys2Proof.Machine.execSubmit tag payload s
  | .amend tag payload => Sys2Proof.Machine.execAmend tag payload s
  | .cancel tag payload => Sys2Proof.Machine.execCancel tag payload s
  | .release tag payload => Sys2Proof.Machine.execRelease tag payload s
  | .orderQuery tag payload => Sys2Proof.Machine.execOrderQuery tag payload s
  | .orderList tag payload => Sys2Proof.Machine.execOrderList tag payload s
  | .pause tag payload => Sys2Proof.Machine.execPause tag payload s
  | .resume tag payload => Sys2Proof.Machine.execResume tag payload s
  | .setClock tag payload => Sys2Proof.Machine.execSetClock tag payload s
  | .readClock tag payload => Sys2Proof.Machine.execReadClock tag payload s
  | .mediaDefine tag payload => Sys2Proof.Machine.execMediaDefine tag payload s
  | .mediaQuery tag payload => Sys2Proof.Machine.execMediaQuery tag payload s
  | .rollDeclare tag payload => Sys2Proof.Machine.execRollDeclare tag payload s
  | .flawMark tag payload => Sys2Proof.Machine.execFlawMark tag payload s
  | .flawClear tag payload => Sys2Proof.Machine.execFlawClear tag payload s
  | .rollQuery tag payload => Sys2Proof.Machine.execRollQuery tag payload s
  | .trim tag payload => Sys2Proof.Machine.execTrim tag payload s
  | .attemptQuery tag payload => Sys2Proof.Machine.execAttemptQuery tag payload s
  | .engineRestart tag payload => Sys2Proof.Machine.execEngineRestart tag payload s
  | .autoRecoverySet tag payload => Sys2Proof.Machine.execAutoRecoverySet tag payload s
  | .engineQuery tag payload => Sys2Proof.Machine.execEngineQuery tag payload s
  | .dropSizesSet tag payload => Sys2Proof.Machine.execDropSizesSet tag payload s
  | .channelSet tag payload => Sys2Proof.Machine.execChannelSet tag payload s
  | .channelReset tag payload => Sys2Proof.Machine.execChannelReset tag payload s
  | .cleanRequest tag payload => Sys2Proof.Machine.execCleanRequest tag payload s
  | .supplyQuery tag payload => Sys2Proof.Machine.execSupplyQuery tag payload s
  | .referenceSet tag payload => Sys2Proof.Machine.execReferenceSet tag payload s
  | .colourLimitsSet tag payload => Sys2Proof.Machine.execColourLimitsSet tag payload s
  | .colourQuery tag payload => Sys2Proof.Machine.execColourQuery tag payload s
  | .historyQuery tag payload => Sys2Proof.Machine.execHistoryQuery tag payload s
  | .historyRearm tag payload => Sys2Proof.Machine.execHistoryRearm tag payload s
  | .captureModeSet tag payload => Sys2Proof.Machine.execCaptureModeSet tag payload s
  | .colourResume tag payload => Sys2Proof.Machine.execColourResume tag payload s
  | .gainsSet tag payload => Sys2Proof.Machine.execGainsSet tag payload s
  | .correctionSet tag payload => Sys2Proof.Machine.execCorrectionSet tag payload s
  | .gainsQuery tag payload => Sys2Proof.Machine.execGainsQuery tag payload s
  | .editionOpen tag payload => Sys2Proof.Machine.execEditionOpen tag payload s
  | .editionClose tag payload => Sys2Proof.Machine.execEditionClose tag payload s
  | .editionRemove tag payload => Sys2Proof.Machine.execEditionRemove tag payload s
  | .editionQuery tag payload => Sys2Proof.Machine.execEditionQuery tag payload s
  | .pricesSet tag payload => Sys2Proof.Machine.execPricesSet tag payload s
  | .pricesQuery tag payload => Sys2Proof.Machine.execPricesQuery tag payload s
  | .accountQuery tag payload => Sys2Proof.Machine.execAccountQuery tag payload s
  | .accountClear tag payload => Sys2Proof.Machine.execAccountClear tag payload s
  | .accountLoad tag payload => Sys2Proof.Machine.execAccountLoad tag payload s
  | .identify tag payload => Sys2Proof.Machine.execIdentify tag payload s
  | .statusQuery tag payload => Sys2Proof.Machine.execStatusQuery tag payload s
  | .noticeEnable tag payload => Sys2Proof.Machine.execNoticeEnable tag payload s
  | .noticeClear tag payload => Sys2Proof.Machine.execNoticeClear tag payload s
  | .countersQuery tag payload => Sys2Proof.Machine.execCountersQuery tag payload s
  | .storeCommit tag payload => Sys2Proof.Machine.execStoreCommit tag payload s
  | .partReset tag payload => Sys2Proof.Machine.execPartReset tag payload s
  | .unknownKind kind tag payload => Sys2Proof.Machine.execUnknownKind kind tag payload s
  | .serverFrameReceived lastByte => Sys2Proof.Machine.execServerFrameReceived lastByte s
  | .framingError link => Sys2Proof.Machine.execFramingError link s
  | .lengthDiscard link secondByte => Sys2Proof.Machine.execLengthDiscard link secondByte s
  | .interByteGapTimeout link => Sys2Proof.Machine.execInterByteGapTimeout link s
  | .transmitComplete => Sys2Proof.Machine.execTransmitComplete s
  | .engineBadFrame => Sys2Proof.Machine.execEngineBadFrame s
  | .feedDone tag pulses => Sys2Proof.Machine.execFeedDone tag pulses s
  | .bandDone tag pulses drops => Sys2Proof.Machine.execBandDone tag pulses drops s
  | .bandStopped tag pulses drops => Sys2Proof.Machine.execBandStopped tag pulses drops s
  | .stripDone tag pulses drops readings => Sys2Proof.Machine.execStripDone tag pulses drops readings s
  | .stripStopped tag pulses drops => Sys2Proof.Machine.execStripStopped tag pulses drops s
  | .cutDone tag => Sys2Proof.Machine.execCutDone tag s
  | .cleanDone tag => Sys2Proof.Machine.execCleanDone tag s
  | .probeAck tag => Sys2Proof.Machine.execProbeAck tag s
  | .ready tag => Sys2Proof.Machine.execReady tag s
  | .levels samples => Sys2Proof.Machine.execLevels samples s
  | .bayEvent bay present serial lot fill => Sys2Proof.Machine.execBayEvent bay present serial lot fill s
  | .rollEvent present => Sys2Proof.Machine.execRollEvent present s
  | .coverEvent closed => Sys2Proof.Machine.execCoverEvent closed s
  | .engineCommandTimeout => Sys2Proof.Machine.execEngineCommandTimeout s
  | .probeInterval => Sys2Proof.Machine.execProbeInterval s
  | .dwellSecond => Sys2Proof.Machine.execDwellSecond s
  | .dwellEnd => Sys2Proof.Machine.execDwellEnd s
  | .refillTimeout channel => Sys2Proof.Machine.execRefillTimeout channel s
  | .clockTick => Sys2Proof.Machine.execClockTick s
  | .storeWriteEnd result => Sys2Proof.Machine.execStoreWriteEnd result s
  | .softReset => Sys2Proof.Machine.execSoftReset s
  | .powerUp memoryKept => Sys2Proof.Machine.execPowerUp memoryKept s
  | .powerLoss => Sys2Proof.Machine.execPowerLoss s
  | .byteReceived link byte => Sys2Proof.Machine.execByteReceived link byte s
  | .refillElapsedSecond channel => Sys2Proof.Machine.execRefillElapsedSecond channel s

end Sys2Proof.Machine
end

