-- ==== Sys2Proof/Safety.lean ====
section
/-! DEFINITION. The terms that claims about the C1240 are stated in: which blocks a step leaves alone, what a request
taken at once leaves on the server link, what a marked store looks like, and the invariants of the manual's numbers. -/

set_option Elab.async false

namespace Sys2Proof.Machine

/-! ### Frames -/

/-- The fields of the state, each a block of the part or the model's own. -/
inductive Block where
  | pending | held | quiet | orders | holder | uncut | engine | media | ink | colour | editions | costs | notices
  | server | store | freeReads
  deriving DecidableEq, Repr

/-- A block is the same in both states. -/
def Block.same (s t : State) : Block → Prop
  | .pending => t.pending = s.pending
  | .held => t.held = s.held
  | .quiet => t.quiet = s.quiet
  | .orders => t.orders = s.orders
  | .holder => t.holder = s.holder
  | .uncut => t.uncut = s.uncut
  | .engine => t.engine = s.engine
  | .media => t.media = s.media
  | .ink => t.ink = s.ink
  | .colour => t.colour = s.colour
  | .editions => t.editions = s.editions
  | .costs => t.costs = s.costs
  | .notices => t.notices = s.notices
  | .server => t.server = s.server
  | .store => t.store = s.store
  | .freeReads => t.freeReads = s.freeReads

/-- Every block outside the list is unchanged. -/
def Keeps (changed : List Block) (s t : State) : Prop := ∀ b : Block, b ∉ changed → b.same s t

/-! ### Requests taken at once -/

/-- The part has power and is not in the quiet time of R220, no frame is held before the one that arrives, and there is
room to queue its reply (R191, R192). -/
def Takes (s : State) : Prop :=
  s.held = false ∧ s.quiet = none ∧ s.server.holding = [] ∧ replyCount s.server.tx < 4

/-- What a step may add to the transmit queue of a busy transmitter: nothing, or the NOTICE frame of a trigger, and then
`frames`; the frame going out stays (R196, R203). -/
def Queued (s t : State) (frames : List TxFrame) : Prop :=
  t.server.sending = s.server.sending ∧
    ((t.notices.place = s.notices.place ∧ t.server.tx = s.server.tx ++ frames) ∨
      (s.notices.place = .none ∧ t.notices.place = .awaiting ∧ t.server.tx = s.server.tx ++ .notice :: frames))

/-- The request was taken and answered: its one reply is the newest frame of the transmit queue, frames taken has
advanced, and the receive side is as before (R192, R194). While the transmitter is busy, the frames ahead of the reply are
those queued before, and at most one NOTICE. -/
def Replied (s t : State) (kind tag : Byte) (status : Status) (fields : List Byte) : Prop :=
  t.server.tx.getLast? = some (.reply tag kind status fields) ∧
    t.server.receiver = s.server.receiver ∧ t.server.holding = [] ∧
    t.server.counters = { s.server.counters with framesTaken := min 65535 (s.server.counters.framesTaken + 1) } ∧
    (s.server.sending.isSome = true → Queued s t [.reply tag kind status fields])

/-- No category went pending, was cleared, enabled or disabled, no notice is owed anew, and no NOTICE frame is queued: its
place is kept while the transmitter is busy. -/
def NoticesKept (s t : State) : Prop :=
  t.notices.pending = s.notices.pending ∧ t.notices.enabled = s.notices.enabled ∧
    t.notices.owed = s.notices.owed ∧ (s.server.sending.isSome = true → t.notices.place = s.notices.place)

/-- What the store holds beside its flag and the write in flight. -/
def StoreRecordKept (s t : State) : Prop :=
  t.store.image = s.store.image ∧ t.store.event = s.store.event ∧ t.store.failedWrites = s.store.failedWrites ∧
    t.store.lastWrite = s.store.lastWrite ∧ t.store.lastFailed = s.store.lastFailed

/-- The store was marked dirty: a write of the retained set as it now stands has begun when none was in flight, and the
flag stands when one was (R213). -/
def StoreMarked (s t : State) : Prop :=
  StoreRecordKept s t ∧
    (s.store.writing = none → t.store.dirty = false ∧ t.store.writing = some t.retained) ∧
    (s.store.writing ≠ none → t.store.dirty = true ∧ t.store.writing = s.store.writing)

/-- The store was not marked: a clean store is as it was, and a dirty one at most begins the write that was due. -/
def StoreUnmarked (s t : State) : Prop :=
  StoreRecordKept s t ∧ (s.store.dirty = false → t.store = s.store) ∧
    (s.store.writing ≠ none → t.store = s.store)

/-- The blocks that every request's reply passes through. -/
def linkBlocks : List Block := [.server, .notices, .store]

/-- A request that changed nothing but the link: a refusal, or a query (R194). -/
def OnlyReplied (s t : State) (kind tag : Byte) (status : Status) (fields : List Byte) : Prop :=
  Replied s t kind tag status fields ∧ NoticesKept s t ∧ StoreUnmarked s t ∧ Keeps linkBlocks s t

/-- A request that wrote the blocks of the list and no retained value: the store is not marked. -/
def Answered (changed : List Block) (s t : State) (kind tag : Byte) (status : Status) (fields : List Byte) : Prop :=
  Replied s t kind tag status fields ∧ NoticesKept s t ∧ StoreUnmarked s t ∧ Keeps (changed ++ linkBlocks) s t

/-- A request that wrote the blocks of the list, retained values among them: the store is marked. -/
def Recorded (changed : List Block) (s t : State) (kind tag : Byte) (status : Status) (fields : List Byte) : Prop :=
  Replied s t kind tag status fields ∧ NoticesKept s t ∧ StoreMarked s t ∧ Keeps (changed ++ linkBlocks) s t

/-- The slot is served after a change (R77, R78): from a state `u` that meets `P` and differs from `s` in the listed
blocks and the link alone, the arbiter has its turn; with a command outstanding it offers nothing (R76), and `u` stands. -/
def Served (changed : List Block) (s t : State) (P : State → Prop) : Prop :=
  ∃ u, P u ∧ Keeps (changed ++ linkBlocks) s u ∧ Keeps linkBlocks u.serveSlot t ∧
    t.notices.pending = u.serveSlot.notices.pending ∧
    (u.engine.outstanding ≠ none → Keeps linkBlocks u t ∧ t.notices.pending = u.notices.pending)

/-- The re-evaluation of R17 has run: every waiting order stands as its eligibility in `u` gives, and ORDER went pending
when one moved. -/
def Reevaluated (s u : State) : Prop :=
  u.orders = { s.orders with slots := Vector.ofFn fun i => u.reevaluatedSlot s.orders.slots[i] } ∧
    u.notices.pending = (if (List.finRange 40).any fun i => u.movesSlot s.orders.slots[i]
      then s.notices.pending ||| 1#8 else s.notices.pending)

/-- The codes of R194 that refuse a request. -/
def Status.refuses : Status → Bool
  | .ok => false
  | .adjusted => false
  | .unknownKind => true
  | .badLength => true
  | .badField => true
  | .notFound => true
  | .duplicate => true
  | .full => true
  | .wrongState => true
  | .busy => true
  | .editionFull => true
  | .noReference => true
  | .overCeiling => true

/-! ### The requests as frames -/

/-- A request's place on the server link: its kind code (section 12.3), its payload length (section 12.4; log entry 14
for the layouts that follow from their rules), its tag and its payload. -/
structure Request where
  kind : Byte
  length : Nat
  tag : Byte
  payload : List Byte

/-- The request a command stands for; none for the commands that are no request of the server link. -/
def requestOf : Instr → Option Request
  | .submit tag payload => some { kind := 0x10, length := 34, tag := tag, payload := payload }
  | .amend tag payload => some { kind := 0x11, length := 20, tag := tag, payload := payload }
  | .cancel tag payload => some { kind := 0x12, length := 4, tag := tag, payload := payload }
  | .release tag payload => some { kind := 0x13, length := 4, tag := tag, payload := payload }
  | .orderQuery tag payload => some { kind := 0x14, length := 4, tag := tag, payload := payload }
  | .orderList tag payload => some { kind := 0x15, length := 1, tag := tag, payload := payload }
  | .pause tag payload => some { kind := 0x16, length := 0, tag := tag, payload := payload }
  | .resume tag payload => some { kind := 0x17, length := 0, tag := tag, payload := payload }
  | .setClock tag payload => some { kind := 0x18, length := 4, tag := tag, payload := payload }
  | .readClock tag payload => some { kind := 0x19, length := 0, tag := tag, payload := payload }
  | .mediaDefine tag payload => some { kind := 0x20, length := 20, tag := tag, payload := payload }
  | .mediaQuery tag payload => some { kind := 0x21, length := 1, tag := tag, payload := payload }
  | .rollDeclare tag payload => some { kind := 0x22, length := 7, tag := tag, payload := payload }
  | .flawMark tag payload => some { kind := 0x23, length := 9, tag := tag, payload := payload }
  | .flawClear tag payload => some { kind := 0x24, length := 1, tag := tag, payload := payload }
  | .rollQuery tag payload => some { kind := 0x25, length := 0, tag := tag, payload := payload }
  | .trim tag payload => some { kind := 0x26, length := 2, tag := tag, payload := payload }
  | .attemptQuery tag payload => some { kind := 0x28, length := 0, tag := tag, payload := payload }
  | .engineRestart tag payload => some { kind := 0x30, length := 0, tag := tag, payload := payload }
  | .autoRecoverySet tag payload => some { kind := 0x31, length := 1, tag := tag, payload := payload }
  | .engineQuery tag payload => some { kind := 0x32, length := 0, tag := tag, payload := payload }
  | .dropSizesSet tag payload => some { kind := 0x38, length := 6, tag := tag, payload := payload }
  | .channelSet tag payload => some { kind := 0x39, length := 5, tag := tag, payload := payload }
  | .channelReset tag payload => some { kind := 0x3A, length := 1, tag := tag, payload := payload }
  | .cleanRequest tag payload => some { kind := 0x3B, length := 12, tag := tag, payload := payload }
  | .supplyQuery tag payload => some { kind := 0x3C, length := 1, tag := tag, payload := payload }
  | .referenceSet tag payload => some { kind := 0x40, length := 97, tag := tag, payload := payload }
  | .colourLimitsSet tag payload => some { kind := 0x41, length := 9, tag := tag, payload := payload }
  | .colourQuery tag payload => some { kind := 0x42, length := 1, tag := tag, payload := payload }
  | .historyQuery tag payload => some { kind := 0x43, length := 5, tag := tag, payload := payload }
  | .historyRearm tag payload => some { kind := 0x44, length := 5, tag := tag, payload := payload }
  | .captureModeSet tag payload => some { kind := 0x45, length := 6, tag := tag, payload := payload }
  | .colourResume tag payload => some { kind := 0x46, length := 5, tag := tag, payload := payload }
  | .gainsSet tag payload => some { kind := 0x48, length := 29, tag := tag, payload := payload }
  | .correctionSet tag payload => some { kind := 0x49, length := 12, tag := tag, payload := payload }
  | .gainsQuery tag payload => some { kind := 0x4A, length := 5, tag := tag, payload := payload }
  | .editionOpen tag payload => some { kind := 0x50, length := 106, tag := tag, payload := payload }
  | .editionClose tag payload => some { kind := 0x51, length := 4, tag := tag, payload := payload }
  | .editionRemove tag payload => some { kind := 0x52, length := 4, tag := tag, payload := payload }
  | .editionQuery tag payload => some { kind := 0x53, length := 4, tag := tag, payload := payload }
  | .pricesSet tag payload => some { kind := 0x54, length := 88, tag := tag, payload := payload }
  | .pricesQuery tag payload => some { kind := 0x55, length := 0, tag := tag, payload := payload }
  | .accountQuery tag payload => some { kind := 0x56, length := 1, tag := tag, payload := payload }
  | .accountClear tag payload => some { kind := 0x57, length := 1, tag := tag, payload := payload }
  | .accountLoad tag payload => some { kind := 0x58, length := 37, tag := tag, payload := payload }
  | .identify tag payload => some { kind := 0x60, length := 0, tag := tag, payload := payload }
  | .statusQuery tag payload => some { kind := 0x61, length := 0, tag := tag, payload := payload }
  | .noticeEnable tag payload => some { kind := 0x68, length := 1, tag := tag, payload := payload }
  | .noticeClear tag payload => some { kind := 0x69, length := 1, tag := tag, payload := payload }
  | .countersQuery tag payload => some { kind := 0x6A, length := 1, tag := tag, payload := payload }
  | .storeCommit tag payload => some { kind := 0x70, length := 0, tag := tag, payload := payload }
  | .partReset tag payload => some { kind := 0x71, length := 0, tag := tag, payload := payload }
  | .unknownKind _ _ _ => none
  | .serverFrameReceived _ => none
  | .framingError _ => none
  | .lengthDiscard _ _ => none
  | .interByteGapTimeout _ => none
  | .transmitComplete => none
  | .engineBadFrame => none
  | .feedDone _ _ => none
  | .bandDone _ _ _ => none
  | .bandStopped _ _ _ => none
  | .stripDone _ _ _ _ => none
  | .stripStopped _ _ _ => none
  | .cutDone _ => none
  | .cleanDone _ => none
  | .probeAck _ => none
  | .ready _ => none
  | .levels _ => none
  | .bayEvent _ _ _ _ _ => none
  | .rollEvent _ => none
  | .coverEvent _ => none
  | .engineCommandTimeout => none
  | .probeInterval => none
  | .dwellSecond => none
  | .dwellEnd => none
  | .refillTimeout _ => none
  | .clockTick => none
  | .storeWriteEnd _ => none
  | .softReset => none
  | .powerUp _ => none
  | .powerLoss => none
  | .byteReceived _ _ => none
  | .refillElapsedSecond _ => none

/-! ### Events -/

/-- The part has power and is not in the quiet time of R220: it acts on frames and timers. -/
def Works (s : State) : Prop := s.held = false ∧ s.quiet = none

/-- Nothing is left to start at the end of a step: the transmitter has taken what it may, and no write is due (R196,
R213; log entry 5). Every step answers such a state. -/
def Settled (s : State) : Prop := s.closeStep = s

/-- The reports as commands: the tag and the report's fields (R69, R225). -/
def reportOf : Instr → Option (Byte × Report)
  | .feedDone tag pulses => some (tag, .feedDone pulses.toNat)
  | .bandDone tag pulses drops => some (tag, .bandDone pulses.toNat drops)
  | .bandStopped tag pulses drops => some (tag, .bandStopped pulses.toNat drops)
  | .stripDone tag pulses drops readings => some (tag, .stripDone pulses.toNat drops (readingsOf readings))
  | .stripStopped tag pulses drops => some (tag, .stripStopped pulses.toNat drops)
  | .cutDone tag => some (tag, .cutDone)
  | .cleanDone tag => some (tag, .cleanDone)
  | .probeAck tag => some (tag, .probeAck)
  | .ready tag => some (tag, .ready)
  | .submit _ _ => none
  | .amend _ _ => none
  | .cancel _ _ => none
  | .release _ _ => none
  | .orderQuery _ _ => none
  | .orderList _ _ => none
  | .pause _ _ => none
  | .resume _ _ => none
  | .setClock _ _ => none
  | .readClock _ _ => none
  | .mediaDefine _ _ => none
  | .mediaQuery _ _ => none
  | .rollDeclare _ _ => none
  | .flawMark _ _ => none
  | .flawClear _ _ => none
  | .rollQuery _ _ => none
  | .trim _ _ => none
  | .attemptQuery _ _ => none
  | .engineRestart _ _ => none
  | .autoRecoverySet _ _ => none
  | .engineQuery _ _ => none
  | .dropSizesSet _ _ => none
  | .channelSet _ _ => none
  | .channelReset _ _ => none
  | .cleanRequest _ _ => none
  | .supplyQuery _ _ => none
  | .referenceSet _ _ => none
  | .colourLimitsSet _ _ => none
  | .colourQuery _ _ => none
  | .historyQuery _ _ => none
  | .historyRearm _ _ => none
  | .captureModeSet _ _ => none
  | .colourResume _ _ => none
  | .gainsSet _ _ => none
  | .correctionSet _ _ => none
  | .gainsQuery _ _ => none
  | .editionOpen _ _ => none
  | .editionClose _ _ => none
  | .editionRemove _ _ => none
  | .editionQuery _ _ => none
  | .pricesSet _ _ => none
  | .pricesQuery _ _ => none
  | .accountQuery _ _ => none
  | .accountClear _ _ => none
  | .accountLoad _ _ => none
  | .identify _ _ => none
  | .statusQuery _ _ => none
  | .noticeEnable _ _ => none
  | .noticeClear _ _ => none
  | .countersQuery _ _ => none
  | .storeCommit _ _ => none
  | .partReset _ _ => none
  | .unknownKind _ _ _ => none
  | .serverFrameReceived _ => none
  | .framingError _ => none
  | .lengthDiscard _ _ => none
  | .interByteGapTimeout _ => none
  | .transmitComplete => none
  | .engineBadFrame => none
  | .levels _ => none
  | .bayEvent _ _ _ _ _ => none
  | .rollEvent _ => none
  | .coverEvent _ => none
  | .engineCommandTimeout => none
  | .probeInterval => none
  | .dwellSecond => none
  | .dwellEnd => none
  | .refillTimeout _ => none
  | .clockTick => none
  | .storeWriteEnd _ => none
  | .softReset => none
  | .powerUp _ => none
  | .powerLoss => none
  | .byteReceived _ _ => none
  | .refillElapsedSecond _ => none

/-- The part works and this command of this party is outstanding with this tag (R69, R70). -/
def Awaits (s : State) (command : EngineCommand) (party : Party) (tag : Byte) : Prop :=
  Works s ∧ ∃ frame elapsed, s.engine.outstanding =
    some { command := command, tag := tag, party := party, frame := frame, elapsed := elapsed }

/-- An increase of the error count by `k`, with the engine state it decides: in OK, WARN and LIMITED only, not above 255;
ENGINE goes pending when the state changes (R81, R82). -/
def ErrorsAdded (k : Nat) (s t : State) : Prop :=
  if s.engine.state.running then
    t.engine.errorCount = min 255 (s.engine.errorCount + k) ∧
      t.engine.state = stateOfCount (min 255 (s.engine.errorCount + k)) ∧
      (t.engine.state ≠ s.engine.state → t.notices.pending &&& 64#8 = 64#8)
  else t.engine.errorCount = s.engine.errorCount ∧ t.engine.state = s.engine.state

/-- A correct report frees the slot and forgives one error, not below 0, in OK, WARN and LIMITED; the count decides the
state, ENGINE goes pending when that changes, and the rest of the engine link is as before (R72 class 3, R81, R82). -/
def Forgiven (s u : State) : Prop :=
  let running := s.engine.state.running
  u.engine = { s.engine with
      outstanding := none,
      errorCount := if running then s.engine.errorCount - 1 else s.engine.errorCount,
      state := if running then stateOfCount (s.engine.errorCount - 1) else s.engine.state } ∧
    (u.engine.state ≠ s.engine.state → u.notices.pending &&& 64#8 = 64#8)

/-- The part after each byte of a list has arrived on a link, in turn. -/
def afterBytes (link : Link) (bytes : List Byte) (s : State) :
    Host.Outcome State Fault Refusal :=
  bytes.foldl (fun o b => match o with
    | .next u => exec (.byteReceived link b) u
    | .fault f => .fault f
    | .refused r => .refused r) (.next s)

/-- The gain set that a selector names, in use and holding `x`: a defined media kind's set, or a present edition's
(R129, R138, R222). -/
def SelectsGainSet (s : State) (p : List Byte) (g : Fin 24) (x : GainSet) : Prop :=
  s.colour.gainSets[g] = some x ∧
    ((∃ k : Fin 8, byteAt p 0 = 0 ∧ u32At p 1 = k.val ∧ s.media.kinds[k] ≠ none ∧ g.val = k.val) ∨
      ∃ i : Fin 16, byteAt p 0 = 1 ∧ s.findEdition (word32At p 1) = some i ∧ g.val = 8 + i.val)

/-- The store is marked when `changed`, and not otherwise: the form of every rule that marks it "when a value differs". -/
def MarkedIf (changed : Prop) (s t : State) : Prop := (changed → StoreMarked s t) ∧ (¬changed → StoreUnmarked s t)

/-! ### Frames of the engine -/

/-- The report or event a good frame of the engine link is: by its kind code (section 12.3) and the payload length of its
layout, its fields at the layout's offsets; none for every other kind or length, which is a bad frame (R72, R225). -/
def engineCommandOf (kind tag : Byte) (p : List Byte) : Option Instr :=
  let drops : Vector Drops 12 := Vector.ofFn fun c =>
    { small := word32At p (4 + 12 * c.val), medium := word32At p (8 + 12 * c.val), large := word32At p (12 + 12 * c.val) }
  let raw : Vector RawReading 16 := Vector.ofFn fun k =>
    { L := BitVec.ofNat 16 (u16At p (148 + 7 * k.val)), a := BitVec.ofNat 16 (u16At p (150 + 7 * k.val)),
      b := BitVec.ofNat 16 (u16At p (152 + 7 * k.val)), valid := p.getD (154 + 7 * k.val) 0 }
  match kind.toNat, p.length with
  | 0xB0, 4 => some (.feedDone tag (word32At p 0))
  | 0xB1, 148 => some (.bandDone tag (word32At p 0) drops)
  | 0xB2, 148 => some (.bandStopped tag (word32At p 0) drops)
  | 0xB3, 260 => some (.stripDone tag (word32At p 0) drops raw)
  | 0xB4, 148 => some (.stripStopped tag (word32At p 0) drops)
  | 0xB5, 0 => some (.cutDone tag)
  | 0xB6, 0 => some (.cleanDone tag)
  | 0xB7, 0 => some (.probeAck tag)
  | 0xB8, 0 => some (.ready tag)
  | 0xC0, 12 => some (.levels (textAt 12 p 0))
  | 0xC1, 26 => some (.bayEvent (p.getD 0 0) (p.getD 1 0) (textAt 12 p 2) (textAt 8 p 14) (word32At p 22))
  | 0xC2, 1 => some (.rollEvent (p.getD 0 0))
  | 0xC3, 1 => some (.coverEvent (p.getD 0 0))
  | _, _ => none

/-! ### Paper, ink and orders after a report -/

/-- The slip test of R39 on a command of `n` mm that measured `q` pulses, while a roll is declared. -/
def State.isSlip (s : State) (n q : Nat) : Bool :=
  s.media.roll.declared && decide (max q (n * 40) - min q (n * 40) > n * 40 / 50 + 40)

/-- `q` measured pulses take the position of a declared roll from below its end to its end (R38). -/
def State.reachesEnd (s : State) (q : Nat) : Bool :=
  s.media.roll.declared && decide (s.media.roll.position < s.media.roll.length * 40) &&
    decide (s.media.roll.length * 40 ≤ s.media.roll.position + q)

/-- The media unit after `q` measured pulses: the position of a declared roll, not past its end, ROLL_END when it gets
there (R38), and SLIP when `slip` is checked (R39, R40) against a command of `n` mm. -/
def State.mediaMoved (s : State) (slip : Bool) (n q : Nat) (order : Option Word32) : MediaUnit :=
  let noted (e : MediaEvent) : Option MediaCondition := some { event := e, clock := s.orders.clock, order := order }
  { s.media with
    roll := if s.media.roll.declared then
      { s.media.roll with position := min (s.media.roll.length * 40) (s.media.roll.position + q) } else s.media.roll,
    condition := if slip && s.isSlip n q then noted (.slip (decide (n * 40 < q)) (n * 40) q)
      else if s.reachesEnd q then noted .rollEnd else s.media.condition }

/-- The paper has moved so, and MEDIA went pending with the condition recorded. -/
def PaperMoved (s u : State) (slip : Bool) (n q : Nat) (order : Option Word32) : Prop :=
  u.media = s.mediaMoved slip n q order ∧
    ((slip && s.isSlip n q) || s.reachesEnd q = true → u.notices.pending &&& 16#8 = 16#8)

/-- The ink supply after the draw of twelve volumes, in tenths of a picolitre, channel by channel in order (R95). -/
def State.inkDrawn (s : State) (v : Fin 12 → Nat) : InkUnit :=
  ((List.finRange 12).foldl (fun u c => u.draw c (v c)) s).ink

/-- What eligibility reads has changed from `s` to `u`: the roll position, a supply state, or a suspension (R17). -/
def EligibilityMoved (s u : State) : Prop :=
  u.media.roll.position ≠ s.media.roll.position ∨
    (∃ c : Fin 12, u.ink.channels[c].supply ≠ s.ink.channels[c].supply) ∨
    ∃ g : Fin 24, u.colour.gainSets[g].map (·.suspended) ≠ s.colour.gainSets[g].map (·.suspended)

/-- The order table `base` stands re-evaluated at `u` when something eligibility reads has changed from `s`, with ORDER
pending when an order moved, and as it was otherwise; SUPPLY is pending when a supply state changed (R17, R98). -/
def OrdersFollow (base : OrderBlock) (s u : State) : Prop :=
  (EligibilityMoved s u →
    u.orders = { base with slots := Vector.ofFn fun i => u.reevaluatedSlot base.slots[i] } ∧
      ((∃ i : Fin 40, u.movesSlot base.slots[i] = true) → u.notices.pending &&& 1#8 = 1#8)) ∧
    (¬EligibilityMoved s u → u.orders = base) ∧
    ((∃ c : Fin 12, u.ink.channels[c].supply ≠ s.ink.channels[c].supply) → u.notices.pending &&& 4#8 = 4#8)

/-- No category was cleared, and only those that `may` allows have gone pending (R201). -/
def OnlyRaised (s u : State) (may : Category → Prop) : Prop :=
  ∀ c : Category, (c.isIn s.notices.pending = true → c.isIn u.notices.pending = true) ∧
    (c.isIn u.notices.pending = true → c.isIn s.notices.pending = true ∨ may c)

/-- COST is pending when an account's saturated flag has been set (R177). -/
def CostNoted (s u : State) : Prop :=
  (∃ i : Fin 64, s.costs.accounts[i].saturated = false ∧ u.costs.accounts[i].saturated = true) →
    u.notices.pending &&& 32#8 = 32#8

/-- LATE is pending when an order's late flag has been set (R22). -/
def LateNoted (s u : State) : Prop :=
  (∃ i : Fin 40, (s.orders.slots[i]).map (·.late) = some false ∧ (u.orders.slots[i]).map (·.late) = some true) →
    u.notices.pending &&& 2#8 = 2#8

/-! ### Strips -/

/-- The readings of a STRIP_DONE as they are judged: clamped, and valid for the byte 1 alone (R117, R225). -/
def clampedReadings (raw : Vector RawReading 16) : Vector Reading 16 := Vector.ofFn fun p =>
  { lab := { L := min 10000 raw[p].L.toNat, a := max (-12800) (min 12700 raw[p].a.toInt),
             b := max (-12800) (min 12700 raw[p].b.toInt) },
    valid := raw[p].valid == 1 }

/-- The ΔE of a patch that is selected and valid (R123). -/
def stripDelta (patches : BitVec 16) (readings : Vector Reading 16) (reference : Vector Lab 16) (p : Fin 16) :
    Option Nat :=
  if patches[p.val] && readings[p].valid then some (deltaE readings[p].lab reference[p]) else none

/-- What the judging of a strip settles (R122 to R125). -/
structure Judgement where
  settings : VerdictSettings
  reference : Vector Lab 16
  mean : Nat
  max : Nat
  worst : Nat
  passed : Bool
  deriving DecidableEq, Repr

/-- The judging of an order's strip: none, for UNVERIFIED, without settings, reference or a patch both selected and valid
(R125); the reference is a FIXED edition's own, and otherwise the media kind's (R122); the mean is rounded down, the worst
patch is the lowest with the largest ΔE, and neither mean nor maximum may exceed its tolerance (R124). -/
def State.judgement (s : State) (o : Order) (readings : Vector Reading 16) : Option Judgement :=
  match s.colour.settings[o.mediaKind] with
  | none => none
  | some v =>
    let own : Option Edition := match o.edition with
      | none => none
      | some ref => match s.findEdition ref with
        | none => none
        | some i => s.editions[i]
    let chosen : Option (Vector Lab 16) := match own with
      | some e => if e.state = .fixed then e.readings else v.reference
      | none => v.reference
    match chosen with
    | none => none
    | some r =>
      let d := (List.finRange 16).filterMap (stripDelta v.patches readings r)
      let top := d.foldl max 0
      let worst : Option (Fin 16) :=
        (List.finRange 16).find? fun p => decide (stripDelta v.patches readings r p = some top)
      if d = [] then none
      else some
        { settings := v, reference := r, mean := d.sum / d.length, max := top,
          worst := (worst.map (·.val)).getD 0,
          passed := decide (top ≤ v.maxTolerance) && decide (d.sum / d.length ≤ v.meanTolerance) }

/-! ### Immediate ends -/

/-- The postings to account 0 of what ends at once (R61, R80, R46, R170 to R172): of an attempt, in WASTE_FEED and
WASTE_CUT the waste measured, at current prices, and then the attempt's ink and media, at its own prices, with no cut and
no handling; of a task that has fed, its measured feed, but for a clear-out whose roll is removed. -/
def State.endPostings (s : State) (removed : Bool) : List Posting :=
  let paper (pulses price : Nat) : Nat := ((pulses + 20) / 40 * price + 500) / 1000
  let fed (t : Task) : List Posting := match t.pulses with
    | none => []
    | some q => [{ media := paper q s.costs.prices.media[s.media.roll.mediaKind] }]
  match s.holder with
  | .attempt a =>
    let kind : Fin 8 := match s.orders.slots[a.slot] with | some o => o.mediaKind | none => 0
    let ink (c : Fin 12) : Nat := (a.tallies[c] / 10000 * a.prices.ink[c] + 500000) / 1000000
    (if a.phase = .wasteFeed ∨ a.phase = .wasteCut then [{ media := paper a.wastePulses s.costs.prices.media[kind] }]
      else []) ++
    [{ ink := ((List.finRange 12).map fun c => min 4294967295 (ink c)).sum,
       media := paper a.ownPulses a.prices.media[kind], attempts := 1,
       inkSaturated := (List.finRange 12).any fun c => decide (4294967295 < ink c) }]
  | .trim t => fed t
  | .clearOut t => if removed then [] else fed t
  | .idle => []
  | .cleaning _ => []
  | .probing _ => []

/-- The cost unit after these postings to account 0. -/
def State.costsEnded (s : State) (removed : Bool) : CostUnit :=
  (s.endPostings removed).foldl
    (fun c p => { c with accounts := c.accounts.set 0 (c.accounts[(0 : Fin 64)].posted p) }) s.costs

/-- The order table after an attempt's immediate end (R19, R22, R61, R182): its order's spoiled total takes each posting,
and the order is CANCELLED when that was asked, retried while attempts are left, and FAILED otherwise; a final order leaves
the arrival list with its end time and its lateness check. -/
def State.ordersEnded (s : State) (outcome : AttemptOutcome) : OrderBlock :=
  match s.holder with
  | .attempt a => match s.orders.slots[a.slot] with
    | none => s.orders
    | some o =>
      let spoiled := (s.endPostings false).foldl
        (fun n p => min 281474976710655 (n + (p.ink + p.media + p.cut + p.handling))) o.cost.spoiledTotal
      let o1 : Order := { o with lastOutcome := some outcome, cost := { o.cost with spoiledTotal := spoiled } }
      let past : Bool := match o.deadline with | some d => decide (d.toNat ≤ s.orders.clock.toNat) | none => false
      let final (st : OrderState) : OrderBlock :=
        { s.orders with
          slots := s.orders.slots.set a.slot (some { o1 with
            state := st, holds := {}, endTime := some s.orders.clock, cancelRequested := false, late := o.late || past }),
          arrival := s.orders.arrival.filter fun j => j != a.slot }
      if o.cancelRequested then final .cancelled
      else if o.attemptsUsed < o.attemptsAllowed then
        let holds := s.holdReasons o1
        { s.orders with slots := s.orders.slots.set a.slot (some
          { o1 with state := if holds = {} then .queued else .held, holds := holds }) }
      else final .failed
  | .idle => s.orders
  | .clearOut _ => s.orders
  | .cleaning _ => s.orders
  | .trim _ => s.orders
  | .probing _ => s.orders

/-- The media unit after an immediate end that no roll removal brings: a declared roll's clear-out is set by an attempt
whose uncut marker was set and by a trim that had fed (R61, R80). -/
def State.mediaEnded (s : State) : MediaUnit :=
  let hangs : Bool := match s.holder with
    | .attempt _ => s.uncut
    | .trim t => decide (0 < t.pulses.getD 0)
    | .idle => false
    | .clearOut _ => false
    | .cleaning _ => false
    | .probing _ => false
  { s.media with roll := { s.media.roll with
      clearOutPending := s.media.roll.clearOutPending || (hangs && s.media.roll.declared) } }

/-- The ink supply after the levels of a CLEAN have returned to their channels: each keeps the higher of the two (R79). -/
def State.inkEnded (s : State) : InkUnit :=
  match s.holder with
  | .cleaning levels => { s.ink with channels := Vector.ofFn fun c =>
      { s.ink.channels[c] with cleaning := max s.ink.channels[c].cleaning levels[c] } }
  | .idle => s.ink
  | .attempt _ => s.ink
  | .clearOut _ => s.ink
  | .trim _ => s.ink
  | .probing _ => s.ink

/-- Whatever held the slot of `s` has ended at once, FAILED_ENGINE (R61, R79, R80, R83, R86): what it posts, what becomes
of its order, its paper and its levels, with ORDER, LATE and COST pending as they follow. The blocks of the list are all
that may differ. -/
def HolderEnded (s t : State) : Prop :=
  Keeps ([.holder, .engine, .orders, .costs, .media, .ink, .uncut] ++ linkBlocks) s t ∧
    t.costs = s.costsEnded false ∧ t.orders = s.ordersEnded .failedEngine ∧ t.media = s.mediaEnded ∧
    t.ink = s.inkEnded ∧ t.uncut = (match s.holder with | .attempt _ => false | _ => s.uncut) ∧
    MarkedIf (s.endPostings false ≠ []) s t ∧
    (t.orders ≠ s.orders → t.notices.pending &&& 1#8 = 1#8) ∧ LateNoted s t ∧ CostNoted s t

/-! ### Starts -/

/-- What every start leaves outside the retained state and the store: R23, R89, R200, R207 and R218 steps 3 to 5. The
transmitter is idle, or sends the NOTICE of the pending set, which is then the first frame the host receives. -/
def StartedUp (s t : State) : Prop :=
  t.pending = s.pending ∧ t.held = false ∧ t.quiet = none ∧ t.holder = .idle ∧ t.uncut = false ∧
    t.freeReads = s.freeReads ∧
    t.orders = { slots := Vector.replicate 40 none, arrival := [], paused := false, clock := 0 } ∧
    t.engine =
      { state := .starting, errorCount := 0, autoRecovery := t.engine.autoRecovery, probeRun := 0,
        outstanding := some { command := .engineReset, tag := 0, party := .startUp, frame := frameBytes 0xA6 0 [] },
        expiredTag := none, nextTag := 1, coverClosed := false, startUpFlag := true, rollNoted := false,
        coverNoted := false, pendingTrim := none, receiver := { phase := .hunting, bytes := [] }, counters := {} } ∧
    t.media.present = false ∧ t.media.condition = none ∧
    t.server =
      { receiver := { phase := .hunting, bytes := [] }, holding := [], counters := {},
        tx := if t.notices.pending = 0 then [] else [.notice],
        sending := if t.notices.pending = 0 then none
          else some (frameBytes 0x81 0 [t.notices.pending, 0, 0, 0, 0]) } ∧
    t.notices =
      { pending := t.notices.pending, enabled := 255, owed := false,
        place := if t.notices.pending = 0 then .none else .sending }

/-- What every start loads from a retained set (R217): the blocks' retained state, with the roll as step 1 of R218 leaves
it (log entry 20), and the check states of R137. -/
def LoadedFrom (r : Retained) (t : State) : Prop :=
  t.media.kinds = r.kinds ∧ t.colour.settings = r.settings ∧ t.colour.gainSets = r.gainSets ∧ t.editions = r.editions ∧
    t.costs = { prices := r.prices, version := r.version, accounts := r.accounts } ∧ t.ink.bays = r.bays ∧
    t.ink.sizes = r.sizes ∧ t.engine.autoRecovery = r.autoRecovery ∧
    t.media.roll = (if r.uncut then { r.roll with clearOutPending := true } else r.roll) ∧
    (∀ c : Fin 12, t.ink.channels[c] =
      { supply := r.channels[c].supply, active := r.channels[c].active, refillBay := none, refillElapsed := 0,
        residue := 0, reserve := r.channels[c].reserve, lowThreshold := r.channels[c].lowThreshold, lowRun := 0,
        emptyRun := 0, fullRun := 0, lastLevel := none, lifetime := r.channels[c].lifetime, cleaning := 0 }) ∧
    ∀ g : Fin 24, t.colour.checks[g] =
      { ring := [], failRun := 0, driftRun := 0, driftFlag := false,
        status := match r.gainSets[g] with
          | some x => if x.captureMode = .startOnFail then .waiting else .recording
          | none => .recording }

/-! ### Invariants -/

/-- A property of the retained set holds of the set in use, of the image, and of the image being written (R212). -/
def RetainedAll (P : Retained → Prop) (s : State) : Prop :=
  P s.retained ∧ (∀ r, s.store.image = .intact r → P r) ∧ ∀ r, s.store.writing = some r → P r

/-- An account's fields lie in their ranges and its total is the saturating sum of its four money fields (R175). -/
def Account.balanced (a : Account) : Prop :=
  a.ink ≤ max48 ∧ a.media ≤ max48 ∧ a.cut ≤ max48 ∧ a.handling ≤ max48 ∧
    a.total = min max48 (a.ink + a.media + a.cut + a.handling) ∧ a.acceptedPrints ≤ 65535 ∧ a.attemptsPosted ≤ 65535

/-- Every account is balanced. -/
def Retained.accountsBalanced (r : Retained) : Prop := ∀ i : Fin 64, (r.accounts[i]).balanced

/-- A gain set lies in the ranges of R138. -/
def GainSet.inRange (g : GainSet) : Prop :=
  (∀ c : Fin 12, 850 ≤ g.gains[c] ∧ g.gains[c] ≤ 1150) ∧ g.deadband ≤ 500 ∧ g.rate ≤ 20 ∧ 1 ≤ g.maxStep ∧ g.maxStep ≤ 50

/-- Every gain set in use lies in the ranges of R138. -/
def Retained.gainsInRange (r : Retained) : Prop := ∀ (i : Fin 24) (g : GainSet), r.gainSets[i] = some g → g.inRange

/-- The roll position lies on the roll (R29, R38), and no estimate of ink exceeds what held it (R90, R91). -/
def Retained.measuresInRange (r : Retained) : Prop :=
  r.roll.position ≤ r.roll.length * 40 ∧ (∀ b : Fin 24, (r.bays[b]).remaining ≤ (r.bays[b]).fill) ∧
    ∀ c : Fin 12, (r.channels[c]).reserve ≤ reserveFull

/-- The error count is 0 to 255 and, outside STARTING, decides the engine state (R81, R82). -/
def EngineCounted (s : State) : Prop :=
  s.engine.errorCount ≤ 255 ∧ (s.engine.state = .starting ∨ s.engine.state = stateOfCount s.engine.errorCount)

/-- The number of NOTICE frames in a transmit queue. -/
def noticeCount : List TxFrame → Nat
  | [] => 0
  | .reply _ _ _ _ :: rest => noticeCount rest
  | .notice :: rest => noticeCount rest + 1

/-- The queues of the server link: at most four frames held, at most four replies queued, one NOTICE frame exactly when
its place is not none, at the head and going out exactly when it is SENDING, and no notice owed otherwise (R191, R196,
R203, R205). -/
def LinkBounded (s : State) : Prop :=
  s.server.holding.length ≤ 4 ∧ replyCount s.server.tx ≤ 4 ∧
    noticeCount s.server.tx = (if s.notices.place = .none then 0 else 1) ∧
    (s.server.sending.isSome = true → s.server.tx ≠ []) ∧
    ((s.server.sending.isSome = true ∧ s.server.tx.head? = some .notice) ↔ s.notices.place = .sending) ∧
    (s.notices.owed = true → s.notices.place = .sending)

end Sys2Proof.Machine
end

