-- ==== Sys2Proof/WellFormed.lean ====
section
/-! DEFINITION. Which commands can occur: a payload fits a frame (R185), and UNKNOWN_KIND names a kind that is no
request of the server link (R193). Every meaning is total all the same: an ill-formed command runs too. -/

set_option Elab.async false

namespace Sys2Proof

/-- The request kind codes of the server link, in the order of the table of section 12.3. -/
def requestKinds : List Nat :=
  [0x10, 0x11, 0x12, 0x13, 0x14, 0x15, 0x16, 0x17, 0x18, 0x19, 0x20, 0x21, 0x22] ++
  [0x23, 0x24, 0x25, 0x26, 0x28, 0x30, 0x31, 0x32, 0x38, 0x39, 0x3A, 0x3B, 0x3C] ++
  [0x40, 0x41, 0x42, 0x43, 0x44, 0x45, 0x46, 0x48, 0x49, 0x4A, 0x50, 0x51, 0x52] ++
  [0x53, 0x54, 0x55, 0x56, 0x57, 0x58, 0x60, 0x61, 0x68, 0x69, 0x6A, 0x70, 0x71]

/-- A payload is 0 to 512 bytes (R185). -/
def payloadFits (payload : List Byte) : Bool := decide (payload.length ≤ 512)

/-- A kind code that no request of the server link has (R193). -/
def kindUnknown (kind : Byte) : Bool := !requestKinds.contains kind.toNat

/-- The well-formed commands. -/
def Instr.wellFormed : Instr → Bool
  | .submit _ p => payloadFits p
  | .amend _ p => payloadFits p
  | .cancel _ p => payloadFits p
  | .release _ p => payloadFits p
  | .orderQuery _ p => payloadFits p
  | .orderList _ p => payloadFits p
  | .pause _ p => payloadFits p
  | .resume _ p => payloadFits p
  | .setClock _ p => payloadFits p
  | .readClock _ p => payloadFits p
  | .mediaDefine _ p => payloadFits p
  | .mediaQuery _ p => payloadFits p
  | .rollDeclare _ p => payloadFits p
  | .flawMark _ p => payloadFits p
  | .flawClear _ p => payloadFits p
  | .rollQuery _ p => payloadFits p
  | .trim _ p => payloadFits p
  | .attemptQuery _ p => payloadFits p
  | .engineRestart _ p => payloadFits p
  | .autoRecoverySet _ p => payloadFits p
  | .engineQuery _ p => payloadFits p
  | .dropSizesSet _ p => payloadFits p
  | .channelSet _ p => payloadFits p
  | .channelReset _ p => payloadFits p
  | .cleanRequest _ p => payloadFits p
  | .supplyQuery _ p => payloadFits p
  | .referenceSet _ p => payloadFits p
  | .colourLimitsSet _ p => payloadFits p
  | .colourQuery _ p => payloadFits p
  | .historyQuery _ p => payloadFits p
  | .historyRearm _ p => payloadFits p
  | .captureModeSet _ p => payloadFits p
  | .colourResume _ p => payloadFits p
  | .gainsSet _ p => payloadFits p
  | .correctionSet _ p => payloadFits p
  | .gainsQuery _ p => payloadFits p
  | .editionOpen _ p => payloadFits p
  | .editionClose _ p => payloadFits p
  | .editionRemove _ p => payloadFits p
  | .editionQuery _ p => payloadFits p
  | .pricesSet _ p => payloadFits p
  | .pricesQuery _ p => payloadFits p
  | .accountQuery _ p => payloadFits p
  | .accountClear _ p => payloadFits p
  | .accountLoad _ p => payloadFits p
  | .identify _ p => payloadFits p
  | .statusQuery _ p => payloadFits p
  | .noticeEnable _ p => payloadFits p
  | .noticeClear _ p => payloadFits p
  | .countersQuery _ p => payloadFits p
  | .storeCommit _ p => payloadFits p
  | .partReset _ p => payloadFits p
  | .unknownKind k _ p => kindUnknown k && payloadFits p
  | .serverFrameReceived _ => true
  | .framingError _ => true
  | .lengthDiscard _ _ => true
  | .interByteGapTimeout _ => true
  | .transmitComplete => true
  | .engineBadFrame => true
  | .feedDone _ _ => true
  | .bandDone _ _ _ => true
  | .bandStopped _ _ _ => true
  | .stripDone _ _ _ _ => true
  | .stripStopped _ _ _ => true
  | .cutDone _ => true
  | .cleanDone _ => true
  | .probeAck _ => true
  | .ready _ => true
  | .levels _ => true
  | .bayEvent _ _ _ _ _ => true
  | .rollEvent _ => true
  | .coverEvent _ => true
  | .engineCommandTimeout => true
  | .probeInterval => true
  | .dwellSecond => true
  | .dwellEnd => true
  | .refillTimeout _ => true
  | .clockTick => true
  | .storeWriteEnd _ => true
  | .softReset => true
  | .powerUp _ => true
  | .powerLoss => true
  | .byteReceived _ _ => true
  | .refillElapsedSecond _ => true

end Sys2Proof
end

