-- ==== Sys2Proof/Certificates/Slice0/Obligations.lean ====
section
/-! DEFINITION. The statements for the provers. `Takes s` stands for a part that takes a request at once; what a request
or an event leaves alone is said with `Keeps`, whose list names every block that may differ. -/

set_option Elab.async false

open Sys2Proof Sys2Proof.Machine

/-! ### The queue, reset and power -/

/-- The command at the front of the queue is run by exec over the rest of the queue. -/
def Obligations.StepRunsFrontCommand : Prop :=
  ∀ (c : Instr) (rest : List Instr) (s : State), s.pending = c :: rest → step s = exec c { s with pending := rest }

/-- R23, R89, R200 and R207, with R218 step 5: what State.reset holds of the order table, the links, the notice unit and
the engine link. The image it starts from is the model's choice (log entry 1). -/
def Obligations.ResetHoldsResetValues : Prop :=
  State.reset.orders = { slots := Vector.replicate 40 none, arrival := [], paused := false, clock := 0 } ∧
    State.reset.holder = .idle ∧ State.reset.media.present = false ∧ State.reset.media.condition = none ∧
    State.reset.server = { receiver := { phase := .hunting, bytes := [] }, holding := [], tx := [], sending := none,
                           counters := { framesTaken := 0, crcErrors := 0, discards := 0, overruns := 0 } } ∧
    State.reset.notices = { pending := 0, enabled := 255, place := .none, owed := false } ∧
    State.reset.engine.state = .starting ∧ State.reset.engine.errorCount = 0 ∧ State.reset.engine.autoRecovery = true ∧
    State.reset.engine.probeRun = 0 ∧ State.reset.engine.expiredTag = none ∧ State.reset.engine.nextTag = 1 ∧
    State.reset.engine.coverClosed = false ∧ State.reset.engine.startUpFlag = true ∧
    State.reset.engine.pendingTrim = none ∧ State.reset.engine.receiver = { phase := .hunting, bytes := [] } ∧
    State.reset.engine.outstanding =
      some { command := .engineReset, tag := 0, party := .startUp, frame := frameBytes 0xA6 0 [] } ∧
    State.reset.colour.gainSets = Vector.replicate 24 none ∧ State.reset.editions = Vector.replicate 16 none ∧
    State.reset.costs.version = 0 ∧ State.reset.costs.accounts = Vector.replicate 64 {} ∧
    State.reset.ink.sizes = { small := 35, medium := 70, large := 140 }

/-- R217 and R218, with R89, R137, R200 and R207. Over an intact image the retained state is loaded, a marker found set
becomes a pending clear-out whose write begins, the volatile values and check states are at their reset values, nothing is
queued to the server, and ENGINE_RESET with tag 0 is issued. Over a lost image the factory defaults are, with STORE_LOST,
SYSTEM pending and announced by the first NOTICE frame, and the start-up write in flight. An image is lost when a write was
in flight (R214), when it already failed its CRC, or when the memory has failed (log entry 16). POWER_UP in a part that has
power acts as a power cycle (log entry 18), and the clear-out is set whether or not the loaded roll is declared (log entry
20): both are the model's reading. -/
def Obligations.PowerUpLoadsTheImage : Prop :=
  (∀ (s : State) (r : Retained), s.store.image = .intact r → s.store.writing = none →
    ∃ t, exec (.powerUp true) s = .next t ∧ StartedUp s t ∧ LoadedFrom r t ∧ t.notices.pending = 0 ∧
      t.store = { image := .intact r, dirty := false, writing := if r.uncut then some t.retained else none,
                  event := .none, failedWrites := 0, lastWrite := none, lastFailed := false }) ∧
  (∀ (s : State) (memoryKept : Bool), (memoryKept = false ∨ s.store.image = .lost ∨ s.store.writing ≠ none) →
    ∃ t, exec (.powerUp memoryKept) s = .next t ∧ StartedUp s t ∧ LoadedFrom Retained.factory t ∧
      t.notices.pending = 128 ∧ t.notices.place = .sending ∧ t.server.tx = [.notice] ∧
      t.server.sending = some (frameBytes 0x81 0 [128, 0, 0, 0, 0]) ∧
      t.store = { image := .lost, dirty := false, writing := some Retained.factory, event := .storeLost,
                  failedWrites := 0, lastWrite := none, lastFailed := false })

/-- R214 and R221: power loss keeps the image unless a write was in flight, which leaves it lost; the part is then held.
That every other command but POWER_UP leaves a held part as it is, is the model's choice (log entry 4). -/
def Obligations.PowerLossKeepsOnlyTheImage : Prop :=
  (∀ s : State, ∃ t, exec .powerLoss s = .next t ∧ t.held = true ∧ t.pending = s.pending ∧
      t.store.image = (if s.store.writing = none then s.store.image else .lost) ∧ t.store.writing = none ∧
      t.orders = State.reset.orders ∧ t.holder = .idle ∧ t.engine.outstanding = none ∧ t.server.tx = [] ∧
      t.server.holding = []) ∧
    ∀ (c : Instr) (s : State), s.held = true → c ≠ .powerLoss → (∀ b, c ≠ .powerUp b) → exec c s = .next s

/-- R220. An accepted PART_RESET abandons what holds the slot without outcome or posting, decides the clear-out, marks the
store for an attempt, whether or not the clear-out or the marker changes, and for a trim that had fed, and begins the quiet
time with three write attempts left beside one in flight. In the quiet time a write that ends begins the next one
while the store is dirty and an attempt is left, a clock tick marks nothing late, and no timer and no engine frame is acted
on. Once the reply has been sent whole and no write is in flight or due, the soft reset is the power-up sequence over the
image, and a failed last write raises STORE_FAULT and SYSTEM unless STORE_LOST stands. That the outstanding command leaves
the slot at once, and that a write attempt is counted when it begins, are the model's reading (log entry 8). -/
def Obligations.PartResetAndSoftReset : Prop :=
  (∀ (tag : Byte) (s : State), Takes s →
    ∃ t, exec (.partReset tag []) s = .next t ∧ Replied s t 0x71 tag .ok [] ∧ NoticesKept s t ∧ StoreRecordKept s t ∧
      Keeps [.holder, .engine, .media, .uncut, .quiet, .server, .notices, .store] s t ∧ t.holder = .idle ∧
      t.engine = { s.engine with outstanding := none } ∧
      t.uncut = (match s.holder with | .attempt _ => false | _ => s.uncut) ∧
      t.media = { s.media with roll := { s.media.roll with clearOutPending :=
        (match s.holder with
          | .attempt _ => s.media.roll.clearOutPending || (s.uncut && s.media.roll.declared)
          | .trim k => s.media.roll.clearOutPending || (decide (0 < k.pulses.getD 0) && s.media.roll.declared)
          | _ => s.media.roll.clearOutPending) } } ∧
      (let dirty := s.store.dirty || (match s.holder with
         | .attempt _ => true
         | .trim k => decide (0 < k.pulses.getD 0)
         | _ => false)
       let due := dirty && s.store.writing.isNone
       t.quiet = some { replySent := false, writesLeft := if due then 2 else 3 } ∧
         t.store.dirty = (dirty && !due) ∧ t.store.writing = if due then some t.retained else s.store.writing)) ∧
  (∀ (s : State) (q : Quiet) (copy : Retained), s.held = false → s.quiet = some q → s.store.writing = some copy →
    let goesOn (dirty : Bool) (t : State) : Prop :=
      if dirty = true ∧ 0 < q.writesLeft then
        t.store.dirty = false ∧ t.store.writing = some s.retained ∧ t.quiet = some { q with writesLeft := q.writesLeft - 1 }
      else t.store.dirty = dirty ∧ t.store.writing = none ∧ t.quiet = some q
    (∃ t, exec (.storeWriteEnd .written) s = .next t ∧ Keeps (.quiet :: linkBlocks) s t ∧ NoticesKept s t ∧
      t.store.image = .intact copy ∧ t.store.lastWrite = some s.orders.clock ∧ t.store.event = s.store.event ∧
      t.store.failedWrites = s.store.failedWrites ∧ t.store.lastFailed = false ∧ goesOn s.store.dirty t) ∧
    ∀ kept : Bool, ∃ t, exec (.storeWriteEnd (.failed kept)) s = .next t ∧ Keeps (.quiet :: linkBlocks) s t ∧
      t.store.image = (if kept then s.store.image else .lost) ∧ t.store.lastWrite = s.store.lastWrite ∧
      t.store.event = .storeFault ∧ t.store.failedWrites = min 255 (s.store.failedWrites + 1) ∧
      t.store.lastFailed = true ∧ t.notices.pending = s.notices.pending ||| 128#8 ∧ goesOn true t) ∧
  (∀ s : State, s.held = false → s.quiet ≠ none →
    (∃ t, exec .clockTick s = .next t ∧ Keeps ([.orders, .quiet] ++ linkBlocks) s t ∧ NoticesKept s t ∧
      t.orders = { s.orders with clock := s.orders.clock + 1 }) ∧
    ∀ c : Instr, (∃ x, reportOf c = some x) ∨ c ∈ [.dwellSecond, .dwellEnd, .probeInterval, .engineCommandTimeout,
        .engineBadFrame, .interByteGapTimeout .server, .interByteGapTimeout .engine] ∨
        (∃ k : Fin 12, c = .refillTimeout k ∨ c = .refillElapsedSecond k) ∨
        (∃ b : Byte, c = .rollEvent b ∨ c = .coverEvent b) ∨ (∃ x, c = .levels x) ∨
        (∃ bay present serial lot fill, c = .bayEvent bay present serial lot fill) →
      exec c s = .next s.closeStep) ∧
  (∀ (s : State) (q : Quiet), s.held = false → s.quiet = some q → q.replySent = true → s.store.writing = none →
    (s.store.dirty = false ∨ q.writesLeft = 0) →
    ∃ t, exec .softReset s = .next t ∧ StartedUp s t ∧ t.store.failedWrites = 0 ∧ t.store.lastWrite = none ∧
      t.store.dirty = false ∧
      (∀ r, s.store.image = .intact r → LoadedFrom r t ∧
        t.store.event = (if s.store.lastFailed then .storeFault else .none) ∧
        t.store.writing = (if r.uncut then some t.retained else none) ∧
        t.notices.pending = (if s.store.lastFailed then 128 else 0)) ∧
      (s.store.image = .lost → LoadedFrom Retained.factory t ∧ t.store.event = .storeLost ∧ t.notices.pending = 128 ∧
        t.store.writing = some Retained.factory))

/-! ### The server link -/

/-- R193 and R194: a wrong payload length is the first check of every request, answered BAD_LENGTH; a kind that is no
request is answered UNKNOWN_KIND whatever its payload; and nothing else changes. The lengths that section 12.4 does not lay
out byte by byte are DEDUCED (log entry 14). -/
def Obligations.UnexaminedPayloadsRefused : Prop :=
  (∀ (c : Instr) (r : Request) (s : State), requestOf c = some r → Takes s → r.payload.length ≠ r.length →
    ∃ t, exec c s = .next t ∧ OnlyReplied s t r.kind r.tag .badLength []) ∧
  (∀ (kind tag : Byte) (p : List Byte) (s : State), Takes s → kindUnknown kind = true →
    ∃ t, exec (.unknownKind kind tag p) s = .next t ∧ OnlyReplied s t kind tag .unknownKind [])

/-- R192 and R194: a request taken is answered by exactly one reply, and a refused one changes nothing else. -/
def Obligations.RefusedRequestsChangeNothing : Prop :=
  ∀ (c : Instr) (r : Request) (s t : State), requestOf c = some r → Takes s → exec c s = .next t →
    replyCount t.server.tx = replyCount s.server.tx + 1 ∧
      ∃ status fields, t.server.tx.getLast? = some (.reply r.tag r.kind status fields) ∧
        (status.refuses = true → OnlyReplied s t r.kind r.tag status [])

/-- R191 and R192: with four replies queued, or in the quiet time, a good frame is held behind those held before, and with
four frames held it is discarded and counted as an overrun. That a request row stands for such a frame is the model's
choice (log entry 3), and that a frame of the quiet time is held so is DEDUCED (log entry 8). A frame of a kind that is no
request is held and counted alike. -/
def Obligations.UntakenFramesAreHeld : Prop :=
  let offered (s : State) (f : Frame) : State := State.closeStep { s with server :=
    if s.server.holding.length < 4 then { s.server with holding := s.server.holding ++ [f] }
    else { s.server with counters :=
      { s.server.counters with overruns := min 65535 (s.server.counters.overruns + 1) } } }
  (∀ (c : Instr) (r : Request) (s : State), requestOf c = some r → s.held = false →
    (s.quiet ≠ none ∨ 4 ≤ replyCount s.server.tx) →
    exec c s = .next (offered s { kind := r.kind, tag := r.tag, payload := r.payload })) ∧
  ∀ (kind tag : Byte) (p : List Byte) (s : State), s.held = false →
    (s.quiet ≠ none ∨ 4 ≤ replyCount s.server.tx) →
    exec (.unknownKind kind tag p) s = .next (offered s { kind := kind, tag := tag, payload := p })

/-- R192, R196, R204 and R205. The frame that has left goes off the transmit queue; a NOTICE leaves its place none or, when a
notice is owed, queues the next one; the PART_RESET reply sent in the quiet time is recorded; the transmitter takes the
next frame. While no frame is held, or the part is quiet, or no reply has room, nothing else follows. When there is room for
one reply, the oldest held frame is taken and answered, and the others stay held; a request held alone does what its command
does on the part as the frame that left has made it. -/
def Obligations.TransmitCompleteMakesRoom : Prop :=
  let left (s : State) (f : TxFrame) (rest : List TxFrame) : State := match f with
    | .notice =>
      if s.notices.owed then
        { s with server := { s.server with sending := none, tx := rest ++ [.notice] },
                 notices := { s.notices with place := .awaiting, owed := false } }
      else { s with server := { s.server with sending := none, tx := rest },
                    notices := { s.notices with place := .none } }
    | .reply _ kind status _ =>
      { s with server := { s.server with sending := none, tx := rest },
               quiet := if kind = 0x71 ∧ status = .ok then s.quiet.map (fun q => { q with replySent := true })
                        else s.quiet }
  (∀ (s : State) (bytes : List Byte) (f : TxFrame) (rest : List TxFrame), s.held = false →
    (s.server.holding = [] ∨ s.quiet ≠ none ∨ 4 ≤ replyCount rest) →
    s.server.sending = some bytes → s.server.tx = f :: rest →
    exec .transmitComplete s = .next (State.closeStep (left s f rest))) ∧
  (∀ (s : State) (bytes : List Byte) (f : TxFrame) (rest : List TxFrame) (g : Frame) (others : List Frame), Works s →
    s.server.sending = some bytes → s.server.tx = f :: rest → replyCount rest = 3 → s.server.holding = g :: others →
    ∃ t, exec .transmitComplete s = .next t ∧ t.server.holding = others ∧ replyCount t.server.tx = 4 ∧
      ∃ st fs, t.server.tx.getLast? = some (.reply g.tag g.kind st fs)) ∧
  ∀ (c : Instr) (r : Request) (s : State) (bytes : List Byte) (f : TxFrame) (rest : List TxFrame),
    requestOf c = some r → Works s → s.server.sending = some bytes → s.server.tx = f :: rest → replyCount rest < 4 →
    s.server.holding = [{ kind := r.kind, tag := r.tag, payload := r.payload }] →
    let gone := left s f rest
    exec .transmitComplete s = exec c (State.kick { gone with server := { gone.server with holding := [] } })

/-- R185 to R190, R72 and R225: a link receiver that hunts and receives a whole frame byte by byte does what the frame's
command does: on the server link a request's, or that of an unknown kind; on the engine link the report's or event's whose
kind and length the frame has, and for every other kind or length that of a bad frame. That a command of the table stands
for its judged frame is the model's choice (log entry 3). -/
def Obligations.FrameBytesAreTheRequest : Prop :=
  (∀ (c : Instr) (r : Request) (s : State), requestOf c = some r → r.payload.length ≤ 512 → s.held = false →
    s.server.receiver = { phase := .hunting, bytes := [] } → Settled s →
    afterBytes .server (frameBytes r.kind r.tag r.payload) s = exec c s) ∧
  (∀ (kind tag : Byte) (p : List Byte) (s : State), kindUnknown kind = true → p.length ≤ 512 → s.held = false →
    s.server.receiver = { phase := .hunting, bytes := [] } → Settled s →
    afterBytes .server (frameBytes kind tag p) s = exec (.unknownKind kind tag p) s) ∧
  ∀ (kind tag : Byte) (p : List Byte) (s : State), p.length ≤ 512 → s.held = false →
    s.engine.receiver = { phase := .hunting, bytes := [] } → Settled s →
    afterBytes .engine (frameBytes kind tag p) s = exec ((engineCommandOf kind tag p).getD .engineBadFrame) s

/-- R187 to R190, R72 and R225. A framing error, a gap or a length above 512 in a frame in progress drops it: the server link
counts a discard, and on the engine link it is a bad frame. In HUNTING a 0x5A starts a frame and any other byte, or a framing
error, is ignored; within a frame every byte, 0x5A too, is stored as the next byte, and the receiver's state follows from the
bytes held. The second CRC byte returns the receiver to HUNTING. With a good CRC a frame of the server link does what its
request, or an unknown kind, does, and one of the engine link what the report or event of its kind and length does, or a bad
frame; with a bad one the server link's CRC errors counter advances, and the engine link has a bad frame. That a command of
the table stands for its judged frame is the model's choice (log entry 3). -/
def Obligations.BytesBuildJudgeOrDropFrames : Prop :=
  ((∀ (s : State) (b : Byte), Works s →
    (s.server.receiver.phase ≠ .hunting →
      let u : State := { s with server := { s.server with
        receiver := Receiver.idle,
        counters := { s.server.counters with discards := min 65535 (s.server.counters.discards + 1) } } }
      exec (.framingError .server) s = .next u.closeStep ∧ exec (.interByteGapTimeout .server) s = .next u.closeStep ∧
        (s.server.receiver.overlong b = true → exec (.lengthDiscard .server b) s = .next u.closeStep)) ∧
    (s.engine.receiver.phase ≠ .hunting →
      let u : State := { s with engine := { s.engine with receiver := Receiver.idle } }
      exec (.framingError .engine) s = exec .engineBadFrame u ∧
        exec (.interByteGapTimeout .engine) s = exec .engineBadFrame u ∧
        (s.engine.receiver.overlong b = true → exec (.lengthDiscard .engine b) s = exec .engineBadFrame u))) ∧
  (∀ (s : State) (link : Link) (b : Byte), s.held = false →
    ((s.receiver link).phase = .hunting → b ≠ 0x5A → exec (.byteReceived link b) s = .next s.closeStep) ∧
    ((s.receiver link).phase = .hunting → exec (.framingError link) s = .next s.closeStep) ∧
    ((s.receiver link).phase = .hunting → b = 0x5A →
      exec (.byteReceived link b) s = .next (s.setReceiver link { phase := .length, bytes := [] }).closeStep) ∧
    (let bytes := (s.receiver link).bytes ++ [b]
     (s.receiver link).phase ≠ .hunting →
      (bytes.length = 1 ∨ (bytes.length < 6 + u16At bytes 0 ∧ u16At bytes 0 ≤ 512)) →
      let phase : RxPhase := if bytes.length < 2 then .length else if bytes.length = 2 then .kind
        else if bytes.length = 3 then .tag else if bytes.length < 4 + u16At bytes 0 then .payload else .crc
      exec (.byteReceived link b) s = .next (s.setReceiver link { phase := phase, bytes := bytes }).closeStep))) ∧
  (∀ (s : State) (kind tag : Byte) (p : List Byte) (hi lo : Byte), s.held = false → p.length ≤ 512 →
    s.server.receiver = { phase := .crc, bytes := covered kind tag p ++ [hi] } →
    exec (.byteReceived .server lo) s = exec (.serverFrameReceived lo) s ∧
    (kindUnknown kind = true → hi ++ lo = crc16 (covered kind tag p) →
      exec (.serverFrameReceived lo) s =
        exec (.unknownKind kind tag p) { s with server := { s.server with receiver := Receiver.idle } }) ∧
    (∀ c length, requestOf c = some { kind := kind, length := length, tag := tag, payload := p } →
      hi ++ lo = crc16 (covered kind tag p) →
      exec (.serverFrameReceived lo) s = exec c { s with server := { s.server with receiver := Receiver.idle } }) ∧
    (hi ++ lo ≠ crc16 (covered kind tag p) →
      exec (.serverFrameReceived lo) s = .next (State.closeStep { s with server :=
        { s.server with
          receiver := Receiver.idle,
          counters := { s.server.counters with crcErrors := min 65535 (s.server.counters.crcErrors + 1) } } }))) ∧
  ∀ (s : State) (kind tag : Byte) (p : List Byte) (hi lo : Byte), s.held = false → p.length ≤ 512 →
    s.engine.receiver = { phase := .crc, bytes := covered kind tag p ++ [hi] } →
    exec (.byteReceived .engine lo) s =
      exec (if hi ++ lo = crc16 (covered kind tag p) then (engineCommandOf kind tag p).getD .engineBadFrame
          else .engineBadFrame)
        { s with engine := { s.engine with receiver := Receiver.idle } }

/-! ### Queries -/

/-- R1, R8, R146, R149: a reference is looked up in the records present, lowest slot first, and a new record takes the
lowest free slot. R13 and R14: ORDER_QUERY returns the whole record, and NOT_FOUND for a reference not present; ORDER_LIST
returns the references in the state set asked for, unfinished orders in arrival order and then final ones by slot. -/
def Obligations.RecordsAndOrderQueries : Prop :=
  ((∀ (s : State) (ref : Word32) (i : Fin 40), s.findOrder ref = some i ↔
    (∃ o, s.orders.slots[i] = some o ∧ o.reference = ref) ∧
      ∀ j : Fin 40, j < i → ∀ o, s.orders.slots[j] = some o → o.reference ≠ ref) ∧
  (∀ (s : State) (ref : Word32) (i : Fin 16), s.findEdition ref = some i ↔
    (∃ e, s.editions[i] = some e ∧ e.reference = ref) ∧
      ∀ j : Fin 16, j < i → ∀ e, s.editions[j] = some e → e.reference ≠ ref) ∧
  (∀ (s : State) (i : Fin 40), s.freeSlot? = some i ↔
    s.orders.slots[i] = none ∧ ∀ j : Fin 40, j < i → s.orders.slots[j] ≠ none) ∧
  ∀ (s : State) (i : Fin 16), s.freeEditionSlot? = some i ↔
    s.editions[i] = none ∧ ∀ j : Fin 16, j < i → s.editions[j] ≠ none) ∧
  (∀ (tag : Byte) (p : List Byte) (s : State), Takes s →
    (∀ (i : Fin 40) (o : Order), p.length = 4 → s.findOrder (word32At p 0) = some i → s.orders.slots[i] = some o →
      ∃ t, exec (.orderQuery tag p) s = .next t ∧ OnlyReplied s t 0x14 tag .ok
        (u32 o.reference.toNat ++ u8 i.val ++ u8 o.state.code ++ u8 o.holds.code ++ u8 o.account.val ++
          u8 o.mediaKind.val ++ optionalField 4 word32 o.edition ++ u16 o.printLength ++ u16 o.printWidth ++
          u16 o.channels.toNat ++ u8 o.priority ++ optionalField 4 word32 o.deadline ++ optionalField 6 u48 o.ceiling ++
          flag o.stopAtCeiling ++ flag o.check ++ u8 o.attemptsAllowed ++ u8 o.attemptsUsed ++
          u32 o.acceptedTime.toNat ++ optionalField 4 word32 o.firstStart ++ optionalField 4 word32 o.endTime ++
          flag o.late ++ flag o.cancelRequested ++ optionalField 1 (fun x => u8 x.code) o.lastOutcome ++
          optionalField 2 u16 o.editionNumber ++
          (u48 o.cost.ownInk ++ u48 o.cost.ownMedia ++ u48 o.cost.ownCut ++ u48 o.cost.handling ++
            u48 o.cost.ownTotal ++ u48 o.cost.spoiledTotal) ++
          optionalField 4 (fun x => u16 x.1 ++ u16 x.2) o.lastStrip)) ∧
    (p.length = 4 → s.findOrder (word32At p 0) = none →
      ∃ t, exec (.orderQuery tag p) s = .next t ∧ OnlyReplied s t 0x14 tag .notFound []) ∧
    (p.length = 1 → 128 ≤ byteAt p 0 →
      ∃ t, exec (.orderList tag p) s = .next t ∧ OnlyReplied s t 0x15 tag .badField []) ∧
    (p.length = 1 → byteAt p 0 < 128 →
      let refs := s.orders.arrival.filterMap (fun i => match s.orders.slots[i] with
          | some o => if o.state.unfinished && (byteAt p 0).testBit o.state.code then some o.reference else none
          | none => none) ++
        (List.finRange 40).filterMap (fun i => match s.orders.slots[i] with
          | some o => if !o.state.unfinished && (byteAt p 0).testBit o.state.code then some o.reference else none
          | none => none)
      ∃ t, exec (.orderList tag p) s = .next t ∧ OnlyReplied s t 0x15 tag .ok
        (u8 refs.length ++ refs.flatMap fun r => u32 r.toNat)))

/-- R20, R197, R198, R208 to R210: READ_CLOCK, IDENTIFY and STATUS_QUERY answer OK with their fields and change nothing;
COUNTERS_QUERY returns the eight counters, its own frame counted, and clears them all when asked to. That the cover byte is
1 for closed is DEDUCED (log entry 12), and so are the revision (log entry 13), the order of IDENTIFY's
numbers (log entry 14) and the widths of these, of the error count and of the counters (log entry 25). -/
def Obligations.StatusQueries : Prop :=
  (∀ (tag : Byte) (s : State), Takes s →
    (∃ t, exec (.readClock tag []) s = .next t ∧ OnlyReplied s t 0x19 tag .ok (u32 s.orders.clock.toNat)) ∧
    (∃ t, exec (.identify tag []) s = .next t ∧ OnlyReplied s t 0x60 tag .ok
      ([0x4C, 0x65, 0x64, 0x77, 0x6F, 0x72, 0x74, 0x68] ++ [0x43, 0x61, 0x6C, 0x75, 0x70, 0x72, 0x61, 0] ++
        [0x43, 0x31, 0x32, 0x34, 0x30, 0, 0, 0] ++ [2, 40, 4, 8, 8, 12, 24, 24, 8, 16, 64, 8, 4] ++ [0, 2])) ∧
    ∃ t, exec (.statusQuery tag []) s = .next t ∧ OnlyReplied s t 0x61 tag .ok
      (u8 s.holder.activityCode ++ [if s.orders.paused then 1 else 0] ++ [if s.engine.coverClosed then 1 else 0] ++
        u8 s.engine.state.code ++ u8 s.engine.errorCount ++
        [if s.store.writing ≠ none then 2 else if s.store.dirty then 1 else 0] ++ [s.notices.pending])) ∧
  (∀ (tag : Byte) (p : List Byte) (s : State), Takes s → p.length = 1 → byteAt p 0 ≤ 1 →
    ∃ t, exec (.countersQuery tag p) s = .next t ∧
      t.server.tx.getLast? = some (.reply tag 0x6A .ok
        (u16 (min 65535 (s.server.counters.framesTaken + 1)) ++ u16 s.server.counters.crcErrors ++
          u16 s.server.counters.discards ++ u16 s.server.counters.overruns ++ u16 s.engine.counters.crcErrors ++
          u16 s.engine.counters.timeouts ++ u16 s.engine.counters.mismatches ++ u16 s.engine.counters.lateReports)) ∧
      NoticesKept s t ∧ StoreUnmarked s t ∧ Keeps (.engine :: linkBlocks) s t ∧
      (byteAt p 0 = 0 → t.engine = s.engine ∧ t.server.counters =
        { s.server.counters with framesTaken := min 65535 (s.server.counters.framesTaken + 1) }) ∧
      (byteAt p 0 = 1 → t.engine = { s.engine with counters := {} } ∧ t.server.counters = {}))

/-- R28, R33, R68 and R88: MEDIA_QUERY, ROLL_QUERY, ATTEMPT_QUERY and ENGINE_QUERY return their records and change nothing.
The whole seconds since an outstanding command's issue are its timer's (R69): 0 at the issue (ArbiterServesInOrder), never
falling from one query to the next, at most the command's timeout. How many have passed since the last reading is a free
value, and the timer is brought up to now when it is read (log entry 9); the statement holds for every value. Which fields of
an absent group share one indicator is the model's choice (log entry 26). That the cover byte is 1 for closed, the layouts,
and the widths that section 12.3 does not list are DEDUCED (log entries 12, 14 and 25). -/
def Obligations.PrinterQueries : Prop :=
  (∀ (tag : Byte) (p : List Byte) (s : State), Takes s →
    (p.length = 1 → 7 < byteAt p 0 →
      ∃ t, exec (.mediaQuery tag p) s = .next t ∧ OnlyReplied s t 0x21 tag .badField []) ∧
    (∀ k : Fin 8, p.length = 1 → byteAt p 0 = k.val →
      ∃ t, exec (.mediaQuery tag p) s = .next t ∧ match s.media.kinds[k] with
        | none => OnlyReplied s t 0x21 tag .notFound []
        | some m => OnlyReplied s t 0x21 tag .ok
          (m.name.toList ++ u8 m.bandLength ++ u8 (if m.bandLength ∈ [10, 20, 25, 40, 50, 100] then m.bandLength else 25) ++
            u16 m.lead ++ u16 m.tail ++ u8 m.stripMargin ++ u16 m.dwell)) ∧
    ∃ t, exec (.rollQuery tag []) s = .next t ∧ OnlyReplied s t 0x25 tag .ok
      (flag s.media.present ++ flag s.media.roll.declared ++ u8 s.media.roll.mediaKind.val ++ u16 s.media.roll.width ++
        u32 s.media.roll.length ++ u32 (s.media.roll.position / 40) ++
        fieldsOf (fun z => u32 z.start ++ u32 z.stop) s.media.roll.zones ++ flag s.media.roll.clearOutPending ++
        optionalField 22 MediaCondition.fields s.media.condition)) ∧
  (∀ (tag : Byte) (s : State), Takes s →
    (∀ a : Attempt, s.holder = .attempt a → ∃ t, exec (.attemptQuery tag []) s = .next t ∧ OnlyReplied s t 0x28 tag .ok
      (u32 a.reference.toNat ++ u8 a.slot.val ++ u8 a.number ++ u8 a.phase.code ++ u8 a.step.code ++ u32 a.start ++
        u32 a.need ++ u32 a.waste ++ u16 a.bandsTotal ++ u16 a.bandsDone ++ fieldsOf u16 a.gains ++ u8 a.gainSet.val ++
        u32 a.version.toNat ++ fieldsOf u48 a.tallies ++ flag a.tallySaturated ++ u32 a.ownPulses ++ u32 a.wastePulses ++
        optionalField 1 (fun x => u8 x.code) a.pendingOutcome ++ flag a.ceilingNoted ++ u8 a.verdict.code ++
        u16 a.dwellRemaining)) ∧
    ((∀ a, s.holder ≠ .attempt a) → ∃ t, exec (.attemptQuery tag []) s = .next t ∧
      OnlyReplied s t 0x28 tag .notFound [])) ∧
  (∀ (tag : Byte) (s : State), Takes s →
    ∃ t seconds, exec (.engineQuery tag []) s = .next t ∧
      (∀ o, s.engine.outstanding = some o →
        o.elapsed ≤ seconds ∧ (o.elapsed ≤ o.command.timeout → seconds ≤ o.command.timeout)) ∧
      t.engine = { s.engine with outstanding := s.engine.outstanding.map fun o => { o with elapsed := seconds } } ∧
      Answered [.engine, .freeReads] s t 0x32 tag .ok
        (u8 s.engine.state.code ++ u8 s.engine.errorCount ++ flag s.engine.autoRecovery ++ u8 s.engine.probeRun ++
          u8 s.holder.activityCode ++
          optionalField 6 (fun o => u8 o.command.kind ++ [o.tag] ++ u32 seconds) s.engine.outstanding ++
          optionalField 1 (fun x => [x]) s.engine.expiredTag ++ [s.engine.nextTag] ++ flag s.engine.coverClosed ++
          flag s.engine.startUpFlag ++ flag s.media.roll.clearOutPending ++ optionalField 2 u16 s.engine.pendingTrim))

/-- R114, R121, R130 and R145: SUPPLY_QUERY returns the channel record, the bay sum, both bays and the drop sizes;
COLOUR_QUERY a kind's verdict settings; HISTORY_QUERY and GAINS_QUERY the check state and the gains of the set a selector
names. They change nothing. The codes of the active and the refill bay, the layouts, and the widths that section 12.3 does not
list are DEDUCED (log entries 12, 14 and 25); that one indicator covers the sixteen reference readings, and that the limit
flags are twelve flag bytes, is the model's choice (log entries 26 and 27). -/
def Obligations.SupplyAndColourQueries : Prop :=
  (∀ (tag : Byte) (p : List Byte) (s : State), Takes s → p.length = 1 →
    (11 < byteAt p 0 → ∃ t, exec (.supplyQuery tag p) s = .next t ∧ OnlyReplied s t 0x3C tag .badField []) ∧
    ∀ k : Fin 12, byteAt p 0 = k.val →
      let c := s.ink.channels[k]
      let one := s.ink.bays[bayOf k .first]
      let two := s.ink.bays[bayOf k .second]
      let bay (b : Bay) : List Byte :=
        flag b.present ++ b.serial.toList ++ b.lot.toList ++ u32 b.fill ++ u32 b.remaining ++ flag b.declaredEmpty ++
          u32 b.unaccounted ++ u32 b.insertedAt.toNat
      ∃ t, exec (.supplyQuery tag p) s = .next t ∧ OnlyReplied s t 0x3C tag .ok
        (u8 c.supply.code ++ u8 c.active.code ++ optionalField 1 (fun b => u8 b.code) c.refillBay ++ u8 c.refillElapsed ++
          u16 c.residue ++ u32 c.reserve ++ u32 c.lowThreshold ++ u8 c.lowRun ++ u8 c.emptyRun ++ u8 c.fullRun ++
          optionalField 1 (fun l => u8 l.code) c.lastLevel ++ u64 c.lifetime ++ u8 c.cleaning ++
          u32 ((if one.present && !one.declaredEmpty then one.remaining else 0) +
            (if two.present && !two.declaredEmpty then two.remaining else 0)) ++
          bay one ++ bay two ++ (u16 s.ink.sizes.small ++ u16 s.ink.sizes.medium ++ u16 s.ink.sizes.large))) ∧
  ((∀ (tag : Byte) (p : List Byte) (s : State), Takes s → p.length = 1 →
    (7 < byteAt p 0 → ∃ t, exec (.colourQuery tag p) s = .next t ∧ OnlyReplied s t 0x42 tag .badField []) ∧
    ∀ k : Fin 8, byteAt p 0 = k.val →
      ∃ t, exec (.colourQuery tag p) s = .next t ∧ match s.colour.settings[k] with
        | none => OnlyReplied s t 0x42 tag .notFound []
        | some v => OnlyReplied s t 0x42 tag .ok
          (optionalField 96 (fieldsOf labField) v.reference ++ u16 v.maxTolerance ++ u16 v.meanTolerance ++
            u16 v.driftLevel ++ u16 v.patches.toNat)) ∧
  (∀ (tag : Byte) (p : List Byte) (s : State) (g : Fin 24) (x : GainSet), Takes s → p.length = 5 →
    SelectsGainSet s p g x →
    (∃ t, exec (.historyQuery tag p) s = .next t ∧ OnlyReplied s t 0x43 tag .ok
      (u8 x.captureMode.code ++ u8 s.colour.checks[g].status.code ++ u8 s.colour.checks[g].ring.length ++
        (s.colour.checks[g].ring.flatMap fun e =>
          u32 e.order.toNat ++ u8 e.attempt ++ u32 e.clock.toNat ++ [if e.passed then 1 else 2] ++ u16 e.mean ++
            u16 e.max ++ u8 e.worst) ++
        u8 s.colour.checks[g].failRun ++ u8 s.colour.checks[g].driftRun ++ flag s.colour.checks[g].driftFlag ++
        flag x.suspended)) ∧
    ∃ t, exec (.gainsQuery tag p) s = .next t ∧ OnlyReplied s t 0x4A tag .ok
      (u8 g.val ++ fieldsOf u16 x.gains ++ (List.finRange 12).flatMap (fun c => flag x.limitFlags[c.val]) ++
        flag x.correction ++ u16 x.deadband ++ u16 x.rate ++ u16 x.maxStep)))

/-- R157: EDITION_QUERY returns the edition's record with its two derived counts, refuses a wrong length and an absent
reference, and changes nothing. The code of the edition state, the layout and the width of the two derived counts are DEDUCED
(log entries 12, 14 and 25); that one indicator covers the sixteen readings is the model's choice (log entry 26). -/
def Obligations.EditionQueryReturnsRecord : Prop :=
  ∀ (tag : Byte) (p : List Byte) (s : State), Takes s →
    (p.length ≠ 4 → ∃ t, exec (.editionQuery tag p) s = .next t ∧ OnlyReplied s t 0x53 tag .badLength []) ∧
    (p.length = 4 → s.findEdition (word32At p 0) = none →
      ∃ t, exec (.editionQuery tag p) s = .next t ∧ OnlyReplied s t 0x53 tag .notFound []) ∧
    ∀ (i : Fin 16) (e : Edition), p.length = 4 → s.findEdition (word32At p 0) = some i → s.editions[i] = some e →
      let unfinished := (List.finRange 40).countP fun j => match s.orders.slots[j] with
        | some o => o.state.unfinished && o.edition == some e.reference
        | none => false
      ∃ t, exec (.editionQuery tag p) s = .next t ∧ OnlyReplied s t 0x53 tag .ok
        (u32 e.reference.toNat ++ u8 i.val ++ u8 e.mediaKind.val ++ u16 e.size ++ u16 e.accepted ++ u16 (e.accepted + 1) ++
          u8 e.state.code ++
          flag (match s.colour.gainSets[editionSet i] with | some x => x.suspended | none => false) ++ u8 (8 + i.val) ++
          optionalField 96 (fieldsOf labField) e.readings ++ u32 e.openedAt.toNat ++ optionalField 4 word32 e.fixedAt ++
          u16 unfinished ++ u16 (e.size - e.accepted - unfinished))

/-- R161: PRICES_QUERY answers a payload that is not empty BAD_LENGTH, and otherwise OK with the whole price table and the
price version; it changes nothing. The version's width, a u32, is DEDUCED (log entry 25). -/
def Obligations.PricesQueryReturnsTable : Prop :=
  ∀ (tag : Byte) (p : List Byte) (s : State), Takes s →
    (p ≠ [] → ∃ t, exec (.pricesQuery tag p) s = .next t ∧ OnlyReplied s t 0x55 tag .badLength []) ∧
    (p = [] → ∃ t, exec (.pricesQuery tag p) s = .next t ∧ OnlyReplied s t 0x55 tag .ok
      (s.costs.prices.ink.toList.flatMap u32 ++ s.costs.prices.media.toList.flatMap u32 ++ u32 s.costs.prices.cut ++
        u32 s.costs.prices.handling ++ u32 s.costs.version.toNat))

/-- R179: ACCOUNT_QUERY answers a wrong length BAD_LENGTH, a number above 63 BAD_FIELD, and otherwise OK with the account's
fields; it changes nothing. The order of the reply's fields, and the u48 of the two counts, are DEDUCED (log entry 14). -/
def Obligations.AccountQueryReturnsRecord : Prop :=
  ∀ (tag : Byte) (p : List Byte) (s : State), Takes s →
    (p.length ≠ 1 → ∃ t, exec (.accountQuery tag p) s = .next t ∧ OnlyReplied s t 0x56 tag .badLength []) ∧
    (p.length = 1 → 63 < byteAt p 0 → ∃ t, exec (.accountQuery tag p) s = .next t ∧
      OnlyReplied s t 0x56 tag .badField []) ∧
    ∀ k : Fin 64, p.length = 1 → byteAt p 0 = k.val →
      let a := s.costs.accounts[k]
      ∃ t, exec (.accountQuery tag p) s = .next t ∧ OnlyReplied s t 0x56 tag .ok
        (u48 a.ink ++ u48 a.media ++ u48 a.cut ++ u48 a.handling ++ u48 a.total ++ u48 a.acceptedPrints ++
          u48 a.attemptsPosted ++ [if a.saturated then 1 else 0])

/-! ### Requests to the order table -/

/-- R4 to R6: SUBMIT's nine checks, the first that fails giving the reply. R1, R2, R7 and R8: a SUBMIT that passes them
fills the lowest free slot with its record after clamping, queued at the end of the arrival list, late when its deadline is
reached, QUEUED or HELD as its eligibility gives; it answers with the slot, the state and the hold reasons, and the
re-evaluation and the slot's turn follow. What these rest on is stated first: the six hold reasons (R16), the admission
estimate (R34, R169) and the choice of the reference (R122). -/
def Obligations.SubmitAdmitsOrder : Prop :=
  (∀ (s : State) (o : Order),
    let r := s.media.roll
    let need : Nat := match s.media.kinds[o.mediaKind] with
      | some m => m.lead + o.printLength + (if o.check then m.stripMargin else 0) + m.tail
      | none => o.printLength
    let set : Option (Fin 24) := match o.edition with
      | none => some (kindSet o.mediaKind)
      | some ref => match s.findEdition ref with
        | some i => some (editionSet i)
        | none => none
    s.holdReasons o =
      { noRoll := !r.declared, mediaKind := r.declared && decide (r.mediaKind ≠ o.mediaKind),
        mediaWidth := r.declared && decide (r.width < o.printWidth),
        mediaShort := r.declared && decide (r.mediaKind = o.mediaKind) &&
          decide (r.length < r.placementStart need + need),
        supply := (List.finRange 12).any fun c =>
          o.channels[c.val] && decide (s.ink.channels[c].supply ∈ [.reserve, .dry, .refilling, .fault]),
        colourSuspended := match set with
          | none => false
          | some g => match s.colour.gainSets[g] with
            | none => false
            | some x => x.suspended }) ∧
  (∀ (s : State) (k : Fin 8) (m : MediaKind) (length : Nat) (check : Bool), s.media.kinds[k] = some m →
    let need := m.lead + length + (if check then m.stripMargin else 0) + m.tail
    s.estimate (needMm (s.margins k) length check) k =
      (need * s.costs.prices.media[k] + 500) / 1000 + s.costs.prices.cut + s.costs.prices.handling) ∧
  (∀ (s : State) (edition : Option Word32) (k : Fin 8),
    let own : Option Edition := match edition with
      | none => none
      | some ref => match s.findEdition ref with
        | none => none
        | some i => s.editions[i]
    let ofKind : Option (Vector Lab 16) := match s.colour.settings[k] with
      | none => none
      | some v => v.reference
    s.chosenReference edition k = match own with
      | some e => if e.state = .fixed then e.readings else ofKind
      | none => ofKind) ∧
  (∀ (tag : Byte) (p : List Byte) (s : State), Takes s →
    let f := submitFields p
    let refused (st : Status) : Prop := ∃ t, exec (.submit tag p) s = .next t ∧ OnlyReplied s t 0x10 tag st []
    let kind : Fin 8 := Fin.ofNat 8 (byteAt p 5)
    let edition := if byteAt p 6 = 1 then some (word32At p 7) else none
    let named (e : Edition) : Prop :=
      ∃ i : Fin 16, byteAt p 6 = 1 ∧ s.findEdition (word32At p 7) = some i ∧ s.editions[i] = some e
    let checked : Bool := byteAt p 32 == 1 || edition.isSome
    (p.length ≠ 34 ∨ 1 < byteAt p 6 ∨ 1 < byteAt p 15 ∨ 1 < byteAt p 19 ∨ 1 < byteAt p 24 ∨ 1 < byteAt p 31 →
      refused .badLength) ∧
    (submitMalformed p = false →
      (byteAt p 4 < 2 ∨ 63 < byteAt p 4 ∨ 7 < byteAt p 5 ∨ u16At p 11 < 50 ∨ 30000 < u16At p 11 ∨ u16At p 13 < 100 ∨
        1600 < u16At p 13 ∨ (byteAt p 15 = 1 ∧ (u16At p 16 = 0 ∨ 4096 ≤ u16At p 16)) ∨ 1 < byteAt p 32 ∨
        (∃ e, named e ∧ e.mediaKind.val ≠ byteAt p 5) → refused .badField) ∧
      (s.submitOutOfRange f = false →
        (s.findOrder (word32At p 0) ≠ none → refused .duplicate) ∧
        (s.findOrder (word32At p 0) = none →
          (s.media.kinds[kind] = none ∨ (byteAt p 6 = 1 ∧ s.findEdition (word32At p 7) = none) → refused .notFound) ∧
          (s.submitNotFound f = false →
            ((∃ e, named e ∧ e.state ∈ [.complete, .closed]) → refused .wrongState) ∧
            (s.submitEditionClosed f = false →
              ((∃ e, named e ∧ e.accepted + s.unfinishedNaming e.reference = e.size) → refused .editionFull) ∧
              (s.submitEditionFull f = false →
                (checked = true → s.chosenReference edition kind = none → refused .noReference) ∧
                (s.submitNoReference f = false →
                  (byteAt p 24 = 1 →
                    u48At p 25 < s.estimate (needMm (s.margins kind) (u16At p 11) checked) kind → refused .overCeiling) ∧
                  (s.submitOverCeiling f = false → (∀ i : Fin 40, s.orders.slots[i] ≠ none) → refused .full))))))))) ∧
  ∀ (tag : Byte) (p : List Byte) (s : State) (i : Fin 40), Takes s → submitMalformed p = false →
    s.submitOutOfRange (submitFields p) = false → s.findOrder (word32At p 0) = none →
    s.submitNotFound (submitFields p) = false → s.submitEditionClosed (submitFields p) = false →
    s.submitEditionFull (submitFields p) = false → s.submitNoReference (submitFields p) = false →
    s.submitOverCeiling (submitFields p) = false → s.freeSlot? = some i →
    let edition := if byteAt p 6 = 1 then some (word32At p 7) else none
    let deadline := if byteAt p 19 = 1 then some (word32At p 20) else none
    let late := match deadline with | some d => decide (d.toNat ≤ s.orders.clock.toNat) | none => false
    let o : Order :=
      { reference := word32At p 0, state := .queued, account := Fin.ofNat 64 (byteAt p 4),
        mediaKind := Fin.ofNat 8 (byteAt p 5), edition := edition, printLength := u16At p 11, printWidth := u16At p 13,
        channels := if byteAt p 15 = 1 then BitVec.ofNat 12 (u16At p 16) else 4095#12, priority := min 7 (byteAt p 18),
        deadline := deadline, ceiling := if byteAt p 24 = 1 then some (u48At p 25) else none,
        stopAtCeiling := byteAt p 31 == 1, check := byteAt p 32 == 1 || edition.isSome,
        attemptsAllowed := max 1 (min 4 (byteAt p 33)), acceptedTime := s.orders.clock, late := late }
    let holds := s.holdReasons o
    let o' : Order := { o with state := if holds = {} then .queued else .held, holds := holds }
    ∃ t, exec (.submit tag p) s = .next t ∧
      Replied s t 0x10 tag
        (if 7 < byteAt p 18 ∨ byteAt p 33 = 0 ∨ 4 < byteAt p 33 ∨ (byteAt p 6 = 1 ∧ byteAt p 32 = 0) then .adjusted else .ok)
        (u8 i.val ++ u8 o'.state.code ++ u8 holds.code) ∧
      StoreUnmarked s t ∧
      Served [.orders] s t fun u =>
        Reevaluated { s with
          orders := { s.orders with slots := s.orders.slots.set i (some o'), arrival := s.orders.arrival ++ [i] },
          notices := { s.notices with pending := if late then s.notices.pending ||| 2#8 else s.notices.pending } } u

/-- R9 and R10: AMEND of a waiting order writes the fields marked set, makes absent those marked remove, settles the late
flag against the deadline that results, and re-evaluates; a missing, an ACTIVE or a final order is refused. The layout of 20
bytes, a marker and a value for each field, is DEDUCED (log entry 14). -/
def Obligations.AmendChangesWaitingOrder : Prop :=
  (∀ (tag : Byte) (p : List Byte) (s : State), Takes s →
    (p.length ≠ 20 ∨ 1 < byteAt p 4 ∨ 2 < byteAt p 6 ∨ 2 < byteAt p 11 ∨ 1 < byteAt p 18 ∨
      (byteAt p 18 = 1 ∧ 1 < byteAt p 19)) →
    ∃ t, exec (.amend tag p) s = .next t ∧ OnlyReplied s t 0x11 tag .badLength []) ∧
  ∀ (tag : Byte) (p : List Byte) (s : State), Takes s → p.length = 20 → byteAt p 4 ≤ 1 → byteAt p 6 ≤ 2 →
    byteAt p 11 ≤ 2 → byteAt p 18 ≤ 1 → (byteAt p 18 = 1 → byteAt p 19 ≤ 1) →
    (s.findOrder (word32At p 0) = none → ∃ t, exec (.amend tag p) s = .next t ∧ OnlyReplied s t 0x11 tag .notFound []) ∧
    ∀ (i : Fin 40) (o : Order), s.findOrder (word32At p 0) = some i → s.orders.slots[i] = some o →
      (o.state = .active → ∃ t, exec (.amend tag p) s = .next t ∧ OnlyReplied s t 0x11 tag .busy []) ∧
      (o.state.unfinished = false → ∃ t, exec (.amend tag p) s = .next t ∧ OnlyReplied s t 0x11 tag .wrongState []) ∧
      (o.state.waiting = true →
        let estimate := s.estimate (needMm (s.margins o.mediaKind) o.printLength o.check) o.mediaKind
        (byteAt p 11 = 1 → u48At p 12 < estimate →
          ∃ t, exec (.amend tag p) s = .next t ∧ OnlyReplied s t 0x11 tag .overCeiling []) ∧
        ((byteAt p 11 = 1 → estimate ≤ u48At p 12) →
          let deadline := if byteAt p 6 = 1 then some (word32At p 7) else if byteAt p 6 = 2 then none else o.deadline
          let late := match deadline with | some d => decide (d.toNat ≤ s.orders.clock.toNat) | none => false
          let o' : Order :=
            { o with
              priority := if byteAt p 4 = 1 then min 7 (byteAt p 5) else o.priority, deadline := deadline,
              ceiling := if byteAt p 11 = 1 then some (u48At p 12) else if byteAt p 11 = 2 then none else o.ceiling,
              stopAtCeiling := if byteAt p 18 = 1 then byteAt p 19 == 1 else o.stopAtCeiling, late := late }
          ∃ t, exec (.amend tag p) s = .next t ∧
            Replied s t 0x11 tag (if byteAt p 4 = 1 ∧ 7 < byteAt p 5 then .adjusted else .ok) [] ∧ StoreUnmarked s t ∧
            Served [.orders] s t fun u =>
              Reevaluated { s with
                orders := { s.orders with slots := s.orders.slots.set i (some o') },
                notices := { s.notices with pending :=
                  if late && !o.late then s.notices.pending ||| 2#8 else s.notices.pending } } u))

/-- R11 and R12: CANCEL ends a waiting order with its lateness check and makes ORDER pending, asks an ACTIVE one to end and
refuses a final one; RELEASE frees the slot of a final order and refuses an unfinished one; both refuse a reference not
present. -/
def Obligations.CancelAndRelease : Prop :=
  ∀ (tag : Byte) (p : List Byte) (s : State), Takes s → p.length = 4 →
    (s.findOrder (word32At p 0) = none →
      (∃ t, exec (.cancel tag p) s = .next t ∧ OnlyReplied s t 0x12 tag .notFound []) ∧
        ∃ t, exec (.release tag p) s = .next t ∧ OnlyReplied s t 0x13 tag .notFound []) ∧
    ∀ (i : Fin 40) (o : Order), s.findOrder (word32At p 0) = some i → s.orders.slots[i] = some o →
      (o.state.waiting = true →
        let late := match o.deadline with | some d => !o.late && decide (d.toNat ≤ s.orders.clock.toNat) | none => false
        ∃ t, exec (.cancel tag p) s = .next t ∧ Replied s t 0x12 tag .ok [] ∧ StoreUnmarked s t ∧
          Keeps (.orders :: linkBlocks) s t ∧
          t.orders = { s.orders with
            slots := s.orders.slots.set i (some { o with
              state := .cancelled, holds := {}, endTime := some s.orders.clock, cancelRequested := false,
              late := o.late || late }),
            arrival := s.orders.arrival.filter fun j => j != i } ∧
          t.notices.pending = s.notices.pending ||| (if late then 3#8 else 1#8)) ∧
      (o.state = .active →
        ∃ t, exec (.cancel tag p) s = .next t ∧ Answered [.orders] s t 0x12 tag .ok [] ∧
          t.orders = { s.orders with slots := s.orders.slots.set i (some { o with cancelRequested := true }) }) ∧
      (o.state.unfinished = false →
        (∃ t, exec (.cancel tag p) s = .next t ∧ OnlyReplied s t 0x12 tag .wrongState []) ∧
          ∃ t, exec (.release tag p) s = .next t ∧ Answered [.orders] s t 0x13 tag .ok [] ∧
            t.orders = { s.orders with slots := s.orders.slots.set i none }) ∧
      (o.state.unfinished = true →
        ∃ t, exec (.release tag p) s = .next t ∧ OnlyReplied s t 0x13 tag .wrongState [])

/-- R15: PAUSE sets the pause flag and RESUME clears it, after which the slot is served. R20 and R21: SET_CLOCK writes the
clock and a tick adds one to it, wrapping; each is followed by the lateness scan, which marks every unfinished order whose
deadline is reached and makes LATE pending when it marks one. -/
def Obligations.PauseResumeAndClock : Prop :=
  (∀ (tag : Byte) (s : State), Takes s →
    (∃ t, exec (.pause tag []) s = .next t ∧ Answered [.orders] s t 0x16 tag .ok [] ∧
      t.orders = { s.orders with paused := true }) ∧
    ∃ t, exec (.resume tag []) s = .next t ∧ Replied s t 0x17 tag .ok [] ∧ StoreUnmarked s t ∧
      Served [.orders] s t fun u => u.orders = { s.orders with paused := false } ∧ u.notices.pending = s.notices.pending) ∧
  (let scanned (clock : Word32) : Option Order → Option Order
    | none => none
    | some o => some { o with late := o.late || (o.state.unfinished && match o.deadline with
        | some d => decide (d.toNat ≤ clock.toNat)
        | none => false) }
  let after (clock : Word32) (s t : State) : Prop :=
    Keeps (.orders :: linkBlocks) s t ∧ StoreUnmarked s t ∧
      t.orders = { s.orders with
        clock := clock, slots := Vector.ofFn fun i => scanned clock s.orders.slots[i] } ∧
      t.notices.pending = (if t.orders.slots = s.orders.slots then s.notices.pending else s.notices.pending ||| 2#8)
  (∀ (tag : Byte) (p : List Byte) (s : State), Takes s → p.length = 4 →
    ∃ t, exec (.setClock tag p) s = .next t ∧ Replied s t 0x18 tag .ok [] ∧ after (word32At p 0) s t) ∧
  ∀ s : State, Works s → ∃ t, exec .clockTick s = .next t ∧ after (s.orders.clock + 1) s t)

/-! ### Requests to the media unit and the engine link -/

/-- R27, R118, R139: MEDIA_DEFINE writes the kind with its clamps, absent lead, tail and strip margin kept from the earlier
definition or at their first values, brings the verdict settings and the gain set of a kind defined for the first time into
use, marks the store, and re-evaluates; R26: a number above 7, a band length of 0 and an ACTIVE order of the kind are
refused, as is an indicator byte above 1 (R222). The layout is DEDUCED (log entry 14). -/
def Obligations.MediaDefineWritesKind : Prop :=
  (∀ (tag : Byte) (p : List Byte) (s : State), Takes s → p.length = 20 →
    1 < byteAt p 12 ∨ 1 < byteAt p 15 ∨ 1 < byteAt p 18 →
    ∃ t, exec (.mediaDefine tag p) s = .next t ∧ OnlyReplied s t 0x20 tag .badLength []) ∧
  ∀ (tag : Byte) (p : List Byte) (s : State), Takes s → p.length = 20 → byteAt p 12 ≤ 1 → byteAt p 15 ≤ 1 →
    byteAt p 18 ≤ 1 →
    (7 < byteAt p 0 ∨ byteAt p 9 = 0 → ∃ t, exec (.mediaDefine tag p) s = .next t ∧ OnlyReplied s t 0x20 tag .badField []) ∧
    ∀ k : Fin 8, byteAt p 0 = k.val → byteAt p 9 ≠ 0 →
      let active := ∃ i : Fin 40, ∃ o, s.orders.slots[i] = some o ∧ o.state = .active ∧ o.mediaKind = k
      (active → ∃ t, exec (.mediaDefine tag p) s = .next t ∧ OnlyReplied s t 0x20 tag .busy []) ∧
      (¬active →
        let kept (f : MediaKind → Nat) (first : Nat) : Nat := match s.media.kinds[k] with | some m => f m | none => first
        let m : MediaKind :=
          { name := Vector.ofFn fun j => p.getD (1 + j.val) 0, bandLength := byteAt p 9, dwell := min 600 (u16At p 10),
            lead := if byteAt p 12 = 1 then min 200 (u16At p 13) else kept (·.lead) 30,
            tail := if byteAt p 15 = 1 then min 500 (u16At p 16) else kept (·.tail) 30,
            stripMargin := if byteAt p 18 = 1 then max 30 (min 80 (byteAt p 19)) else kept (·.stripMargin) 40 }
        let clamped := 600 < u16At p 10 ∨ (byteAt p 12 = 1 ∧ 200 < u16At p 13) ∨ (byteAt p 15 = 1 ∧ 500 < u16At p 16) ∨
          (byteAt p 18 = 1 ∧ (byteAt p 19 < 30 ∨ 80 < byteAt p 19))
        ∃ t, exec (.mediaDefine tag p) s = .next t ∧ Replied s t 0x20 tag (if clamped then .adjusted else .ok) [] ∧
          StoreMarked s t ∧
          Served [.media, .colour, .orders] s t fun u =>
            u.media = { s.media with kinds := s.media.kinds.set k (some m) } ∧ Reevaluated s u ∧
            u.colour = (if s.media.kinds[k] = none then
              { settings := s.colour.settings.set k (some
                  { reference := none, maxTolerance := 300, meanTolerance := 150, driftLevel := 100, patches := 65535 }),
                gainSets := s.colour.gainSets.set (kindSet k) (some
                  { gains := Vector.replicate 12 1000, limitFlags := 0, correction := true, deadband := 40, rate := 6,
                    maxStep := 20, captureMode := .continuous, suspended := false }),
                checks := s.colour.checks.set (kindSet k)
                  { ring := [], status := .recording, failRun := 0, driftRun := 0, driftFlag := false } }
              else s.colour))

/-- R31: ROLL_DECLARE checks its ranges, its kind, the roll's presence and its use, and then writes the roll record with
position 0 and inert zones. R32: FLAW_MARK and FLAW_CLEAR check their ranges and that a roll is declared, and write the zone.
Each re-evaluates and marks the store when the record changes. The layouts are DEDUCED (log entry 14). -/
def Obligations.RollAndFlawRequests : Prop :=
  (∀ (tag : Byte) (p : List Byte) (s : State), Takes s → p.length = 7 →
    let bad := 7 < byteAt p 0 ∨ u16At p 1 < 300 ∨ 1600 < u16At p 1 ∨ u32At p 3 < 1000 ∨ 200000 < u32At p 3
    (bad → ∃ t, exec (.rollDeclare tag p) s = .next t ∧ OnlyReplied s t 0x22 tag .badField []) ∧
    ∀ k : Fin 8, ¬bad → byteAt p 0 = k.val →
      (s.media.kinds[k] = none → ∃ t, exec (.rollDeclare tag p) s = .next t ∧ OnlyReplied s t 0x22 tag .notFound []) ∧
      (s.media.kinds[k] ≠ none → s.media.present = false →
        ∃ t, exec (.rollDeclare tag p) s = .next t ∧ OnlyReplied s t 0x22 tag .wrongState []) ∧
      (let busy := s.holder.activityCode ∈ [1, 2, 4] ∨ s.engine.pendingTrim ≠ none
       s.media.kinds[k] ≠ none → s.media.present = true →
        (busy → ∃ t, exec (.rollDeclare tag p) s = .next t ∧ OnlyReplied s t 0x22 tag .busy []) ∧
        (¬busy →
          let r : Roll := { declared := true, mediaKind := k, width := u16At p 1, length := u32At p 3, position := 0,
                            zones := Vector.replicate 8 { start := 1, stop := 0 },
                            clearOutPending := s.media.roll.clearOutPending }
          ∃ t, exec (.rollDeclare tag p) s = .next t ∧ Replied s t 0x22 tag .ok [] ∧ MarkedIf (r ≠ s.media.roll) s t ∧
            Served [.media, .orders] s t fun u => u.media = { s.media with roll := r } ∧ Reevaluated s u))) ∧
  ∀ (tag : Byte) (p : List Byte) (s : State), Takes s →
    let written (kind : Byte) (z : Fin 8) (zone : Zone) (t : State) : Prop :=
      let r : Roll := { s.media.roll with zones := s.media.roll.zones.set z zone }
      Replied s t kind tag .ok [] ∧ MarkedIf (r ≠ s.media.roll) s t ∧
        Served [.media, .orders] s t fun u => u.media = { s.media with roll := r } ∧ Reevaluated s u
    (p.length = 9 →
      (7 < byteAt p 0 ∨ 200000 < u32At p 1 ∨ 200000 < u32At p 5 →
        ∃ t, exec (.flawMark tag p) s = .next t ∧ OnlyReplied s t 0x23 tag .badField []) ∧
      ∀ z : Fin 8, byteAt p 0 = z.val → u32At p 1 ≤ 200000 → u32At p 5 ≤ 200000 →
        ∃ t, exec (.flawMark tag p) s = .next t ∧
          if s.media.roll.declared then written 0x23 z { start := u32At p 1, stop := u32At p 5 } t
          else OnlyReplied s t 0x23 tag .wrongState []) ∧
    (p.length = 1 →
      (7 < byteAt p 0 → ∃ t, exec (.flawClear tag p) s = .next t ∧ OnlyReplied s t 0x24 tag .badField []) ∧
      ∀ z : Fin 8, byteAt p 0 = z.val →
        ∃ t, exec (.flawClear tag p) s = .next t ∧
          if s.media.roll.declared then written 0x24 z { start := 1, stop := 0 } t
          else OnlyReplied s t 0x24 tag .wrongState [])

/-- R43: TRIM's checks in their order, and an accepted one as the pending trim. R110 and R111: CLEAN_REQUEST raises each
channel's pending level to the one asked for, and refuses a level above 3. The slot is then served. -/
def Obligations.TrimAndCleanRequests : Prop :=
  (∀ (tag : Byte) (p : List Byte) (s : State), Takes s → p.length = 2 →
    (u16At p 0 < 10 ∨ 2000 < u16At p 0 →
      ∃ t, exec (.trim tag p) s = .next t ∧ OnlyReplied s t 0x26 tag .badField []) ∧
    (10 ≤ u16At p 0 → u16At p 0 ≤ 2000 →
      (s.media.roll.declared = false → ∃ t, exec (.trim tag p) s = .next t ∧ OnlyReplied s t 0x26 tag .wrongState []) ∧
      (s.media.roll.declared = true → s.media.roll.length < s.media.roll.position / 40 + u16At p 0 →
        ∃ t, exec (.trim tag p) s = .next t ∧ OnlyReplied s t 0x26 tag .badField []) ∧
      (s.media.roll.declared = true → s.media.roll.position / 40 + u16At p 0 ≤ s.media.roll.length →
        let free := s.holder = .idle ∧ s.engine.pendingTrim = none ∧ s.engine.state ∈ [.ok, .warn, .limited] ∧
          s.engine.coverClosed = true
        (¬free → ∃ t, exec (.trim tag p) s = .next t ∧ OnlyReplied s t 0x26 tag .busy []) ∧
        (free → ∃ t, exec (.trim tag p) s = .next t ∧ Replied s t 0x26 tag .ok [] ∧ StoreUnmarked s t ∧
          Served [.engine] s t fun u =>
            u.engine = { s.engine with pendingTrim := some (u16At p 0) } ∧ u.notices.pending = s.notices.pending)))) ∧
  ∀ (tag : Byte) (p : List Byte) (s : State), Takes s → p.length = 12 →
    ((∃ c : Fin 12, 3 < byteAt p c.val) →
      ∃ t, exec (.cleanRequest tag p) s = .next t ∧ OnlyReplied s t 0x3B tag .badField []) ∧
    ((∀ c : Fin 12, byteAt p c.val ≤ 3) →
      ∃ t, exec (.cleanRequest tag p) s = .next t ∧ Replied s t 0x3B tag .ok [] ∧ StoreUnmarked s t ∧
        Served [.ink] s t fun u => u.notices.pending = s.notices.pending ∧ u.ink = { s.ink with
          channels := Vector.ofFn fun c =>
            { s.ink.channels[c] with cleaning := max s.ink.channels[c].cleaning (byteAt p c.val) } })

/-- R86: ENGINE_RESTART abandons the outstanding command, whose tag becomes the expired tag, ends whatever holds the slot,
with its postings, its order, its paper and its cleaning levels as R61, R79 and R80 give, clears the probe run, and issues an
ENGINE_RESET with the next tag in STARTING; ENGINE goes pending when the state changed.
R85: AUTO_RECOVERY_SET writes its setting and marks the store when the value differs; in OFF, turning it on begins probing
with a PROBE at once, or as soon as the slot has room when the PROBE of a probing that was turned off is still outstanding,
and with probing under way already it changes nothing else; turning it off ends probing (R84). -/
def Obligations.RestartAndAutoRecovery : Prop :=
  (∀ (tag : Byte) (s : State), Takes s →
    ∃ t, exec (.engineRestart tag []) s = .next t ∧ Replied s t 0x30 tag .ok [] ∧ t.holder = .idle ∧
      t.engine = { s.engine with
        state := .starting, probeRun := 0, nextTag := s.engine.nextTag + 1,
        expiredTag := (match s.engine.outstanding with | some o => some o.tag | none => s.engine.expiredTag),
        outstanding := some { command := .engineReset, tag := s.engine.nextTag, party := .startUp,
                              frame := frameBytes 0xA6 s.engine.nextTag [] } } ∧
      (s.engine.state ≠ .starting → t.notices.pending &&& 64 = 64) ∧ HolderEnded s t) ∧
  ∀ (tag : Byte) (p : List Byte) (s : State), Takes s → p.length = 1 →
    (1 < byteAt p 0 → ∃ t, exec (.autoRecoverySet tag p) s = .next t ∧ OnlyReplied s t 0x31 tag .badLength []) ∧
    (byteAt p 0 = 1 →
      ∃ t, exec (.autoRecoverySet tag p) s = .next t ∧ Replied s t 0x31 tag .ok [] ∧ NoticesKept s t ∧
        MarkedIf (s.engine.autoRecovery = false) s t ∧ Keeps ([.engine, .holder] ++ linkBlocks) s t ∧
        (s.engine.state = .off ∧ s.holder = .idle ∧ s.engine.outstanding = none →
          t.holder = .probing false ∧ t.engine = { s.engine with
            autoRecovery := true, probeRun := 0, nextTag := s.engine.nextTag + 1,
            outstanding := some { command := .probe, tag := s.engine.nextTag, party := .probing,
                                  frame := frameBytes 0xA5 s.engine.nextTag [] } }) ∧
        (s.engine.state = .off ∧ s.holder = .idle ∧ s.engine.outstanding ≠ none →
          t.holder = .probing true ∧ t.engine = { s.engine with autoRecovery := true, probeRun := 0 }) ∧
        (s.engine.state ≠ .off ∨ s.holder ≠ .idle →
          t.holder = s.holder ∧ t.engine = { s.engine with autoRecovery := true })) ∧
    (byteAt p 0 = 0 →
      ∃ t, exec (.autoRecoverySet tag p) s = .next t ∧ Replied s t 0x31 tag .ok [] ∧ NoticesKept s t ∧
        MarkedIf (s.engine.autoRecovery = true) s t ∧ Keeps ([.engine, .holder] ++ linkBlocks) s t ∧
        (match s.holder with
          | .probing _ => t.holder = .idle ∧ t.engine = { s.engine with
              autoRecovery := false, probeRun := 0,
              outstanding := s.engine.outstanding.map fun o => { o with party := .ended } }
          | _ => t.holder = s.holder ∧ t.engine = { s.engine with autoRecovery := false }))

/-! ### Requests to the ink supply unit -/

/-- R92: DROP_SIZES_SET writes three sizes brought into 10 to 999, and marks the store when one differs. R113: CHANNEL_SET
writes a low threshold of at most 500,000,000 nL, marks the store when it changed, evaluates a SUPPLIED or LOW channel at
once, and the slot is served; a channel above 11 is refused. The layouts are DEDUCED (log entry 14). -/
def Obligations.SizesAndThreshold : Prop :=
  (∀ (tag : Byte) (p : List Byte) (s : State), Takes s → p.length = 6 →
    let limited (n : Nat) := if n < 10 then 10 else if 999 < n then 999 else n
    let z : DropSizes := { small := limited (u16At p 0), medium := limited (u16At p 2), large := limited (u16At p 4) }
    ∃ t, exec (.dropSizesSet tag p) s = .next t ∧
      Replied s t 0x38 tag
        (if z.small = u16At p 0 ∧ z.medium = u16At p 2 ∧ z.large = u16At p 4 then .ok else .adjusted) [] ∧
      NoticesKept s t ∧ MarkedIf (z ≠ s.ink.sizes) s t ∧ Keeps (.ink :: linkBlocks) s t ∧
      t.ink = { s.ink with sizes := z }) ∧
  ∀ (tag : Byte) (p : List Byte) (s : State), Takes s → p.length = 5 →
    (11 < byteAt p 0 → ∃ t, exec (.channelSet tag p) s = .next t ∧ OnlyReplied s t 0x39 tag .badField []) ∧
    ∀ k : Fin 12, byteAt p 0 = k.val →
      let c := s.ink.channels[k]
      let low := min 500000000 (u32At p 1)
      let evaluated : SupplyState :=
        if c.supply = .supplied ∨ c.supply = .low then
          (if s.anySupplying k then (if s.baySum k < low then .low else .supplied)
            else if 0 < c.reserve then .reserve else .dry)
        else c.supply
      ∃ t, exec (.channelSet tag p) s = .next t ∧
        Replied s t 0x39 tag (if 500000000 < u32At p 1 then .adjusted else .ok) [] ∧
        MarkedIf (low ≠ c.lowThreshold ∨ evaluated ≠ c.supply) s t ∧
        Served [.ink, .orders] s t fun u =>
          u.ink = { s.ink with
            channels := s.ink.channels.set k { c with lowThreshold := low, supply := evaluated } } ∧
          (evaluated = c.supply → u.orders = s.orders ∧ u.notices.pending = s.notices.pending) ∧
          (evaluated ≠ c.supply →
            Reevaluated { s with notices := { s.notices with pending := s.notices.pending ||| 4#8 } } u)

/-- R105 and R109: CHANNEL_RESET of a FAULT channel enters REFILLING from its active bay, or else from the other one, when
that is present with ink, and makes the channel DRY otherwise, with SUPPLY pending; other channels are refused. R105 and
R108: each second of a refill adds one to refill elapsed, and the one that takes it to 120 makes the channel FAULT; how the
two timer rows share that second is the model's choice (log entry 7). -/
def Obligations.RefillsRestartAndExpire : Prop :=
  let changed (s u : State) (k : Fin 12) (x : Channel) : Prop :=
    u.ink = { s.ink with channels := s.ink.channels.set k x } ∧
      Reevaluated { s with notices := { s.notices with pending := s.notices.pending ||| 4#8 } } u
  (∀ (tag : Byte) (p : List Byte) (s : State), Takes s → p.length = 1 →
    (11 < byteAt p 0 → ∃ t, exec (.channelReset tag p) s = .next t ∧ OnlyReplied s t 0x3A tag .badField []) ∧
    ∀ k : Fin 12, byteAt p 0 = k.val →
      let c := s.ink.channels[k]
      let ink (side : BaySide) : Bool :=
        s.ink.bays[bayOf k side].present && decide (0 < s.ink.bays[bayOf k side].remaining)
      (c.supply ≠ .fault → ∃ t, exec (.channelReset tag p) s = .next t ∧ OnlyReplied s t 0x3A tag .wrongState []) ∧
      (c.supply = .fault →
        ∃ t, exec (.channelReset tag p) s = .next t ∧ Replied s t 0x3A tag .ok [] ∧ StoreMarked s t ∧
          Served [.ink, .orders] s t fun u => changed s u k
            (if ink c.active then
              { c with supply := .refilling, refillBay := some c.active, refillElapsed := 0, fullRun := 0, lowRun := 0,
                       emptyRun := 0 }
            else if ink c.active.other then
              { c with supply := .refilling, refillBay := some c.active.other, active := c.active.other,
                       refillElapsed := 0, fullRun := 0, lowRun := 0, emptyRun := 0 }
            else { c with supply := .dry }))) ∧
  ∀ (s : State) (k : Fin 12), Works s → s.ink.channels[k].supply = .refilling →
    let c := s.ink.channels[k]
    (c.refillElapsed + 1 < 120 →
      ∃ t, exec (.refillElapsedSecond k) s = .next t ∧ Served [.ink] s t fun u =>
        u.ink = { s.ink with channels := s.ink.channels.set k { c with refillElapsed := c.refillElapsed + 1 } } ∧
          u.notices.pending = s.notices.pending) ∧
    (119 ≤ c.refillElapsed →
      exec (.refillElapsedSecond k) s = exec (.refillTimeout k) s ∧
        ∃ t, exec (.refillTimeout k) s = .next t ∧ Served [.ink, .orders] s t fun u => changed s u k
          { c with supply := .fault, refillBay := none, refillElapsed := 120, fullRun := 0 })

/-! ### Requests to the colour check unit -/

/-- R117, R119 and R120: REFERENCE_SET writes sixteen clamped readings as a defined kind's reference, and COLOUR_LIMITS_SET
its four settings, each at most 2,000; a number above 7, an empty patch selection and a kind without settings are refused. -/
def Obligations.VerdictSettingsWritten : Prop :=
  let written (s t : State) (kind tag : Byte) (k : Fin 8) (adjusted : Prop) [Decidable adjusted] (v : VerdictSettings) :
      Prop :=
    Recorded [.colour] s t kind tag (if adjusted then .adjusted else .ok) [] ∧
      t.colour = { s.colour with settings := s.colour.settings.set k (some v) }
  (∀ (tag : Byte) (p : List Byte) (s : State), Takes s → p.length = 97 →
    (7 < byteAt p 0 → ∃ t, exec (.referenceSet tag p) s = .next t ∧ OnlyReplied s t 0x40 tag .badField []) ∧
    ∀ k : Fin 8, byteAt p 0 = k.val →
      ∃ t, exec (.referenceSet tag p) s = .next t ∧ match s.colour.settings[k] with
        | none => OnlyReplied s t 0x40 tag .notFound []
        | some v =>
          let given : Vector Lab 16 := Vector.ofFn fun j =>
            { L := u16At p (1 + 6 * j.val), a := s16At p (3 + 6 * j.val), b := s16At p (5 + 6 * j.val) }
          let clamped : Vector Lab 16 := Vector.ofFn fun j =>
            { L := min 10000 given[j].L, a := max (-12800) (min 12700 given[j].a),
              b := max (-12800) (min 12700 given[j].b) }
          written s t 0x40 tag k (clamped ≠ given) { v with reference := some clamped }) ∧
  ∀ (tag : Byte) (p : List Byte) (s : State), Takes s → p.length = 9 →
    (7 < byteAt p 0 ∨ u16At p 7 = 0 →
      ∃ t, exec (.colourLimitsSet tag p) s = .next t ∧ OnlyReplied s t 0x41 tag .badField []) ∧
    ∀ k : Fin 8, byteAt p 0 = k.val → u16At p 7 ≠ 0 →
      ∃ t, exec (.colourLimitsSet tag p) s = .next t ∧ match s.colour.settings[k] with
        | none => OnlyReplied s t 0x41 tag .notFound []
        | some v =>
          written s t 0x41 tag k (2000 < u16At p 1 ∨ 2000 < u16At p 3 ∨ 2000 < u16At p 5)
            { v with maxTolerance := min 2000 (u16At p 1), meanTolerance := min 2000 (u16At p 3),
                     driftLevel := min 2000 (u16At p 5), patches := BitVec.ofNat 16 (u16At p 7) }

/-- R129: the checks of a gain-set selector, in all seven requests that carry one. HISTORY_REARM empties the ring and restarts the capture status of the mode held; CAPTURE_MODE_SET writes the mode
first, and marks the store when it differs; the fail run, the drift run and the drift flag are kept. R135: COLOUR_RESUME
clears a set's suspended flag and fail run, marks the store and re-evaluates; a set that is not suspended is refused. -/
def Obligations.CheckStateRequests : Prop :=
  (∀ (c : Instr) (r : Request) (s : State), requestOf c = some r → r.kind ∈ [0x43, 0x44, 0x45, 0x46, 0x48, 0x49, 0x4A] →
    Takes s → r.payload.length = r.length → (r.kind = 0x49 → byteAt r.payload 5 ≤ 1) →
    (1 < byteAt r.payload 0 → ∃ t, exec c s = .next t ∧ OnlyReplied s t r.kind r.tag .badLength []) ∧
    (byteAt r.payload 0 = 0 → 7 < u32At r.payload 1 →
      ∃ t, exec c s = .next t ∧ OnlyReplied s t r.kind r.tag .badField []) ∧
    ((r.kind = 0x45 → byteAt r.payload 5 ≤ 2) →
      (∃ k : Fin 8, byteAt r.payload 0 = 0 ∧ u32At r.payload 1 = k.val ∧ s.media.kinds[k] = none) ∨
        (byteAt r.payload 0 = 1 ∧ s.findEdition (word32At r.payload 1) = none) →
      ∃ t, exec c s = .next t ∧ OnlyReplied s t r.kind r.tag .notFound [])) ∧
  (∀ (tag : Byte) (p : List Byte) (s : State) (g : Fin 24) (x : GainSet), Takes s → SelectsGainSet s p g x →
    let rearmed (m : CaptureMode) : CheckState :=
      { s.colour.checks[g] with ring := [], status := if m = .startOnFail then .waiting else .recording }
    (p.length = 5 →
      ∃ t, exec (.historyRearm tag p) s = .next t ∧ Answered [.colour] s t 0x44 tag .ok [] ∧
        t.colour = { s.colour with checks := s.colour.checks.set g (rearmed x.captureMode) }) ∧
    (p.length = 6 → 2 < byteAt p 5 →
      ∃ t, exec (.captureModeSet tag p) s = .next t ∧ OnlyReplied s t 0x45 tag .badField []) ∧
    ∀ m : CaptureMode, p.length = 6 → byteAt p 5 = m.code →
      ∃ t, exec (.captureModeSet tag p) s = .next t ∧ Replied s t 0x45 tag .ok [] ∧ NoticesKept s t ∧
        MarkedIf (m ≠ x.captureMode) s t ∧ Keeps (.colour :: linkBlocks) s t ∧
        t.colour = { s.colour with gainSets := s.colour.gainSets.set g (some { x with captureMode := m }),
                                   checks := s.colour.checks.set g (rearmed m) }) ∧
  (∀ (tag : Byte) (p : List Byte) (s : State) (g : Fin 24) (x : GainSet), Takes s → p.length = 5 →
    SelectsGainSet s p g x →
    (x.suspended = false → ∃ t, exec (.colourResume tag p) s = .next t ∧ OnlyReplied s t 0x46 tag .wrongState []) ∧
    (x.suspended = true →
      ∃ t, exec (.colourResume tag p) s = .next t ∧ Replied s t 0x46 tag .ok [] ∧ StoreMarked s t ∧
        Served [.colour, .orders] s t fun u =>
          u.colour = { s.colour with
            gainSets := s.colour.gainSets.set g (some { x with suspended := false }),
            checks := s.colour.checks.set g { s.colour.checks[g] with failRun := 0 } } ∧ Reevaluated s u))

/-- R143 and R144: GAINS_SET writes twelve gains brought into 850 to 1150, clears the limit flags and marks the store;
CORRECTION_SET writes the four correction settings with their clamps, and marks the store when one differs. -/
def Obligations.GainsAndCorrectionWritten : Prop :=
  ∀ (tag : Byte) (p : List Byte) (s : State) (g : Fin 24) (x : GainSet), Takes s → SelectsGainSet s p g x →
    let gain (c : Fin 12) : Nat := u16At p (5 + 2 * c.val)
    (p.length = 29 →
      ∃ t, exec (.gainsSet tag p) s = .next t ∧
        Recorded [.colour] s t 0x48 tag (if ∀ c : Fin 12, 850 ≤ gain c ∧ gain c ≤ 1150 then .ok else .adjusted) [] ∧
        t.colour = { s.colour with gainSets := s.colour.gainSets.set g (some
          { x with gains := Vector.ofFn fun c => max 850 (min 1150 (gain c)), limitFlags := 0 }) }) ∧
    (p.length = 12 → 1 < byteAt p 5 →
      ∃ t, exec (.correctionSet tag p) s = .next t ∧ OnlyReplied s t 0x49 tag .badLength []) ∧
    (p.length = 12 → byteAt p 5 ≤ 1 →
      let y : GainSet :=
        { x with correction := byteAt p 5 == 1, deadband := min 500 (u16At p 6), rate := min 20 (u16At p 8),
                 maxStep := max 1 (min 50 (u16At p 10)) }
      ∃ t, exec (.correctionSet tag p) s = .next t ∧
        Replied s t 0x49 tag
          (if y.deadband = u16At p 6 ∧ y.rate = u16At p 8 ∧ y.maxStep = u16At p 10 then .ok else .adjusted) [] ∧
        NoticesKept s t ∧ MarkedIf (y ≠ x) s t ∧ Keeps (.colour :: linkBlocks) s t ∧
        t.colour = { s.colour with gainSets := s.colour.gainSets.set g (some y) })

/-! ### Requests to the edition table and the cost unit -/

/-- R137, R139, R148 and R149: EDITION_OPEN's checks, and one that passes them places the record in the lowest free slot, OPEN, or
FIXED or COMPLETE with a carried-over part, and brings the slot's gain set into use as a copy of the kind's. R155: EDITION_CLOSE
closes an edition that no unfinished order names, one OPEN taking its kind's reference. R156: EDITION_REMOVE frees the slot
of a CLOSED edition and takes its gain set out of use. Each marks the store; both answer NOT_FOUND for a reference that no
record has. EDITION_OPEN's layout is DEDUCED (log entry 14). -/
def Obligations.EditionsOpenCloseRemove : Prop :=
  (∀ (tag : Byte) (p : List Byte) (s : State), Takes s → p.length = 106 →
    let refused (st : Status) : Prop := ∃ t, exec (.editionOpen tag p) s = .next t ∧ OnlyReplied s t 0x50 tag st []
    (1 < byteAt p 7 → refused .badLength) ∧
    (byteAt p 7 ≤ 1 →
      (7 < byteAt p 4 ∨ u16At p 5 = 0 ∨ 999 < u16At p 5 ∨
        (byteAt p 7 = 1 ∧ (u16At p 8 = 0 ∨ u16At p 5 < u16At p 8)) → refused .badField) ∧
      ∀ k : Fin 8, byteAt p 4 = k.val → 1 ≤ u16At p 5 → u16At p 5 ≤ 999 →
        (byteAt p 7 = 1 → 1 ≤ u16At p 8 ∧ u16At p 8 ≤ u16At p 5) →
        (s.findEdition (word32At p 0) ≠ none → refused .duplicate) ∧
        (s.findEdition (word32At p 0) = none →
          (s.media.kinds[k] = none → refused .notFound) ∧
          (s.media.kinds[k] ≠ none → s.kindReference k = none → refused .noReference) ∧
          (s.media.kinds[k] ≠ none → s.kindReference k ≠ none → (∀ i : Fin 16, s.editions[i] ≠ none) →
            refused .full)))) ∧
  (∀ (tag : Byte) (p : List Byte) (s : State) (i : Fin 16) (k : Fin 8) (x : GainSet), Takes s → p.length = 106 →
    byteAt p 7 ≤ 1 → byteAt p 4 = k.val → 1 ≤ u16At p 5 → u16At p 5 ≤ 999 →
    (byteAt p 7 = 1 → 1 ≤ u16At p 8 ∧ u16At p 8 ≤ u16At p 5) → s.findEdition (word32At p 0) = none →
    s.media.kinds[k] ≠ none → s.kindReference k ≠ none → s.freeEditionSlot? = some i →
    s.colour.gainSets[kindSet k] = some x →
    let given : Vector Lab 16 := labsAt p 10
    let carried := byteAt p 7 = 1
    let e : Edition :=
      { reference := word32At p 0, mediaKind := k, size := u16At p 5, accepted := if carried then u16At p 8 else 0,
        state := if carried then (if u16At p 8 = u16At p 5 then .complete else .fixed) else .opened,
        readings := if carried then some (clampLabs given) else none, openedAt := s.orders.clock,
        fixedAt := if carried then some s.orders.clock else none }
    ∃ t, exec (.editionOpen tag p) s = .next t ∧
      Recorded [.editions, .colour] s t 0x50 tag (if carried ∧ clampLabs given ≠ given then .adjusted else .ok)
        (u8 i.val) ∧
      t.editions = s.editions.set i (some e) ∧
      t.colour = { s.colour with
        gainSets := s.colour.gainSets.set (editionSet i) (some { x with limitFlags := 0, suspended := false }),
        checks := s.colour.checks.set (editionSet i)
          { ring := [], status := if x.captureMode = .startOnFail then .waiting else .recording, failRun := 0,
            driftRun := 0, driftFlag := false } }) ∧
  (∀ (tag : Byte) (p : List Byte) (s : State), Takes s → p.length = 4 → s.findEdition (word32At p 0) = none →
    (∃ t, exec (.editionClose tag p) s = .next t ∧ OnlyReplied s t 0x51 tag .notFound []) ∧
      ∃ t, exec (.editionRemove tag p) s = .next t ∧ OnlyReplied s t 0x52 tag .notFound []) ∧
  ∀ (tag : Byte) (p : List Byte) (s : State) (i : Fin 16) (e : Edition), Takes s → p.length = 4 →
    s.findEdition (word32At p 0) = some i → s.editions[i] = some e →
    (e.state = .closed → ∃ t, exec (.editionClose tag p) s = .next t ∧ OnlyReplied s t 0x51 tag .wrongState []) ∧
    (e.state ≠ .closed → 0 < s.unfinishedNaming e.reference →
      ∃ t, exec (.editionClose tag p) s = .next t ∧ OnlyReplied s t 0x51 tag .busy []) ∧
    (e.state ≠ .closed → s.unfinishedNaming e.reference = 0 →
      ∃ t, exec (.editionClose tag p) s = .next t ∧ Recorded [.editions] s t 0x51 tag .ok [] ∧
        t.editions = s.editions.set i (some { e with
          state := .closed, readings := if e.state = .opened then s.kindReference e.mediaKind else e.readings })) ∧
    (e.state ≠ .closed → ∃ t, exec (.editionRemove tag p) s = .next t ∧ OnlyReplied s t 0x52 tag .wrongState []) ∧
    (e.state = .closed →
      ∃ t, exec (.editionRemove tag p) s = .next t ∧ Recorded [.editions, .colour] s t 0x52 tag .ok [] ∧
        t.editions = s.editions.set i none ∧ t.colour.gainSets = s.colour.gainSets.set (editionSet i) none ∧
        t.colour.settings = s.colour.settings ∧
        ∀ g : Fin 24, g ≠ editionSet i → t.colour.checks[g] = s.colour.checks[g])

/-- R160: PRICES_SET replaces the whole price table by the values after clamping and advances the price version, which the
reply carries. R180: ACCOUNT_CLEAR zeroes an account. R181: ACCOUNT_LOAD writes an account's fields, its counts clamped, its
total recomputed, and its flag raised when a value was clamped or the total saturated. Each marks the store; an account above
63 is refused. The payload layouts (log entry 14) and the u32 of the price version in the reply (log entry 25) are DEDUCED. -/
def Obligations.PricesAndAccountsWritten : Prop :=
  (∀ (tag : Byte) (p : List Byte) (s : State), Takes s → p.length = 88 →
    let given : PriceTable :=
      { ink := Vector.ofFn fun c => u32At p (4 * c.val), media := Vector.ofFn fun k => u32At p (48 + 4 * k.val),
        cut := u32At p 80, handling := u32At p 84 }
    let held : PriceTable :=
      { ink := Vector.ofFn fun c => min 1000000 (u32At p (4 * c.val)),
        media := Vector.ofFn fun k => min 10000000 (u32At p (48 + 4 * k.val)),
        cut := min 100000 (u32At p 80), handling := min 10000000 (u32At p 84) }
    ∃ t, exec (.pricesSet tag p) s = .next t ∧
      Recorded [.costs] s t 0x54 tag (if held = given then .ok else .adjusted) (word32 (s.costs.version + 1)) ∧
      t.costs = { s.costs with prices := held, version := s.costs.version + 1 }) ∧
  ∀ (tag : Byte) (p : List Byte) (s : State), Takes s →
    (p.length = 1 → 63 < byteAt p 0 →
      ∃ t, exec (.accountClear tag p) s = .next t ∧ OnlyReplied s t 0x57 tag .badField []) ∧
    (p.length = 37 → 63 < byteAt p 0 →
      ∃ t, exec (.accountLoad tag p) s = .next t ∧ OnlyReplied s t 0x58 tag .badField []) ∧
    ∀ k : Fin 64, byteAt p 0 = k.val →
      (p.length = 1 →
        let zero : Account :=
          { ink := 0, media := 0, cut := 0, handling := 0, total := 0, acceptedPrints := 0, attemptsPosted := 0,
            saturated := false }
        ∃ t, exec (.accountClear tag p) s = .next t ∧ Recorded [.costs] s t 0x57 tag .ok [] ∧
          t.costs = { s.costs with accounts := s.costs.accounts.set k zero }) ∧
      (p.length = 37 →
        let sum := u48At p 1 + u48At p 7 + u48At p 13 + u48At p 19
        let clamped := 65535 < u48At p 25 ∨ 65535 < u48At p 31
        let loaded : Account :=
          { ink := u48At p 1, media := u48At p 7, cut := u48At p 13, handling := u48At p 19,
            total := min 281474976710655 sum, acceptedPrints := min 65535 (u48At p 25),
            attemptsPosted := min 65535 (u48At p 31),
            saturated := decide (clamped ∨ 281474976710655 < sum) }
        ∃ t, exec (.accountLoad tag p) s = .next t ∧
          Recorded [.costs] s t 0x58 tag (if clamped then .adjusted else .ok) [] ∧
          t.costs = { s.costs with accounts := s.costs.accounts.set k loaded })

/-! ### Notices and the store -/

/-- R196 and R204: what the transmitter starts when it is free: the oldest reply as it stands, or a NOTICE with the
categories pending and enabled now and the clock; a NOTICE with none is removed unsent and the next frame is taken. R202,
R203 and R206: NOTICE_ENABLE replaces the enable set and answers with it, and queues a NOTICE frame when it enables a pending
category that was disabled, none being queued before; NOTICE_CLEAR clears the categories named and answers with those that
remain, queuing no NOTICE frame. That NOTICE_ENABLE's reply carries R202's enable set, and not the pending set that a sentence
of R223 names, is DEDUCED from R194 (log entry 24). -/
def Obligations.NoticesAreQueuedAndSent : Prop :=
  (∀ (s : State) (rest : List TxFrame), s.server.sending = none → s.quiet = none →
    (∀ tag kind status fields, s.server.tx = .reply tag kind status fields :: rest →
      s.kick = { s with server :=
        { s.server with
          sending := some (frameBytes 0x80 tag (BitVec.ofNat 8 status.code :: kind :: fields)) } }) ∧
    (s.server.tx = .notice :: rest → s.notices.pending &&& s.notices.enabled ≠ 0 →
      s.kick = { s with
        server :=
          { s.server with
            sending :=
              some (frameBytes 0x81 0 ((s.notices.pending &&& s.notices.enabled) :: word32 s.orders.clock)) },
        notices := { s.notices with place := .sending } }) ∧
    (s.server.tx = .notice :: rest → s.notices.pending &&& s.notices.enabled = 0 →
      s.kick = State.kick { s with server := { s.server with tx := rest },
                                   notices := { s.notices with place := .none } })) ∧
  ((∀ (tag b : Byte) (s : State), Takes s →
    ∃ t, exec (.noticeEnable tag [b]) s = .next t ∧ Replied s t 0x68 tag .ok [b] ∧ StoreUnmarked s t ∧
      Keeps linkBlocks s t ∧ t.notices.enabled = b ∧ t.notices.pending = s.notices.pending ∧
      (let trigger := s.notices.pending &&& b &&& ~~~s.notices.enabled ≠ 0
       (trigger → t.notices.owed = (s.notices.owed || s.notices.place == .sending)) ∧
         (¬trigger → t.notices.owed = s.notices.owed) ∧
         (s.server.sending.isSome = true →
           t.server.tx = s.server.tx ++ (if trigger ∧ s.notices.place = .none then [.notice] else []) ++
             [.reply tag 0x68 .ok [b]] ∧
           t.notices.place = (if trigger ∧ s.notices.place = .none then .awaiting else s.notices.place)))) ∧
  ∀ (tag b : Byte) (s : State), Takes s →
    ∃ t, exec (.noticeClear tag [b]) s = .next t ∧ Replied s t 0x69 tag .ok [s.notices.pending &&& ~~~b] ∧
      StoreUnmarked s t ∧ Keeps linkBlocks s t ∧ t.notices.enabled = s.notices.enabled ∧
      t.notices.pending = s.notices.pending &&& ~~~b ∧ t.notices.owed = s.notices.owed ∧
      (s.server.sending.isSome = true →
        t.server.tx = s.server.tx ++ [.reply tag 0x69 .ok [s.notices.pending &&& ~~~b]] ∧
        t.notices.place = s.notices.place))

/-- R213 to R216: STORE_COMMIT marks the store, so that a write of the whole retained set begins when none is in flight; its
reply carries the store condition, whose store state is the model's reading (log entry 10); the order of its fields (log
entry 14) and the u8 of its failed writes (log entry 25) are DEDUCED. A write that ends well becomes the
image and dates the last write; one that fails counts, sets STORE_FAULT, makes SYSTEM pending and is repeated at once. What a
failed write leaves in the memory is carried by the command (log entry 16). -/
def Obligations.StoreWritesImage : Prop :=
  (∀ (tag : Byte) (s : State), Takes s →
    ∃ t, exec (.storeCommit tag []) s = .next t ∧
      Recorded [] s t 0x70 tag .ok (u8 s.store.event.code ++ u8 s.store.failedWrites ++
        optionalField 4 word32 s.store.lastWrite ++ [if s.store.writing ≠ none then 2 else 1])) ∧
  ∀ (s : State) (copy : Retained), Works s → s.store.writing = some copy →
    (∃ t, exec (.storeWriteEnd .written) s = .next t ∧ Keeps linkBlocks s t ∧ NoticesKept s t ∧
      t.store.image = .intact copy ∧ t.store.lastWrite = some s.orders.clock ∧ t.store.event = s.store.event ∧
      t.store.failedWrites = s.store.failedWrites ∧ t.store.lastFailed = false ∧ t.store.dirty = false ∧
      t.store.writing = (if s.store.dirty then some t.retained else none)) ∧
    ∀ kept : Bool, ∃ t, exec (.storeWriteEnd (.failed kept)) s = .next t ∧ Keeps linkBlocks s t ∧
      t.store.image = (if kept then s.store.image else .lost) ∧ t.store.lastWrite = s.store.lastWrite ∧
      t.store.event = .storeFault ∧ t.store.failedWrites = min 255 (s.store.failedWrites + 1) ∧
      t.store.lastFailed = true ∧ t.store.dirty = false ∧ t.store.writing = some t.retained ∧
      t.notices.pending = s.notices.pending ||| 128#8

/-! ### The engine link -/

/-- R72 classes 1 and 5, R71, R81, R82 and R209: a bad frame adds 4 to the error count, a mismatched report 2, a timeout 8,
each counted; a timeout frees the slot and its tag becomes the expired tag. A bad frame or a mismatched report that does not
make the state OFF changes nothing else but ENGINE, which goes pending with the state, and a slot that is free has its turn. A
timeout that does not make the state OFF is told to its party (R71
step 4): an attempt takes FAILED_ENGINE unless an outcome is held and goes on as R58's table has it; a clear-out or trim has
its FEED over (R80); a CLEAN's levels return and cleaning ends (R79); a PROBE clears the probe run (R84); an ENGINE_RESET makes
ENGINE pending and is issued anew (R87). -/
def Obligations.EngineErrorsAreCounted : Prop :=
  let still (k : Nat) (s t : State) (counters : EngineCounters) : Prop :=
    let running := s.engine.state.running
    let count := min 255 (s.engine.errorCount + k)
    ¬(running = true ∧ 255 ≤ s.engine.errorCount + k) →
      StoreUnmarked s t ∧ Served [.engine] s t fun u =>
        u.engine = { s.engine with
          errorCount := if running then count else s.engine.errorCount,
          state := if running then stateOfCount count else s.engine.state, counters := counters } ∧
        u.notices.pending = (if running = true ∧ stateOfCount count ≠ s.engine.state then s.notices.pending ||| 64#8
          else s.notices.pending)
  (∀ s : State, Works s →
    let counters := { s.engine.counters with crcErrors := min 65535 (s.engine.counters.crcErrors + 1) }
    ∃ t, exec .engineBadFrame s = .next t ∧ ErrorsAdded 4 s t ∧ t.engine.counters = counters ∧ still 4 s t counters) ∧
  (∀ (c : Instr) (tag : Byte) (r : Report) (s : State), reportOf c = some (tag, r) → Works s →
    (∀ o, s.engine.outstanding = some o → o.tag = tag → r.answers o.command = false) → s.engine.expiredTag ≠ some tag →
    let counters := { s.engine.counters with mismatches := min 65535 (s.engine.counters.mismatches + 1) }
    ∃ t, exec c s = .next t ∧ ErrorsAdded 2 s t ∧ t.engine.counters = counters ∧ still 2 s t counters) ∧
  ∀ (s : State) (o : Outstanding), Works s → s.engine.outstanding = some o →
    ∃ t, exec .engineCommandTimeout s = .next t ∧ ErrorsAdded 8 s t ∧ t.engine.expiredTag = some o.tag ∧
      t.engine.counters = { s.engine.counters with timeouts := min 65535 (s.engine.counters.timeouts + 1) } ∧
      (∀ n, t.engine.outstanding = some n → n.tag = s.engine.nextTag) ∧
      (o.party = .startUp → s.engine.state = .starting → s.holder = .idle →
        t.notices.pending &&& 64#8 = 64#8 ∧ t.engine.outstanding = some
          { command := .engineReset, tag := s.engine.nextTag, party := .startUp,
            frame := frameBytes 0xA6 s.engine.nextTag [] }) ∧
      (¬(s.engine.state.running = true ∧ 247 ≤ s.engine.errorCount) →
        Served [.engine, .holder, .ink] s t fun u =>
          u.engine = { s.engine with
            outstanding := none, expiredTag := some o.tag,
            counters := { s.engine.counters with timeouts := min 65535 (s.engine.counters.timeouts + 1) },
            errorCount := if s.engine.state.running then s.engine.errorCount + 8 else s.engine.errorCount,
            state := if s.engine.state.running then stateOfCount (s.engine.errorCount + 8) else s.engine.state,
            probeRun := (match o.party, s.holder with
              | .probing, .probing _ => 0
              | _, _ => s.engine.probeRun) } ∧
          (u.engine.state ≠ s.engine.state ∨ o.party = .startUp → u.notices.pending &&& 64#8 = 64#8) ∧
          match o.party, s.holder with
          | .attempt, .attempt a =>
            u.ink = s.ink ∧ ∃ a', u.holder = .attempt a' ∧
              a' = { a with
                phase := a'.phase, step := a'.step, dwellRemaining := a'.dwellRemaining,
                verdict := if a.phase = .strip then .unverified else a.verdict,
                pendingOutcome := some (a.pendingOutcome.getD .failedEngine) } ∧
              a'.phase = (if a.phase ∈ [.wasteFeed, .wasteCut] then .wasteCut
                else if a.phase ∈ [.lead, .bands, .strip] ∧ 0 < a.tail then .tail
                else if a.phase ∈ [.lead, .bands, .strip, .tail] then (if a.dwell = 0 then .cut else .dwell)
                else a.phase) ∧
              a'.step = (if a.phase = .dwell then a.step else if a'.phase = .dwell then .timing else .ready) ∧
              a'.dwellRemaining = (if a.phase ∈ [.lead, .bands, .strip, .tail] ∧ a'.phase ∈ [.dwell, .cut] then a.dwell
                else a.dwellRemaining)
          | .clearOut, .clearOut k => u.ink = s.ink ∧
            u.holder = .clearOut { k with feedOver := k.feedOver || decide (o.command ≠ .cut) }
          | .trim, .trim k => u.ink = s.ink ∧
            u.holder = .trim { k with feedOver := k.feedOver || decide (o.command ≠ .cut) }
          | .cleaning, .cleaning _ => u.ink = s.inkEnded ∧ u.holder = .idle
          | _, _ => u.ink = s.ink ∧ u.holder = s.holder)

/-- R83, with R60, R61, R79 and R80: when the error count reaches 255, by a bad frame from 251 up, by a mismatched report from
253 up or by a timeout from 247 up, the outstanding command is abandoned with its tag expired, whatever holds the slot ends,
with its postings, its order, its paper and its cleaning levels as those rules give, the probe run is 0, ENGINE is pending, and
probing begins with a PROBE when auto-recovery is on. -/
def Obligations.OffEndsTheHolder : Prop :=
  ∀ s : State, Works s → s.engine.state.running = true →
    let off (t : State) (counters : EngineCounters) : Prop :=
      HolderEnded s t ∧ t.notices.pending &&& 64#8 = 64#8 ∧
        t.holder = (if s.engine.autoRecovery then .probing false else .idle) ∧
        t.engine = { s.engine with
          state := .off, errorCount := 255, probeRun := 0, counters := counters,
          expiredTag := (match s.engine.outstanding with | some o => some o.tag | none => s.engine.expiredTag),
          nextTag := if s.engine.autoRecovery then s.engine.nextTag + 1 else s.engine.nextTag,
          outstanding := if s.engine.autoRecovery then some
            { command := .probe, tag := s.engine.nextTag, party := .probing,
              frame := frameBytes 0xA5 s.engine.nextTag [] } else none }
    (251 ≤ s.engine.errorCount → ∃ t, exec .engineBadFrame s = .next t ∧
      off t { s.engine.counters with crcErrors := min 65535 (s.engine.counters.crcErrors + 1) }) ∧
    (253 ≤ s.engine.errorCount → ∀ (c : Instr) (tag : Byte) (r : Report), reportOf c = some (tag, r) →
      (∀ o, s.engine.outstanding = some o → o.tag = tag → r.answers o.command = false) →
      s.engine.expiredTag ≠ some tag →
      ∃ t, exec c s = .next t ∧
        off t { s.engine.counters with mismatches := min 65535 (s.engine.counters.mismatches + 1) }) ∧
    (247 ≤ s.engine.errorCount → s.engine.outstanding ≠ none → ∃ t, exec .engineCommandTimeout s = .next t ∧
      off t { s.engine.counters with timeouts := min 65535 (s.engine.counters.timeouts + 1) })

/-- R38, R73, R94, R95 and R174: a late report clears the expired tag and is counted; its ink is drawn and posted to account
0 at current prices and its pulses move a declared roll's position, with ROLL_END where it is reached; a change of a supply
state or of the position re-evaluates the orders (R17), and the slot, when free, has its turn; the error count stays as it is
and no other category goes pending. R46 and R95: the correct
report of a command whose party a roll removal ended, or whose probing AUTO_RECOVERY_SET ended, draws its ink and does nothing
else; that its ink is not posted is DEDUCED (log entry 15). -/
def Obligations.LateReportsAreApplied : Prop :=
  (∀ (c : Instr) (tag : Byte) (r : Report) (s : State) (cmd : EngineCommand), reportOf c = some (tag, r) →
    Awaits s cmd .ended tag → r.answers cmd = true → EngineCounted s →
    let v (d : Vector Drops 12) (k : Fin 12) : Nat :=
      d[k].small.toNat * s.ink.sizes.small + d[k].medium.toNat * s.ink.sizes.medium +
        d[k].large.toNat * s.ink.sizes.large
    ∃ t, exec c s = .next t ∧ MarkedIf (t.retained ≠ s.retained) s t ∧ Served [.engine, .ink, .orders] s t fun u =>
      Forgiven s u ∧ OrdersFollow s.orders s u ∧
        u.ink = (match r.drops? with
          | some d => s.inkDrawn (v d)
          | none => s.ink) ∧
        OnlyRaised s u fun
          | .order => EligibilityMoved s u
          | .supply => ∃ k : Fin 12, u.ink.channels[k].supply ≠ s.ink.channels[k].supply
          | .engine => u.engine.state ≠ s.engine.state
          | _ => False) ∧
  ∀ (c : Instr) (tag : Byte) (r : Report) (s : State), reportOf c = some (tag, r) → Works s →
    (∀ o, s.engine.outstanding = some o → o.tag = tag → r.answers o.command = false) → s.engine.expiredTag = some tag →
    let ink (v : State) : State := match r.drops? with | some d => v.drawAll (s.volumes d) | none => v
    let posts : Prop := match r.drops? with | some d => ∃ k : Fin 12, (s.volumes d)[k] ≠ 0 | none => False
    ∃ t, exec c s = .next t ∧ t.engine.expiredTag = none ∧ t.engine.errorCount = s.engine.errorCount ∧
      t.engine.state = s.engine.state ∧
      t.engine.counters = { s.engine.counters with lateReports := min 65535 (s.engine.counters.lateReports + 1) } ∧
      t.media.roll = (match s.media.roll.declared, r.pulses? with
        | true, some pulses =>
          { s.media.roll with position := min (s.media.roll.length * 40) (s.media.roll.position + pulses) }
        | _, _ => s.media.roll) ∧
      t.ink.bays = (ink s).ink.bays ∧ t.uncut = s.uncut ∧ t.colour = s.colour ∧ t.editions = s.editions ∧
      (s.engine.outstanding ≠ none → t.ink = (ink s).ink ∧ t.holder = s.holder) ∧
      MarkedIf (posts ∨ t.media.roll ≠ s.media.roll) s t ∧
      Served [.engine, .ink, .costs, .media, .orders] s t (fun u =>
        u.engine = { s.engine with
          expiredTag := none,
          counters := { s.engine.counters with lateReports := min 65535 (s.engine.counters.lateReports + 1) } } ∧
        u.ink = (match r.drops? with | some d => s.inkDrawn fun k => (s.volumes d)[k] | none => s.ink) ∧
        u.costs = t.costs ∧ CostNoted s u ∧ OrdersFollow s.orders s u ∧
        (match r.pulses? with
          | some p => PaperMoved s u false 0 p ((s.attempt?).map (·.reference))
          | none => u.media = s.media) ∧
        OnlyRaised s u fun
          | .order => EligibilityMoved s u
          | .supply => ∃ k : Fin 12, u.ink.channels[k].supply ≠ s.ink.channels[k].supply
          | .media => u.media.condition ≠ s.media.condition ∨ s.reachesEnd (r.pulses?.getD 0) = true
          | .cost => posts ∧ u.costs.accounts[(0 : Fin 64)].saturated = true
          | _ => False) ∧
      t.costs = (match r.drops? with
        | none => s.costs
        | some d =>
          if ∃ k : Fin 12, (s.volumes d)[k] ≠ 0 then
            { s.costs with accounts := s.costs.accounts.set 0 (s.costs.accounts[(0 : Fin 64)].posted
              { ink := inkFigure (s.volumes d) s.costs.prices.ink,
                inkSaturated := inkSaturates (s.volumes d) s.costs.prices.ink }) }
          else s.costs)

/-- R75 and R87: READY leaves the state OK with the count and the probe run at 0, the cover open and the start-up reports
flag set. R84: a PROBE_ACK in OFF advances the probe run, and the sixteenth makes the state OK with the count and the run at 0
and ends probing; the next PROBE is issued one second after the last, a PROBE still outstanding having timed out (log entry
7). -/
def Obligations.ReadyAndProbing : Prop :=
  (∀ (s : State) (tag : Byte), Awaits s .engineReset .startUp tag → s.holder = .idle → EngineCounted s →
    ∃ t, exec (.ready tag) s = .next t ∧ Keeps (.engine :: linkBlocks) s t ∧ t.notices.pending = s.notices.pending ||| 64#8 ∧
      t.engine = { s.engine with
        state := .ok, errorCount := 0, probeRun := 0, outstanding := none, coverClosed := false, startUpFlag := true,
        rollNoted := false, coverNoted := false }) ∧
  (∀ (s : State) (tag : Byte), Awaits s .probe .probing tag → s.holder = .probing false → s.engine.state = .off →
    (s.engine.probeRun < 15 →
      ∃ t, exec (.probeAck tag) s = .next t ∧ Keeps (.engine :: linkBlocks) s t ∧ NoticesKept s t ∧
        t.engine = { s.engine with outstanding := none, probeRun := s.engine.probeRun + 1 }) ∧
    (15 ≤ s.engine.probeRun →
      ∃ t, exec (.probeAck tag) s = .next t ∧ Served [.engine, .holder] s t fun u =>
        u.engine = { s.engine with outstanding := none, probeRun := 0, errorCount := 0, state := .ok } ∧
          u.holder = .idle ∧ u.notices.pending = s.notices.pending ||| 64#8)) ∧
  ∀ (s : State) (due : Bool), Works s → s.holder = .probing due → s.engine.state = .off →
    (∀ o, s.engine.outstanding = some o → o.party = .probing) →
    ∃ t, exec .probeInterval s = .next t ∧ Keeps ([.engine, .holder] ++ linkBlocks) s t ∧ NoticesKept s t ∧
      t.holder = .probing false ∧
      t.engine = { s.engine with
        nextTag := s.engine.nextTag + 1,
        outstanding := some { command := .probe, tag := s.engine.nextTag, party := .probing,
                              frame := frameBytes 0xA5 s.engine.nextTag [] },
        expiredTag := (match s.engine.outstanding with | some o => some o.tag | none => s.engine.expiredTag),
        probeRun := (if s.engine.outstanding = none then s.engine.probeRun else 0),
        counters := (if s.engine.outstanding = none then s.engine.counters
          else { s.engine.counters with timeouts := min 65535 (s.engine.counters.timeouts + 1) }) }

/-- R78, R79, R44, R45 and R84: what the slot gives when nobody holds it and no command is outstanding, in the order of the
arbiter: ENGINE_RESET in STARTING; a PROBE in OFF with recovery active; then, with the cover closed and the start-up reports
in, a clear-out, a CLEAN, a trim, a selection when not paused and in OK or WARN. With a command outstanding it gives nothing.
A holder's next command (R77): a clear-out or trim whose FEED is over issues its CUT with the cover closed and waits while it is
open; probing that is due issues a PROBE. R69, R70 and R224: an issue takes the next tag, and its frame carries the command's
fields. -/
def Obligations.ArbiterServesInOrder : Prop :=
  (∀ s : State, s.engine.outstanding ≠ none → s.serveSlot = s) ∧
  (∀ (s : State) (cmd : EngineCommand) (party : Party),
    let frame (tag : Byte) : List Byte := match cmd with
      | .feed n => frameBytes 0xA0 tag (u32 n)
      | .band order attempt index length gains =>
        frameBytes 0xA1 tag (word32 order ++ u8 attempt ++ u16 index ++ u8 length ++ gains.toList.flatMap u16)
      | .strip order attempt margin gains =>
        frameBytes 0xA2 tag (word32 order ++ u8 attempt ++ u8 margin ++ gains.toList.flatMap u16)
      | .cut => frameBytes 0xA3 tag []
      | .clean levels => frameBytes 0xA4 tag (levels.toList.flatMap u8)
      | .probe => frameBytes 0xA5 tag []
      | .engineReset => frameBytes 0xA6 tag []
    s.issue cmd party = { s with engine := { s.engine with
      nextTag := s.engine.nextTag + 1,
      outstanding := some { command := cmd, tag := s.engine.nextTag, party := party, frame := frame s.engine.nextTag } } }) ∧
  (∀ (s : State) (k : Task), s.quiet = none → s.engine.outstanding = none →
    let command : EngineCommand := if k.feedOver = false ∧ 0 < k.length then .feed k.length else .cut
    (s.holder = .clearOut k → s.serveSlot = if s.engine.coverClosed then s.issue command .clearOut else s) ∧
    (s.holder = .trim k → s.serveSlot = if s.engine.coverClosed then s.issue command .trim else s) ∧
    (s.holder = .probing true → s.serveSlot = (s.issue .probe .probing).setHolder (.probing false)) ∧
    (s.holder = .probing false ∨ (∃ levels, s.holder = .cleaning levels) → s.serveSlot = s)) ∧
  ∀ s : State, s.quiet = none → s.engine.outstanding = none → s.holder = .idle →
    let cleanable := ∃ c : Fin 12, 0 < s.ink.channels[c].cleaning ∧ s.ink.channels[c].supply ∈ [.supplied, .low, .reserve]
    let may := s.engine.state ∈ [.ok, .warn, .limited] ∧ s.engine.coverClosed = true ∧ s.engine.startUpFlag = false
    (s.engine.state = .starting → s.serveSlot = s.issue .engineReset .startUp) ∧
    (s.engine.state = .off →
      s.serveSlot = if s.engine.autoRecovery then (s.issue .probe .probing).setHolder (.probing false) else s) ∧
    (s.engine.state ∉ [.starting, .off] → ¬may → s.serveSlot = s) ∧
    (may → s.media.roll.clearOutPending = true →
      let tail := match s.media.kinds[s.media.roll.mediaKind] with | some m => m.tail | none => 0
      s.serveSlot = (s.setHolder (.clearOut { length := tail, feedOver := false, pulses := none })).issue
        (if 0 < tail then .feed tail else .cut) .clearOut) ∧
    (may → s.media.roll.clearOutPending = false → cleanable →
      let levels : Vector Nat 12 := Vector.ofFn fun c =>
        if s.ink.channels[c].supply ∈ [.supplied, .low, .reserve] then s.ink.channels[c].cleaning else 0
      s.serveSlot = ((s.setInk { s.ink with channels := Vector.ofFn fun c =>
          if s.ink.channels[c].supply ∈ [.supplied, .low, .reserve] then { s.ink.channels[c] with cleaning := 0 }
          else s.ink.channels[c] }).setHolder (.cleaning levels)).issue (.clean levels) .cleaning) ∧
    (may → s.media.roll.clearOutPending = false → ¬cleanable →
      (∀ n, s.engine.pendingTrim = some n → 0 < n →
        s.serveSlot = ((s.setEngine { s.engine with pendingTrim := none }).setHolder
          (.trim { length := n, feedOver := false, pulses := none })).issue (.feed n) .trim) ∧
      (s.engine.pendingTrim = none → s.orders.paused = true ∨ s.engine.state = .limited → s.serveSlot = s) ∧
      (s.engine.pendingTrim = none → s.orders.paused = false → s.engine.state ≠ .limited →
        s.reevaluate.orders.choose = none → s.serveSlot = s.reevaluate))

/-- R18 and R48: a selection takes, among the QUEUED orders on the arrival list, one of the highest priority, the earliest of
those, and none only when no listed order is QUEUED; its order becomes ACTIVE with its attempt counted and ORDER pending, and
the attempt captures its placement, margins, band length, gains and prices. R17 and R78 use 6: when the slot comes to a
selection, every waiting order is re-evaluated, the chosen order's attempt starts, and its first command follows. -/
def Obligations.SelectionStartsAttempt : Prop :=
  (∀ (b : OrderBlock) (i : Fin 40) (o : Order), b.arrival.Nodup → b.choose = some (i, o) →
    i ∈ b.arrival ∧ b.slots[i] = some o ∧ o.state = .queued ∧
      ∀ (j : Fin 40) (x : Order), j ∈ b.arrival → b.slots[j] = some x → x.state = .queued →
        x.priority < o.priority ∨ (x.priority = o.priority ∧ b.arrival.idxOf i ≤ b.arrival.idxOf j)) ∧
  (∀ b : OrderBlock, b.choose = none ↔
    ∀ (j : Fin 40) (x : Order), j ∈ b.arrival → b.slots[j] = some x → x.state ≠ .queued) ∧
  (∀ s : State,
    let after (o : Order) : Order :=
      if o.state ∈ [.queued, .held] then
        { o with state := if s.holdReasons o = {} then .queued else .held, holds := s.holdReasons o }
      else o
    Keeps [.orders, .notices, .server] s s.reevaluate ∧
      s.reevaluate.orders = { s.orders with slots := Vector.ofFn fun i => (s.orders.slots[i]).map after } ∧
      s.reevaluate.notices.pending =
        (if ∃ i : Fin 40, (s.orders.slots[i]).any (fun o => decide ((after o).state ≠ o.state)) = true
          then s.notices.pending ||| 1#8 else s.notices.pending)) ∧
  (∀ (s : State) (i : Fin 40) (o : Order), s.quiet = none → s.engine.outstanding = none → s.holder = .idle →
    s.engine.state ∈ [.ok, .warn] → s.engine.coverClosed = true → s.engine.startUpFlag = false →
    s.media.roll.clearOutPending = false →
    (¬∃ c : Fin 12, 0 < s.ink.channels[c].cleaning ∧ s.ink.channels[c].supply ∈ [.supplied, .low, .reserve]) →
    s.engine.pendingTrim = none → s.orders.paused = false → s.reevaluate.orders.choose = some (i, o) →
    let v := s.reevaluate.startAttempt i o
    s.serveSlot = v.serveSlot ∧ ∃ a : Attempt, v.holder = .attempt a ∧ a.slot = i ∧
      (a.phase = .wasteFeed → s.serveSlot = (v.issue (.feed a.waste) .attempt).setHolder
        (.attempt { a with step := .outstanding })) ∧
      (a.phase = .lead → s.serveSlot = (v.issue (.feed a.lead) .attempt).setHolder
        (.attempt { a with step := .outstanding }))) ∧
  ∀ (s : State) (i : Fin 40) (o : Order) (m : MediaKind) (g : Fin 24) (x : GainSet),
    s.media.kinds[o.mediaKind] = some m → s.orderSet? o = some g → s.colour.gainSets[g] = some x →
    let t := s.startAttempt i o
    let need := m.lead + o.printLength + (if o.check then m.stripMargin else 0) + m.tail
    let band := if m.bandLength ∈ [10, 20, 25, 40, 50, 100] then m.bandLength else 25
    Keeps [.orders, .holder, .notices, .server] s t ∧ t.notices.pending = s.notices.pending ||| 1#8 ∧
      t.orders.slots[i] = some { o with state := .active, holds := {}, attemptsUsed := o.attemptsUsed + 1,
                                        firstStart := some (o.firstStart.getD s.orders.clock) } ∧
      ∃ a : Attempt, t.holder = .attempt a ∧ a.slot = i ∧ a.reference = o.reference ∧ a.number = o.attemptsUsed + 1 ∧
        a.need = need ∧ a.start = s.media.roll.placementStart need ∧
        a.waste = a.start - s.media.roll.position / 40 ∧ a.bandLength = band ∧
        a.bandsTotal = (o.printLength + band - 1) / band ∧ a.bandsDone = 0 ∧ a.lead = m.lead ∧ a.tail = m.tail ∧
        a.stripMargin = m.stripMargin ∧ a.dwell = m.dwell ∧ a.check = o.check ∧ a.gainSet = g ∧ a.gains = x.gains ∧
        a.prices = s.costs.prices ∧ a.version = s.costs.version ∧ a.tallies = Vector.replicate 12 0 ∧
        a.ownPulses = 0 ∧ a.pendingOutcome = none ∧ a.verdict = .none ∧
        a.phase = (if 0 < a.waste then .wasteFeed else if 0 < m.lead then .lead else .bands) ∧ a.step = .ready

/-! ### Tasks and attempts -/

/-- R37 to R40, R44, R45, R79, R112, R171 to R173: the FEED_DONE of a trim or clear-out moves the position and is checked for
slip; its CUT_DONE posts the measured feed and one cut to account 0, and ends a clear-out's flag; a CLEAN_DONE draws the
carried levels and posts them to account 1. Each frees the slot and forgives one error. -/
def Obligations.TaskReportsEndTasks : Prop :=
  let fed (s u : State) (n pulses : Nat) : Prop :=
    Forgiven s u ∧ PaperMoved s u true n pulses none ∧ OrdersFollow s.orders s u
  let mm (t : Task) : Nat := match t.pulses with | some p => (p + 20) / 40 | none => 0
  let ended (s u : State) (t : Task) : Prop :=
    u.holder = .idle ∧ Forgiven s u ∧ CostNoted s u ∧
      u.costs = { s.costs with accounts := s.costs.accounts.set 0 (s.costs.accounts[(0 : Fin 64)].posted
        { media := (mm t * s.costs.prices.media[s.media.roll.mediaKind] + 500) / 1000, cut := s.costs.prices.cut }) }
  (∀ (s : State) (tag : Byte) (pulses : Word32) (n : Nat) (k : Task), EngineCounted s →
    (s.holder = .trim k → Awaits s (.feed n) .trim tag →
      ∃ t, exec (.feedDone tag pulses) s = .next t ∧ Served [.engine, .holder, .media, .orders] s t fun u =>
        u.holder = .trim { k with feedOver := true, pulses := some pulses.toNat } ∧ fed s u n pulses.toNat) ∧
    (s.holder = .clearOut k → Awaits s (.feed n) .clearOut tag →
      ∃ t, exec (.feedDone tag pulses) s = .next t ∧ Served [.engine, .holder, .media, .orders] s t fun u =>
        u.holder = .clearOut { k with feedOver := true, pulses := some pulses.toNat } ∧ fed s u n pulses.toNat)) ∧
  (∀ (s : State) (tag : Byte) (k : Task), EngineCounted s →
    (s.holder = .trim k → Awaits s .cut .trim tag →
      ∃ t, exec (.cutDone tag) s = .next t ∧ StoreMarked s t ∧ Served [.engine, .holder, .costs] s t fun u =>
        ended s u k) ∧
    (s.holder = .clearOut k → Awaits s .cut .clearOut tag →
      ∃ t, exec (.cutDone tag) s = .next t ∧ StoreMarked s t ∧ Served [.engine, .holder, .costs, .media] s t fun u =>
        ended s u k ∧ u.media = { s.media with roll := { s.media.roll with clearOutPending := false } })) ∧
  ∀ (s : State) (tag : Byte) (levels : Vector Nat 12), EngineCounted s → s.holder = .cleaning levels →
    Awaits s (.clean levels) .cleaning tag → (∀ c : Fin 12, levels[c] ≤ 3) →
    let nl (c : Fin 12) : Nat := if levels[c] = 0 then 0 else if levels[c] = 1 then 80000 else
      if levels[c] = 2 then 250000 else 900000
    ∃ t, exec (.cleanDone tag) s = .next t ∧ StoreMarked s t ∧
      Served [.engine, .holder, .ink, .orders, .costs] s t fun u =>
        u.holder = .idle ∧ Forgiven s u ∧ OrdersFollow s.orders s u ∧ CostNoted s u ∧
          u.ink = s.inkDrawn (fun c => nl c * 10000) ∧
          u.costs = { s.costs with accounts := s.costs.accounts.set 1 (s.costs.accounts[(1 : Fin 64)].posted
            { ink := ((List.finRange 12).map fun c => (nl c * s.costs.prices.ink[c] + 500000) / 1000000).sum }) }

/-- R40 to R42, R49, R51 and R65: the FEED_DONE of an attempt's waste feed, lead or tail moves the position, is checked for
slip, and is recorded as waste or own pulses; pulses above 0 set the uncut marker; the next phase follows. -/
def Obligations.AttemptFeedDone : Prop :=
  ∀ (s : State) (tag : Byte) (pulses : Word32) (n : Nat) (a : Attempt), EngineCounted s → s.holder = .attempt a →
    Awaits s (.feed n) .attempt tag → a.phase ∈ [.wasteFeed, .lead, .tail] →
    let q := pulses.toNat
    let pending := if s.isSlip n q = true ∧ a.pendingOutcome = none then some .failedMedia else a.pendingOutcome
    ∃ t, exec (.feedDone tag pulses) s = .next t ∧
      Served [.engine, .holder, .media, .orders, .uncut] s t fun u =>
        Forgiven s u ∧ u.uncut = (s.uncut || decide (0 < q)) ∧ PaperMoved s u true n q (some a.reference) ∧
        OrdersFollow s.orders s u ∧
        ∃ a', u.holder = .attempt a' ∧
          a' = { a with
            pendingOutcome := pending, phase := a'.phase, step := a'.step, dwellRemaining := a'.dwellRemaining,
            wastePulses := if a.phase = .wasteFeed then q else a.wastePulses,
            ownPulses := if a.phase = .wasteFeed then a.ownPulses else min 4294967295 (a.ownPulses + q) } ∧
          a'.phase = (if a.phase = .wasteFeed then .wasteCut
            else if a.phase = .lead ∧ pending = none then .bands
            else if a.phase = .lead ∧ 0 < a.tail then .tail
            else if a.dwell = 0 then .cut else .dwell) ∧
          a'.step = (if a'.phase = .dwell then .timing else .ready) ∧
          a'.dwellRemaining = (if a'.phase = .dwell then a.dwell else if a'.phase = .cut then 0 else a.dwellRemaining)

/-- R52, R53, R56, R65 and R49: a BAND_DONE tallies and draws its ink at the drop sizes now current, moves the paper and
counts the band; a slip or the last band ends BANDS. BAND_STOPPED and STRIP_STOPPED tally, draw and move likewise, leave
INTERRUPTED unless an outcome is pending, and go on to TAIL, or the dwell; a stopped strip is UNVERIFIED. -/
def Obligations.AttemptBandReports : Prop :=
  ∀ (s : State) (tag : Byte) (pulses : Word32) (drops : Vector Drops 12) (a : Attempt) (cmd : EngineCommand),
    EngineCounted s → s.holder = .attempt a → Awaits s cmd .attempt tag →
    let q := pulses.toNat
    let v (c : Fin 12) : Nat := drops[c].small.toNat * s.ink.sizes.small + drops[c].medium.toNat * s.ink.sizes.medium +
      drops[c].large.toNat * s.ink.sizes.large
    let common (u : State) (slip : Bool) (n : Nat) (a' : Attempt) : Prop :=
      Forgiven s u ∧ u.uncut = (s.uncut || decide (0 < q)) ∧ PaperMoved s u slip n q (some a.reference) ∧
        OrdersFollow s.orders s u ∧ u.ink = s.inkDrawn v ∧
        (a'.tallySaturated = true → a.tallySaturated = false → u.notices.pending &&& 32#8 = 32#8) ∧
        u.holder = .attempt a' ∧
        a' = { a with
          phase := a'.phase, step := a'.step, dwellRemaining := a'.dwellRemaining, pendingOutcome := a'.pendingOutcome,
          bandsDone := a'.bandsDone, verdict := a'.verdict, ownPulses := min 4294967295 (a.ownPulses + q),
          tallies := Vector.ofFn fun c => min 281474976710655 (a.tallies[c] + v c),
          tallySaturated := a.tallySaturated || (List.finRange 12).any fun c =>
            decide (281474976710655 < a.tallies[c] + v c) } ∧
        a'.step = (if a'.phase = .dwell then .timing else .ready) ∧
        a'.dwellRemaining = (if a'.phase = .dwell then a.dwell else if a'.phase = .cut then 0 else a.dwellRemaining)
    let next : Phase := if 0 < a.tail then .tail else if a.dwell = 0 then .cut else .dwell
    let blocks := [Block.engine, .holder, .media, .orders, .uncut, .ink]
    (∀ (order : Word32) (number index length : Nat) (gains : Vector Nat 12),
      cmd = .band order number index length gains → a.phase = .bands →
      (∃ t, exec (.bandDone tag pulses drops) s = .next t ∧ Served blocks s t fun u => ∃ a', common u true length a' ∧
        a'.bandsDone = a.bandsDone + 1 ∧ a'.verdict = a.verdict ∧
        a'.pendingOutcome =
          (if s.isSlip length q = true ∧ a.pendingOutcome = none then some .failedMedia else a.pendingOutcome) ∧
        a'.phase = (if a'.pendingOutcome = none then
          (if a.bandsDone + 1 < a.bandsTotal then .bands else if a.check then .strip else next) else next)) ∧
      ∃ t, exec (.bandStopped tag pulses drops) s = .next t ∧ Served blocks s t fun u => ∃ a', common u false length a' ∧
        a'.bandsDone = a.bandsDone ∧ a'.verdict = a.verdict ∧
        a'.pendingOutcome = some (a.pendingOutcome.getD .interrupted) ∧ a'.phase = next) ∧
    ∀ (order : Word32) (number margin : Nat) (gains : Vector Nat 12), cmd = .strip order number margin gains →
      ∃ t, exec (.stripStopped tag pulses drops) s = .next t ∧ Served blocks s t fun u => ∃ a', common u false margin a' ∧
        a'.bandsDone = a.bandsDone ∧ a'.verdict = .unverified ∧
        a'.pendingOutcome = some (a.pendingOutcome.getD .interrupted) ∧ a'.phase = next

/-- R38 to R40, R49, R52, R53, R55, R65, R117, R122 to R126: a STRIP_DONE tallies, draws and moves the paper as a band does, and
the strip is judged against the chosen reference: UNVERIFIED without settings, reference or a patch both selected and valid,
which leaves the colour check unit as it was; PASS when neither the largest ΔE nor the rounded-down mean exceeds its tolerance;
otherwise FAIL. A judged strip's mean and largest ΔE stand in the order, the readings and the verdict in the attempt. -/
def Obligations.StripDoneIsJudged : Prop :=
  ∀ (s : State) (tag : Byte) (pulses : Word32) (drops : Vector Drops 12) (raw : Vector RawReading 16) (a : Attempt)
    (o : Order) (order : Word32) (number margin : Nat) (gains : Vector Nat 12),
    EngineCounted s → s.holder = .attempt a → s.orders.slots[a.slot] = some o → o.state = .active →
    Awaits s (.strip order number margin gains) .attempt tag → a.phase = .strip →
    let q := pulses.toNat
    let v (c : Fin 12) : Nat := drops[c].small.toNat * s.ink.sizes.small + drops[c].medium.toNat * s.ink.sizes.medium +
      drops[c].large.toNat * s.ink.sizes.large
    let readings := clampedReadings raw
    let judged : Option Judgement := s.judgement o readings
    let base : OrderBlock := match judged with
      | none => s.orders
      | some j => { s.orders with slots := s.orders.slots.set a.slot (some { o with lastStrip := some (j.mean, j.max) }) }
    let verdict : Verdict := match judged with
      | none => .unverified
      | some j => if j.passed then .pass else .fail
    ∃ t, exec (.stripDone tag pulses drops raw) s = .next t ∧
      Served [.engine, .holder, .media, .orders, .uncut, .ink, .colour] s t fun u =>
        Forgiven s u ∧ u.uncut = (s.uncut || decide (0 < q)) ∧ PaperMoved s u true margin q (some a.reference) ∧
        OrdersFollow base s u ∧ (judged = none → u.colour = s.colour ∧ u.ink = s.inkDrawn v) ∧
        ∃ a', u.holder = .attempt a' ∧
          (a'.tallySaturated = true → a.tallySaturated = false → u.notices.pending &&& 32#8 = 32#8) ∧
          a' = { a with
            phase := if 0 < a.tail then .tail else if a.dwell = 0 then .cut else .dwell,
            step := if a'.phase = .dwell then .timing else .ready,
            dwellRemaining := if a'.phase = .dwell then a.dwell else if a'.phase = .cut then 0 else a.dwellRemaining,
            pendingOutcome :=
              if s.isSlip margin q = true ∧ a.pendingOutcome = none then some .failedMedia else a.pendingOutcome,
            verdict := verdict, readings := some readings, ownPulses := min 4294967295 (a.ownPulses + q),
            tallies := Vector.ofFn fun c => min 281474976710655 (a.tallies[c] + v c),
            tallySaturated := a.tallySaturated || (List.finRange 12).any fun c =>
              decide (281474976710655 < a.tallies[c] + v c) }

/-- R95, R126 to R134 and R140 to R142: what the STRIP_DONE of a judged strip does to the attempt's gain set, its check state
and the cleaning levels. The correction moves each selected, valid channel outside the deadband by its limited step and clamps
it to 850 to 1150 with a limit flag; the ring takes the entry by capture mode and status, keeping eight, and the status
follows; drift and fail runs advance or clear; a FAIL asks for cleaning on each channel whose solid is over the tolerance; and
a fail run of 2 suspends the set. COLOUR goes pending for a clamp, a drift flag and a suspension. -/
def Obligations.JudgedStripCorrectsAndRecords : Prop :=
  ∀ (s : State) (tag : Byte) (pulses : Word32) (drops : Vector Drops 12) (raw : Vector RawReading 16) (a : Attempt)
    (o : Order) (order : Word32) (number margin : Nat) (gains : Vector Nat 12) (j : Judgement) (x : GainSet),
    EngineCounted s → s.holder = .attempt a → s.orders.slots[a.slot] = some o → o.state = .active →
    Awaits s (.strip order number margin gains) .attempt tag → a.phase = .strip →
    s.judgement o (clampedReadings raw) = some j → s.colour.gainSets[a.gainSet] = some x →
    let v (c : Fin 12) : Nat := drops[c].small.toNat * s.ink.sizes.small + drops[c].medium.toNat * s.ink.sizes.medium +
      drops[c].large.toNat * s.ink.sizes.large
    let readings := clampedReadings raw
    let solid (c : Fin 12) : Fin 16 := ⟨c.val, by omega⟩
    let measured (c : Fin 12) : Bool := j.settings.patches[c.val] && readings[solid c].valid
    let e (c : Fin 12) : Int := readings[solid c].lab.L - j.reference[solid c].L
    let moves (c : Fin 12) : Bool := x.correction && measured c && decide ((x.deadband : Int) < |e c|)
    let sum (c : Fin 12) : Int :=
      x.gains[c] + max (-(x.maxStep : Int)) (min (x.maxStep : Int) (Int.tdiv (e c * x.rate) 100))
    let bites (c : Fin 12) : Bool := moves c && decide (sum c < 850 ∨ 1150 < sum c)
    let k : CheckState := s.colour.checks[a.gainSet]
    let entry : HistoryEntry :=
      { order := a.reference, attempt := a.number, clock := s.orders.clock, passed := j.passed, mean := j.mean,
        max := j.max, worst := j.worst }
    let taken : Bool := decide (k.status = .recording) ||
      (decide (x.captureMode = .startOnFail) && decide (k.status = .waiting) && !j.passed)
    let ring : List HistoryEntry := if taken then (if k.ring.length < 8 then k.ring else k.ring.drop 1) ++ [entry]
      else k.ring
    let status : CaptureStatus :=
      if !taken then k.status
      else if x.captureMode = .stopOnFail then (if j.passed then .recording else .frozen)
      else if x.captureMode = .startOnFail ∧ k.status = .recording ∧ ring.length = 8 then .frozen
      else .recording
    let drifts : Bool := decide (j.settings.driftLevel < j.mean)
    let run : Nat := if j.passed then 0 else min 255 (k.failRun + 1)
    let suspends : Bool := decide (2 ≤ run) && !x.suspended
    let x' : GainSet :=
      { x with
        gains := Vector.ofFn fun c => if moves c then (max 850 (min 1150 (sum c))).toNat else x.gains[c],
        limitFlags := BitVec.ofFnLE fun c : Fin 12 => if moves c then bites c else x.limitFlags[c.val],
        suspended := x.suspended || suspends }
    ∃ t, exec (.stripDone tag pulses drops raw) s = .next t ∧ (x' ≠ x → StoreMarked s t) ∧
      Served [.engine, .holder, .media, .orders, .uncut, .ink, .colour] s t fun u =>
        u.colour = { s.colour with
          gainSets := s.colour.gainSets.set a.gainSet (some x'),
          checks := s.colour.checks.set a.gainSet
            { ring := ring, status := status, failRun := run,
              driftRun := if drifts then min 255 (k.driftRun + 1) else 0,
              driftFlag := drifts && (k.driftFlag || decide (k.driftRun + 1 = 5)) } } ∧
        u.ink = { s.inkDrawn v with channels := Vector.ofFn fun c =>
          let y : Channel := (s.inkDrawn v).channels[c]
          let fails : Prop := j.passed = false ∧ measured c = true ∧
            j.settings.maxTolerance < deltaE readings[solid c].lab j.reference[solid c]
          { y with cleaning := if fails then max y.cleaning (if run = 1 then 1 else 2) else y.cleaning } } ∧
        ((∃ c, bites c = true) ∨ (drifts = true ∧ k.driftRun + 1 = 5) ∨ suspends = true →
          u.notices.pending &&& 8#8 = 8#8)

/-- R50, R54, R77 and R168: an attempt's READY step waits for the cover; with it closed a FEED or CUT phase issues its
command, and a BAND or STRIP first has its boundary checks: a cancel, then a crossed ceiling that stops the order, then a DRY
or FAULT channel ends the phase with its outcome, and TAIL, or what follows it, is issued instead. R42: each second of a
running dwell lowers dwell remaining, and the one that brings it to 0 puts the attempt in its CUT phase, whose CUT is then
issued; how the two timer rows share that second is the model's choice (log entry 7). -/
def Obligations.AttemptStepsAndDwell : Prop :=
  (∀ (s : State) (a : Attempt) (o : Order), s.quiet = none → s.engine.outstanding = none → s.holder = .attempt a →
    s.orders.slots[a.slot] = some o → a.step = .ready →
    let issued (t : State) (a' : Attempt) (command : EngineCommand) : Prop :=
      t.holder = .attempt { a' with step := .outstanding } ∧ t.engine = { s.engine with
        nextTag := s.engine.nextTag + 1,
        outstanding := some { command := command, tag := s.engine.nextTag, party := .attempt,
                              frame := command.frame s.engine.nextTag } }
    let t := s.serveSlot
    (s.engine.coverClosed = false → t = s) ∧
    (s.engine.coverClosed = true → Keeps [.engine, .holder, .notices, .server] s t ∧
      (a.phase = .wasteFeed → issued t a (.feed a.waste)) ∧ (a.phase ∈ [.wasteCut, .cut] → issued t a .cut) ∧
      (a.phase = .lead → issued t a (.feed a.lead)) ∧ (a.phase = .tail → issued t a (.feed a.tail)) ∧
      (a.phase ∈ [.bands, .strip] → a.pendingOutcome = none →
        let provisional := o.cost.ownTotal +
          ((List.finRange 12).map fun c =>
            min 4294967295 ((a.tallies[c] / 10000 * a.prices.ink[c] + 500000) / 1000000)).sum +
          (a.need * a.prices.media[o.mediaKind] + 500) / 1000 + a.prices.cut + a.prices.handling
        let crossed : Bool := match o.ceiling with | some c => decide (c < provisional) | none => false
        let failed : Bool := (List.finRange 12).any fun c =>
          o.channels[c.val] && decide (s.ink.channels[c].supply ∈ [.dry, .fault])
        let outcome : Option AttemptOutcome :=
          if o.cancelRequested then some .cancelled
          else if crossed ∧ o.stopAtCeiling then some .stopped
          else if failed then some .failedSupply else none
        let a1 : Attempt :=
          { a with ceilingNoted := a.ceilingNoted || (!o.cancelRequested && crossed), pendingOutcome := outcome }
        t.notices.pending = (if a1.ceilingNoted ∧ a.ceilingNoted = false then s.notices.pending ||| 32#8
          else s.notices.pending) ∧
        (outcome = none → a.phase = .bands → issued t a1 (.band a.reference a.number (a.bandsDone + 1)
          (if a.bandsDone + 1 < a.bandsTotal then a.bandLength
            else o.printLength - (a.bandsTotal - 1) * a.bandLength) a.gains)) ∧
        (outcome = none → a.phase = .strip → issued t a1 (.strip a.reference a.number a.stripMargin a.gains)) ∧
        (outcome ≠ none → 0 < a.tail → issued t { a1 with phase := .tail } (.feed a.tail)) ∧
        (outcome ≠ none → a.tail = 0 → 0 < a.dwell → t.engine = s.engine ∧
          t.holder = .attempt { a1 with phase := .dwell, step := .timing, dwellRemaining := a.dwell }) ∧
        (outcome ≠ none → a.tail = 0 → a.dwell = 0 →
          issued t { a1 with phase := .cut, dwellRemaining := 0 } .cut)))) ∧
  (∀ (s : State) (a : Attempt), Works s → s.holder = .attempt a → a.phase = .dwell → a.step = .timing →
    (1 < a.dwellRemaining →
      ∃ t, exec .dwellSecond s = .next t ∧ Served [.holder] s t fun u =>
        u.holder = .attempt { a with dwellRemaining := a.dwellRemaining - 1 } ∧ u.notices.pending = s.notices.pending) ∧
    (a.dwellRemaining ≤ 1 →
      exec .dwellSecond s = exec .dwellEnd s ∧
        ∃ t, exec .dwellEnd s = .next t ∧ Served [.holder] s t fun u =>
          u.holder = .attempt { a with dwellRemaining := 0, phase := .cut, step := .ready } ∧
            u.notices.pending = s.notices.pending))

/-- R41, R51, R59, R60, R163 to R166, R19, R150 to R152: the CUT_DONE of the waste cut posts the waste to account 0 and goes
on; that of the final cut decides the outcome, posts the attempt at its snapshot to the order's account or to account 0,
numbers an ACCEPTED print of an edition, applies the outcome to the order, and empties the attempt record. -/
def Obligations.AttemptCutDone : Prop :=
  ∀ (s : State) (tag : Byte) (a : Attempt) (o : Order), EngineCounted s → s.holder = .attempt a →
    s.orders.slots[a.slot] = some o → o.state = .active → Awaits s .cut .attempt tag →
    (a.phase = .wasteCut →
      ∃ t, exec (.cutDone tag) s = .next t ∧ StoreMarked s t ∧
        Served [.engine, .holder, .orders, .costs, .uncut] s t fun u =>
          let media := (a.waste * s.costs.prices.media[o.mediaKind] + 500) / 1000
          Forgiven s u ∧ u.uncut = false ∧ CostNoted s u ∧
          u.costs = { s.costs with accounts := s.costs.accounts.set 0 (s.costs.accounts[(0 : Fin 64)].posted
            { media := media, cut := s.costs.prices.cut }) } ∧
          u.orders = { s.orders with slots := s.orders.slots.set a.slot (some { o with cost := { o.cost with
            spoiledTotal := min 281474976710655 (o.cost.spoiledTotal + (media + s.costs.prices.cut)) } }) } ∧
          ∃ a', u.holder = .attempt a' ∧ a' = { a with
            phase := if a.pendingOutcome = none then (if 0 < a.lead then .lead else .bands)
              else if 0 < a.tail then .tail else if a.dwell = 0 then .cut else .dwell,
            step := if a'.phase = .dwell then .timing else .ready,
            dwellRemaining := if a'.phase = .dwell then a.dwell else if a'.phase = .cut then 0 else a.dwellRemaining }) ∧
    (a.phase = .cut →
      let outcome : AttemptOutcome := match a.pendingOutcome with
        | some x => x
        | none => if o.cancelRequested then .cancelled
          else if a.check = false ∨ a.verdict = .pass then .accepted else .rejected
      let own : Bool := match outcome with
        | .accepted | .cancelled | .stopped => true
        | _ => false
      let inkCost (c : Fin 12) : Nat := (a.tallies[c] / 10000 * a.prices.ink[c] + 500000) / 1000000
      let posting : Posting :=
        { ink := ((List.finRange 12).map fun c => min 4294967295 (inkCost c)).sum,
          media := ((a.ownPulses + 20) / 40 * a.prices.media[o.mediaKind] + 500) / 1000, cut := a.prices.cut,
          handling := if outcome = .accepted then a.prices.handling else 0, attempts := 1,
          prints := if outcome = .accepted then 1 else 0,
          inkSaturated := (List.finRange 12).any fun c => decide (4294967295 < inkCost c) }
      let account : Fin 64 := if own then o.account else 0
      let final : Option OrderState := match outcome with
        | .accepted => some .completed
        | .cancelled => some .cancelled
        | .stopped => some .stopped
        | _ => if o.cancelRequested then some .cancelled
          else if o.attemptsUsed < o.attemptsAllowed then none else some .failed
      let kindReference (k : Fin 8) : Option (Vector Lab 16) := match s.colour.settings[k] with
        | none => none
        | some x => x.reference
      let numbered : Option (Fin 16 × Edition) := match outcome, o.edition with
        | .accepted, some ref => match s.findEdition ref with
          | none => none
          | some i => match s.editions[i] with
            | none => none
            | some e => some (i, e)
        | _, _ => none
      let past : Bool := match o.deadline with | some d => decide (d.toNat ≤ s.orders.clock.toNat) | none => false
      let total := posting.ink + posting.media + posting.cut + posting.handling
      let o1 : Order := { o with
        lastOutcome := some outcome,
        editionNumber := (match numbered with | some (_, e) => some (e.accepted + 1) | none => o.editionNumber),
        cost := if own then
            { o.cost with
              ownInk := min 281474976710655 (o.cost.ownInk + posting.ink),
              ownMedia := min 281474976710655 (o.cost.ownMedia + posting.media),
              ownCut := min 281474976710655 (o.cost.ownCut + posting.cut),
              handling := min 281474976710655 (o.cost.handling + posting.handling),
              ownTotal := min 281474976710655 (o.cost.ownTotal + total) }
          else { o.cost with spoiledTotal := min 281474976710655 (o.cost.spoiledTotal + total) } }
      ∃ t, exec (.cutDone tag) s = .next t ∧ StoreMarked s t ∧
        Served [.engine, .holder, .orders, .costs, .uncut, .editions] s t fun u =>
          Forgiven s u ∧ u.uncut = false ∧ u.holder = .idle ∧ CostNoted s u ∧ LateNoted s u ∧
          u.costs = { s.costs with accounts := s.costs.accounts.set account (s.costs.accounts[account].posted posting) } ∧
          u.notices.pending &&& 1#8 = 1#8 ∧
          u.orders = (match final with
            | some x => { s.orders with
              slots := s.orders.slots.set a.slot (some { o1 with
                state := x, holds := {}, endTime := some s.orders.clock, cancelRequested := false,
                late := o.late || past }),
              arrival := s.orders.arrival.filter fun j => j != a.slot }
            | none => { s.orders with slots := s.orders.slots.set a.slot (some { o1 with
                state := if s.holdReasons o = {} then .queued else .held, holds := s.holdReasons o }) }) ∧
          u.editions = (match numbered with
            | none => s.editions
            | some (i, e) => s.editions.set i (some { e with
                accepted := e.accepted + 1,
                readings := if e.state = .opened then
                    (match a.readings, kindReference e.mediaKind with
                      | some r, some k => some (Vector.ofFn fun p => if r[p].valid then r[p].lab else k[p])
                      | _, _ => none)
                  else e.readings,
                fixedAt := if e.state = .opened then some s.orders.clock else e.fixedAt,
                state := if e.accepted + 1 = e.size then .complete else if e.state = .opened then .fixed
                  else e.state })))

/-! ### Engine events -/

/-- R30, R33, R46 and R75: ROLL_EVENT present marks the roll present; absent for a declared roll undeclares it, clears the
clear-out and the pending trim, records ROLL_REMOVED and ends whatever used the roll, an attempt with FAILED_MEDIA: its
postings, and the measured feed of a trim, go to account 0 (R61, R170, R171), and the re-evaluation holds every waiting order
with NO_ROLL (R16, R17). For a declaration loaded at the start, whose roll has not been reported, absent does so once the state
is not STARTING (R67, R219; log entry 21); any other absent only marks the roll absent. COVER_EVENT sets the cover. Each is
noted as a start-up report; another byte is not used; the slot is then served. -/
def Obligations.RollAndCoverEvents : Prop :=
  let noted (e : EngineLink) (roll : Bool) : EngineLink :=
    if e.startUpFlag = true ∧ e.state ≠ .starting then
      { e with rollNoted := e.rollNoted || roll, coverNoted := e.coverNoted || !roll,
               startUpFlag := !((e.rollNoted || roll) && (e.coverNoted || !roll)) }
    else e
  ∀ s : State, Works s →
    (∃ t, exec (.rollEvent 1) s = .next t ∧ Served [.media, .engine] s t fun u =>
      u.media = { s.media with present := true } ∧ u.engine = noted s.engine true ∧
        u.notices.pending = s.notices.pending) ∧
    (∀ b : Byte, b = 0 ∨ b = 1 → ∃ t, exec (.coverEvent b) s = .next t ∧ Served [.engine] s t fun u =>
      u.engine = noted { s.engine with coverClosed := b == 1 } false ∧ u.notices.pending = s.notices.pending) ∧
    (∀ b : Byte, b ≠ 0 → b ≠ 1 →
      exec (.rollEvent b) s = .next s.closeStep ∧ exec (.coverEvent b) s = .next s.closeStep) ∧
    let removal := s.media.roll.declared = true ∧ (s.media.present = true ∨ s.engine.state ≠ .starting)
    (¬removal →
      ∃ t, exec (.rollEvent 0) s = .next t ∧ Served [.media, .engine] s t fun u =>
        u.media = { s.media with present := false } ∧ u.engine = noted s.engine true ∧
          u.notices.pending = s.notices.pending) ∧
    (removal →
      let order := match s.holder with | .attempt a => some a.reference | _ => none
      let uses := s.holder.activityCode ∈ [1, 2, 4]
      let base := s.ordersEnded .failedMedia
      ∃ t, exec (.rollEvent 0) s = .next t ∧ StoreMarked s t ∧
        Served [.media, .engine, .holder, .orders, .costs, .uncut] s t fun u =>
          u.media = { s.media with
            present := false, roll := { s.media.roll with declared := false, clearOutPending := false },
            condition := some { event := .rollRemoved, clock := s.orders.clock, order := order } } ∧
          u.notices.pending &&& 16#8 = 16#8 ∧
          u.holder = (if uses then .idle else s.holder) ∧
          u.engine = noted { s.engine with
            pendingTrim := none,
            outstanding := if uses then s.engine.outstanding.map (fun x =>
              if x.party ∈ [.attempt, .clearOut, .trim] then { x with party := .ended } else x)
              else s.engine.outstanding } true ∧
          u.costs = s.costsEnded true ∧ CostNoted s u ∧ LateNoted s u ∧
          u.uncut = (match s.holder with | .attempt _ => false | _ => s.uncut) ∧
          u.orders = { base with slots := Vector.ofFn fun i => u.reevaluatedSlot base.slots[i] } ∧
          (∀ (i : Fin 40) (o : Order), u.orders.slots[i] = some o → o.state.waiting = true →
            o.state = .held ∧ o.holds = { noRoll := true, supply := o.holds.supply,
                                          colourSuspended := o.holds.colourSuspended }) ∧
          ((∃ a, s.holder = .attempt a ∧ s.orders.slots[a.slot] ≠ none) ∨
              (∃ i : Fin 40, u.movesSlot s.orders.slots[i] = true) → u.notices.pending &&& 1#8 = 1#8) ∧
          ∀ (a : Attempt) (o : Order), s.holder = .attempt a → s.orders.slots[a.slot] = some o → o.state = .active →
            ∃ o', u.orders.slots[a.slot] = some o' ∧ o'.lastOutcome = some .failedMedia ∧
              (if o.cancelRequested then o'.state = .cancelled
               else if o.attemptsUsed < o.attemptsAllowed then o'.state = .held else o'.state = .failed))

/-- R99 to R101 and R107: a LEVELS event with another byte than 0 to 3 is not used; otherwise each sample becomes its
channel's last level and moves its three runs. At 8 LOW samples the active bay of a SUPPLIED or LOW channel, present and not
empty, is declared empty, at 8 EMPTY samples a SUPPLIED, LOW or RESERVE channel becomes DRY, and at 32 FULL samples a refill
completes: the reserve is full, its top-up taken from the refill bay, the state evaluated and a level 1 cleaning asked for.
Each of these makes SUPPLY pending and marks the store, and a changed supply state re-evaluates the orders; nothing else
changes. -/
def Obligations.LevelSamples : Prop :=
  ∀ (s : State) (x : Vector Byte 12), Works s →
    ((∃ c : Fin 12, 3 < x[c].toNat) → ∃ t, exec (.levels x) s = .next t ∧ Served [] s t fun u =>
      u.notices.pending = s.notices.pending) ∧
    ((∀ c : Fin 12, x[c].toNat ≤ 3) →
      let level (c : Fin 12) : Level := if x[c] = 0 then .full else if x[c] = 1 then .normal else if x[c] = 2 then .low
        else .empty
      let run (hit : Bool) (n limit : Nat) : Nat := if hit then min limit (n + 1) else 0
      let y (c : Fin 12) : Channel :=
        { s.ink.channels[c] with
          lastLevel := some (level c), lowRun := run (level c == .low) s.ink.channels[c].lowRun 8,
          emptyRun := run (level c == .empty) s.ink.channels[c].emptyRun 8,
          fullRun := run (level c == .full) s.ink.channels[c].fullRun 32 }
      let active (c : Fin 12) : Bay := s.ink.bays[bayOf c (y c).active]
      let empties (c : Fin 12) : Prop := level c = .low ∧ (y c).lowRun = 8 ∧ (y c).supply ∈ [.supplied, .low] ∧
        (active c).present = true ∧ 0 < (active c).remaining
      let dries (c : Fin 12) : Prop := level c = .empty ∧ (y c).emptyRun = 8 ∧ (y c).supply ∈ [.supplied, .low, .reserve]
      let fills (c : Fin 12) : Prop := level c = .full ∧ (y c).fullRun = 32 ∧ (y c).supply = .refilling
      let acts := ∃ c : Fin 12, empties c ∨ dries c ∨ fills c
      let held (b : Bay) : Nat := if b.present && !b.declaredEmpty then b.remaining else 0
      let state (u : State) (c : Fin 12) (reserve : Nat) : SupplyState :=
        let sum := held u.ink.bays[bayOf c .first] + held u.ink.bays[bayOf c .second]
        if 0 < sum then (if sum < (y c).lowThreshold then .low else .supplied) else if 0 < reserve then .reserve else .dry
      ∃ t, exec (.levels x) s = .next t ∧ MarkedIf acts s t ∧ Served [.ink, .orders] s t fun u =>
        u.ink.sizes = s.ink.sizes ∧ OrdersFollow s.orders s u ∧ (acts → u.notices.pending &&& 4#8 = 4#8) ∧
          (¬acts → u.notices.pending = s.notices.pending) ∧
          ∀ c : Fin 12,
            let same (side : BaySide) : Prop := u.ink.bays[bayOf c side] = s.ink.bays[bayOf c side]
            (empties c →
              u.ink.bays[bayOf c (y c).active] =
                  { active c with unaccounted := (active c).remaining, remaining := 0, declaredEmpty := true } ∧
                same (y c).active.other ∧
                u.ink.channels[c] =
                  { y c with active := (y c).active.other, lowRun := 0, supply := state u c (y c).reserve }) ∧
            (dries c → same .first ∧ same .second ∧
              u.ink.channels[c] = { y c with supply := .dry, reserve := 0, emptyRun := 0 }) ∧
            (fills c →
              (∀ side : BaySide,
                let b : Bay := s.ink.bays[bayOf c side]
                let topUp : Nat := if (y c).refillBay = some side then 25000000 - (y c).reserve else 0
                u.ink.bays[bayOf c side] = { b with remaining := b.remaining - topUp }) ∧
                u.ink.channels[c] =
                  { y c with reserve := 25000000, refillElapsed := 0, refillBay := none, fullRun := 0,
                             supply := state u c 25000000, cleaning := max (y c).cleaning 1 }) ∧
            (¬empties c → ¬dries c → ¬fills c → same .first ∧ same .second ∧ u.ink.channels[c] = y c))

/-- R96, R98, R102 to R105 and R225: a BAY_EVENT for a new serial number writes the bay record with its fill brought into 100
to 1,000 mL, the active bay staying as it is; a known one is marked present. A SUPPLIED or LOW channel is then evaluated, and
a RESERVE or DRY one with a supplying bay refills from it. Absent marks the bay absent, the active bay switches, a SUPPLIED or
LOW channel is evaluated, and a refill that loses its bay goes on from the other or becomes FAULT. The store is marked when a
retained field changes, a changed supply state makes SUPPLY pending and re-evaluates the orders (R17), and nothing else
changes. A bay above 23 or a present byte above 1 is not used. That absent does nothing for a bay already absent is the
model's choice (log entry 22). -/
def Obligations.BayEvents : Prop :=
  ∀ (s : State) (bay present : Byte) (serial : Vector Byte 12) (lot : Vector Byte 8) (fill : Word32), Works s →
    (23 < bay.toNat ∨ 1 < present.toNat → ∃ t, exec (.bayEvent bay present serial lot fill) s = .next t ∧
      Served [] s t fun u => u.notices.pending = s.notices.pending) ∧
    ∀ (b : Fin 24) (k : Fin 12) (side : BaySide), bay.toNat = b.val → b = bayOf k side →
      let old := s.ink.bays[b]
      let c := s.ink.channels[k]
      let holds (x : Bay) : Nat := if x.present && !x.declaredEmpty then x.remaining else 0
      let other := holds s.ink.bays[bayOf k side.other]
      let state (here : Nat) : SupplyState :=
        if 0 < here + other then (if here + other < c.lowThreshold then .low else .supplied)
        else if 0 < c.reserve then .reserve else .dry
      let follows (held : Bay) (x : Channel) (clamped : Prop) (t : State) : Prop :=
        MarkedIf (held ≠ old ∨ x.retained ≠ c.retained) s t ∧ Served [.ink, .orders] s t fun u =>
          u.ink = { s.ink with bays := s.ink.bays.set b held, channels := s.ink.channels.set k x } ∧
          OrdersFollow s.orders s u ∧ (clamped → u.notices.pending &&& 4#8 = 4#8) ∧
          OnlyRaised s u fun
            | .supply => clamped ∨ x.supply ≠ c.supply
            | .order => x.supply ≠ c.supply ∧ ∃ i : Fin 40, u.movesSlot s.orders.slots[i] = true
            | _ => False
      (present = 1 →
        let nl := max 100000000 (min 1000000000 fill.toNat)
        let held : Bay :=
          if serial = old.serial then { old with present := true }
          else { present := true, serial := serial, lot := lot, fill := nl, remaining := nl, declaredEmpty := false,
                 unaccounted := 0, insertedAt := s.orders.clock }
        let x : Channel :=
          if c.supply ∈ [.supplied, .low] then { c with supply := state (holds held) }
          else if c.supply ∈ [.reserve, .dry] ∧ 0 < holds held then
            { c with supply := .refilling, refillBay := some side, active := side, refillElapsed := 0, fullRun := 0,
                     lowRun := 0, emptyRun := 0 }
          else c
        ∃ t, exec (.bayEvent bay present serial lot fill) s = .next t ∧
          follows held x (serial ≠ old.serial ∧ nl ≠ fill.toNat) t) ∧
      (present = 0 → old.present = true →
        let active := if c.active = side then side.other else c.active
        let x : Channel :=
          if c.supply ∈ [.supplied, .low] then { c with active := active, supply := state 0 }
          else if c.supply = .refilling ∧ c.refillBay = some side then
            (if 0 < other then { c with active := side.other, refillBay := some side.other }
              else { c with active := active, supply := .fault, refillBay := none })
          else { c with active := active }
        ∃ t, exec (.bayEvent bay present serial lot fill) s = .next t ∧ follows { old with present := false } x False t) ∧
      (present = 0 → old.present = false →
        ∃ t, exec (.bayEvent bay present serial lot fill) s = .next t ∧ Served [] s t fun u =>
          u.notices.pending = s.notices.pending)

/-! ### Numbers -/

/-- R25, R34 and R35: a placement starts at the first millimetre at or after the position whose region meets no active flaw
zone; and the bands an attempt prints, each the effective length but the last, add up to the print length. -/
def Obligations.PlacementAndBands : Prop :=
  (∀ (r : Roll) (need : Nat),
    let clear (s : Nat) : Prop := ∀ i : Fin 8, r.zones[i].start ≤ r.zones[i].stop →
      ¬(s ≤ r.zones[i].stop ∧ r.zones[i].start < s + need)
    let start := r.placementStart need
    r.position / 40 ≤ start ∧ clear start ∧ (∀ s, r.position / 40 ≤ s → s < start → ¬clear s) ∧
      r.fits need = decide (start + need ≤ r.length)) ∧
  ∀ length band : Nat, 0 < length → 0 < band →
    let total := bandCount length band
    let bands := (List.range total).map fun i => bandMm length band total (i + 1)
    (total - 1) * band < length ∧ length ≤ total * band ∧ bands.sum = length ∧ ∀ b ∈ bands, 1 ≤ b ∧ b ≤ band

/-- R123: a patch has a ΔE exactly when it is selected and its reading valid, and it is the integer square root, rounded
down, of the sum of the three squared differences, at most 37,423 for coordinates in their ranges. A patch without one takes
no part: whatever its reading and its reference, the figures that give the verdict and the cleaning levels are the same. -/
def Obligations.DeltaEIsRoundedDownRoot : Prop :=
  (∀ x y : Lab,
    let sum : Int := (x.L - y.L) ^ 2 + (x.a - y.a) ^ 2 + (x.b - y.b) ^ 2
    let inRange (z : Lab) : Prop :=
      0 ≤ z.L ∧ z.L ≤ 10000 ∧ -12800 ≤ z.a ∧ z.a ≤ 12700 ∧ -12800 ≤ z.b ∧ z.b ≤ 12700
    ((deltaE x y : Int)) ^ 2 ≤ sum ∧ sum < ((deltaE x y : Int) + 1) ^ 2 ∧
      (inRange x → inRange y → sum ≤ 1400500000 ∧ deltaE x y ≤ 37423)) ∧
  ∀ (v : VerdictSettings) (readings : Vector Reading 16) (reference : Vector Lab 16) (p : Fin 16),
    patchDelta v.patches readings reference p =
        (if v.patches.getLsbD p.val = true ∧ readings[p].valid = true then some (deltaE readings[p].lab reference[p])
          else none) ∧
      ∀ (other : Reading) (z : Lab),
        v.patches.getLsbD p.val = false ∨ (readings[p].valid = false ∧ other.valid = false) →
        stripFigures (patchDeltas v.patches (readings.set p other) (reference.set p z)) =
            stripFigures (patchDeltas v.patches readings reference) ∧
          ∀ failRun : Nat, failCleanings v (readings.set p other) (reference.set p z) failRun =
            failCleanings v readings reference failRun

/-- R94, R96 and R97: a draw takes its whole nanolitres from the active bay, then from the other bay when that supplies,
switching to it, then from the reserve, no estimate below 0; the residue and the lifetime keep count; and the supply state is
evaluated. Other channels, other bays and the drop sizes are as they were. -/
def Obligations.DrawTakesFromEstimates : Prop :=
  ∀ (s : State) (k : Fin 12) (v : Nat), 0 < v →
    let c := s.ink.channels[k]
    let one := s.ink.bays[bayOf k c.active]
    let two := s.ink.bays[bayOf k c.active.other]
    let n := (c.residue + v) / 10000
    let t1 := if one.present = true ∧ one.declaredEmpty = false then min n one.remaining else 0
    let supplies := two.present = true ∧ two.declaredEmpty = false ∧ 0 < two.remaining
    let t2 := if 0 < n - t1 ∧ supplies then min (n - t1) two.remaining else 0
    let t3 := min (n - t1 - t2) c.reserve
    let t := s.draw k v
    let x := t.ink.channels[k]
    t.ink.bays[bayOf k c.active] = { one with remaining := one.remaining - t1 } ∧
      t.ink.bays[bayOf k c.active.other] = { two with remaining := two.remaining - t2 } ∧
      (∀ b : Fin 24, b ≠ bayOf k .first → b ≠ bayOf k .second → t.ink.bays[b] = s.ink.bays[b]) ∧
      (∀ j : Fin 12, j ≠ k → t.ink.channels[j] = s.ink.channels[j]) ∧ t.ink.sizes = s.ink.sizes ∧
      x = { c with
        residue := (c.residue + v) % 10000, reserve := c.reserve - t3, lifetime := min 18446744073709551615 (c.lifetime + n),
        active := if 0 < n - t1 ∧ supplies then c.active.other else c.active,
        supply :=
          if c.supply ∈ [.supplied, .low] then
            (if t.anySupplying k then (if t.baySum k < c.lowThreshold then .low else .supplied)
              else if 0 < c.reserve - t3 then .reserve else .dry)
          else if c.supply = .reserve ∧ c.reserve - t3 = 0 then .dry else c.supply } ∧
      (x.supply ≠ c.supply → t.notices.pending &&& 4#8 = 4#8)

/-- R176 and R177: a posting adds its four figures and its counts to one account, each saturating, recomputes the total,
marks the store, and raises the flag and COST when something saturated or an ink cost had. That a figure of 0 posted to a field
already at its bound is no saturation is the model's choice (log entry 23). -/
def Obligations.PostingAddsToOneAccount : Prop :=
  ∀ (s : State) (i : Fin 64) (p : Posting),
    let a := s.costs.accounts[i]
    let field (old added : Nat) : Nat := if 281474976710655 < old + added then 281474976710655 else old + added
    let sum := field a.ink p.ink + field a.media p.media + field a.cut p.cut + field a.handling p.handling
    let noted := 281474976710655 < a.ink + p.ink ∨ 281474976710655 < a.media + p.media ∨
      281474976710655 < a.cut + p.cut ∨ 281474976710655 < a.handling + p.handling ∨ 281474976710655 < sum ∨
      65535 < a.acceptedPrints + p.prints ∨ 65535 < a.attemptsPosted + p.attempts ∨ p.inkSaturated = true
    let t := s.post i p
    Keeps [.costs, .store, .notices, .server] s t ∧ t.store = { s.store with dirty := true } ∧
      t.costs.prices = s.costs.prices ∧ t.costs.version = s.costs.version ∧
      (∀ j : Fin 64, j ≠ i → t.costs.accounts[j] = s.costs.accounts[j]) ∧
      t.costs.accounts[i] =
        { ink := field a.ink p.ink, media := field a.media p.media, cut := field a.cut p.cut,
          handling := field a.handling p.handling,
          total := if 281474976710655 < sum then 281474976710655 else sum,
          acceptedPrints := if 65535 < a.acceptedPrints + p.prints then 65535 else a.acceptedPrints + p.prints,
          attemptsPosted := if 65535 < a.attemptsPosted + p.attempts then 65535 else a.attemptsPosted + p.attempts,
          saturated := a.saturated || decide noted } ∧
      t.notices.pending = (if noted then s.notices.pending ||| 32#8 else s.notices.pending)

/-! ### Invariants -/

/-- R81 and R82, at every step: the error count stays 0 to 255 and decides the engine state outside STARTING. -/
def Obligations.EngineStateFollowsCount : Prop :=
  ∀ s t : State, EngineCounted s → step s = .next t → EngineCounted t

/-- R191, R196, R203 and R205, at every step: at most four held frames, at most four replies queued, one NOTICE frame exactly
when its place is not none, and a notice owed only while one is SENDING. -/
def Obligations.LinkQueuesStayBounded : Prop :=
  ∀ s t : State, LinkBounded s → step s = .next t → LinkBounded t

/-- R175, at every step: every account in use, in the image and in a write in flight stays in its ranges, its total the
saturating sum of its four money fields. -/
def Obligations.AccountTotalsStayBalanced : Prop :=
  ∀ s t : State, RetainedAll Retained.accountsBalanced s → step s = .next t → RetainedAll Retained.accountsBalanced t

/-- R138, at every step: every gain set in use keeps its gains in 850 to 1150 and its correction settings in their ranges.
R29, R38, R90 and R91, at every step: the position stays on the roll, no bay holds more than its fill, and no reserve more
than 25 mL. -/
def Obligations.GainsAndMeasuresStayInRange : Prop :=
  (∀ s t : State, RetainedAll Retained.gainsInRange s → step s = .next t → RetainedAll Retained.gainsInRange t) ∧
  (∀ s t : State, RetainedAll Retained.measuresInRange s → step s = .next t → RetainedAll Retained.measuresInRange t)

/-- The invariants hold at State.reset. -/
def Obligations.InvariantsHoldAtReset : Prop :=
  EngineCounted State.reset ∧ LinkBounded State.reset ∧ RetainedAll Retained.accountsBalanced State.reset ∧
    RetainedAll Retained.gainsInRange State.reset ∧ RetainedAll Retained.measuresInRange State.reset
end

