-- ==== Sys2Proof/Laws/State.lean ====
section
/-! SUPPORT. One lemma for each field and each whole-block write: what it sets and what it leaves. -/

set_option Elab.async false

namespace Sys2Proof.Machine

@[simp] theorem State.setPending_pending (s : State) (x : List Instr) : (s.setPending x).pending = x := rfl
@[simp] theorem State.setPending_held (s : State) (x : List Instr) : (s.setPending x).held = s.held := rfl
@[simp] theorem State.setPending_quiet (s : State) (x : List Instr) : (s.setPending x).quiet = s.quiet := rfl
@[simp] theorem State.setPending_orders (s : State) (x : List Instr) : (s.setPending x).orders = s.orders := rfl
@[simp] theorem State.setPending_holder (s : State) (x : List Instr) : (s.setPending x).holder = s.holder := rfl
@[simp] theorem State.setPending_uncut (s : State) (x : List Instr) : (s.setPending x).uncut = s.uncut := rfl
@[simp] theorem State.setPending_engine (s : State) (x : List Instr) : (s.setPending x).engine = s.engine := rfl
@[simp] theorem State.setPending_media (s : State) (x : List Instr) : (s.setPending x).media = s.media := rfl
@[simp] theorem State.setPending_ink (s : State) (x : List Instr) : (s.setPending x).ink = s.ink := rfl
@[simp] theorem State.setPending_colour (s : State) (x : List Instr) : (s.setPending x).colour = s.colour := rfl
@[simp] theorem State.setPending_editions (s : State) (x : List Instr) : (s.setPending x).editions = s.editions := rfl
@[simp] theorem State.setPending_costs (s : State) (x : List Instr) : (s.setPending x).costs = s.costs := rfl
@[simp] theorem State.setPending_notices (s : State) (x : List Instr) : (s.setPending x).notices = s.notices := rfl
@[simp] theorem State.setPending_server (s : State) (x : List Instr) : (s.setPending x).server = s.server := rfl
@[simp] theorem State.setPending_store (s : State) (x : List Instr) : (s.setPending x).store = s.store := rfl
@[simp] theorem State.setPending_freeReads (s : State) (x : List Instr) : (s.setPending x).freeReads = s.freeReads := rfl
@[simp] theorem State.setHeld_pending (s : State) (x : Bool) : (s.setHeld x).pending = s.pending := rfl
@[simp] theorem State.setHeld_held (s : State) (x : Bool) : (s.setHeld x).held = x := rfl
@[simp] theorem State.setHeld_quiet (s : State) (x : Bool) : (s.setHeld x).quiet = s.quiet := rfl
@[simp] theorem State.setHeld_orders (s : State) (x : Bool) : (s.setHeld x).orders = s.orders := rfl
@[simp] theorem State.setHeld_holder (s : State) (x : Bool) : (s.setHeld x).holder = s.holder := rfl
@[simp] theorem State.setHeld_uncut (s : State) (x : Bool) : (s.setHeld x).uncut = s.uncut := rfl
@[simp] theorem State.setHeld_engine (s : State) (x : Bool) : (s.setHeld x).engine = s.engine := rfl
@[simp] theorem State.setHeld_media (s : State) (x : Bool) : (s.setHeld x).media = s.media := rfl
@[simp] theorem State.setHeld_ink (s : State) (x : Bool) : (s.setHeld x).ink = s.ink := rfl
@[simp] theorem State.setHeld_colour (s : State) (x : Bool) : (s.setHeld x).colour = s.colour := rfl
@[simp] theorem State.setHeld_editions (s : State) (x : Bool) : (s.setHeld x).editions = s.editions := rfl
@[simp] theorem State.setHeld_costs (s : State) (x : Bool) : (s.setHeld x).costs = s.costs := rfl
@[simp] theorem State.setHeld_notices (s : State) (x : Bool) : (s.setHeld x).notices = s.notices := rfl
@[simp] theorem State.setHeld_server (s : State) (x : Bool) : (s.setHeld x).server = s.server := rfl
@[simp] theorem State.setHeld_store (s : State) (x : Bool) : (s.setHeld x).store = s.store := rfl
@[simp] theorem State.setHeld_freeReads (s : State) (x : Bool) : (s.setHeld x).freeReads = s.freeReads := rfl
@[simp] theorem State.setQuiet_pending (s : State) (x : Option Quiet) : (s.setQuiet x).pending = s.pending := rfl
@[simp] theorem State.setQuiet_held (s : State) (x : Option Quiet) : (s.setQuiet x).held = s.held := rfl
@[simp] theorem State.setQuiet_quiet (s : State) (x : Option Quiet) : (s.setQuiet x).quiet = x := rfl
@[simp] theorem State.setQuiet_orders (s : State) (x : Option Quiet) : (s.setQuiet x).orders = s.orders := rfl
@[simp] theorem State.setQuiet_holder (s : State) (x : Option Quiet) : (s.setQuiet x).holder = s.holder := rfl
@[simp] theorem State.setQuiet_uncut (s : State) (x : Option Quiet) : (s.setQuiet x).uncut = s.uncut := rfl
@[simp] theorem State.setQuiet_engine (s : State) (x : Option Quiet) : (s.setQuiet x).engine = s.engine := rfl
@[simp] theorem State.setQuiet_media (s : State) (x : Option Quiet) : (s.setQuiet x).media = s.media := rfl
@[simp] theorem State.setQuiet_ink (s : State) (x : Option Quiet) : (s.setQuiet x).ink = s.ink := rfl
@[simp] theorem State.setQuiet_colour (s : State) (x : Option Quiet) : (s.setQuiet x).colour = s.colour := rfl
@[simp] theorem State.setQuiet_editions (s : State) (x : Option Quiet) : (s.setQuiet x).editions = s.editions := rfl
@[simp] theorem State.setQuiet_costs (s : State) (x : Option Quiet) : (s.setQuiet x).costs = s.costs := rfl
@[simp] theorem State.setQuiet_notices (s : State) (x : Option Quiet) : (s.setQuiet x).notices = s.notices := rfl
@[simp] theorem State.setQuiet_server (s : State) (x : Option Quiet) : (s.setQuiet x).server = s.server := rfl
@[simp] theorem State.setQuiet_store (s : State) (x : Option Quiet) : (s.setQuiet x).store = s.store := rfl
@[simp] theorem State.setQuiet_freeReads (s : State) (x : Option Quiet) : (s.setQuiet x).freeReads = s.freeReads := rfl
@[simp] theorem State.setOrders_pending (s : State) (x : OrderBlock) : (s.setOrders x).pending = s.pending := rfl
@[simp] theorem State.setOrders_held (s : State) (x : OrderBlock) : (s.setOrders x).held = s.held := rfl
@[simp] theorem State.setOrders_quiet (s : State) (x : OrderBlock) : (s.setOrders x).quiet = s.quiet := rfl
@[simp] theorem State.setOrders_orders (s : State) (x : OrderBlock) : (s.setOrders x).orders = x := rfl
@[simp] theorem State.setOrders_holder (s : State) (x : OrderBlock) : (s.setOrders x).holder = s.holder := rfl
@[simp] theorem State.setOrders_uncut (s : State) (x : OrderBlock) : (s.setOrders x).uncut = s.uncut := rfl
@[simp] theorem State.setOrders_engine (s : State) (x : OrderBlock) : (s.setOrders x).engine = s.engine := rfl
@[simp] theorem State.setOrders_media (s : State) (x : OrderBlock) : (s.setOrders x).media = s.media := rfl
@[simp] theorem State.setOrders_ink (s : State) (x : OrderBlock) : (s.setOrders x).ink = s.ink := rfl
@[simp] theorem State.setOrders_colour (s : State) (x : OrderBlock) : (s.setOrders x).colour = s.colour := rfl
@[simp] theorem State.setOrders_editions (s : State) (x : OrderBlock) : (s.setOrders x).editions = s.editions := rfl
@[simp] theorem State.setOrders_costs (s : State) (x : OrderBlock) : (s.setOrders x).costs = s.costs := rfl
@[simp] theorem State.setOrders_notices (s : State) (x : OrderBlock) : (s.setOrders x).notices = s.notices := rfl
@[simp] theorem State.setOrders_server (s : State) (x : OrderBlock) : (s.setOrders x).server = s.server := rfl
@[simp] theorem State.setOrders_store (s : State) (x : OrderBlock) : (s.setOrders x).store = s.store := rfl
@[simp] theorem State.setOrders_freeReads (s : State) (x : OrderBlock) : (s.setOrders x).freeReads = s.freeReads := rfl
@[simp] theorem State.setHolder_pending (s : State) (x : Holder) : (s.setHolder x).pending = s.pending := rfl
@[simp] theorem State.setHolder_held (s : State) (x : Holder) : (s.setHolder x).held = s.held := rfl
@[simp] theorem State.setHolder_quiet (s : State) (x : Holder) : (s.setHolder x).quiet = s.quiet := rfl
@[simp] theorem State.setHolder_orders (s : State) (x : Holder) : (s.setHolder x).orders = s.orders := rfl
@[simp] theorem State.setHolder_holder (s : State) (x : Holder) : (s.setHolder x).holder = x := rfl
@[simp] theorem State.setHolder_uncut (s : State) (x : Holder) : (s.setHolder x).uncut = s.uncut := rfl
@[simp] theorem State.setHolder_engine (s : State) (x : Holder) : (s.setHolder x).engine = s.engine := rfl
@[simp] theorem State.setHolder_media (s : State) (x : Holder) : (s.setHolder x).media = s.media := rfl
@[simp] theorem State.setHolder_ink (s : State) (x : Holder) : (s.setHolder x).ink = s.ink := rfl
@[simp] theorem State.setHolder_colour (s : State) (x : Holder) : (s.setHolder x).colour = s.colour := rfl
@[simp] theorem State.setHolder_editions (s : State) (x : Holder) : (s.setHolder x).editions = s.editions := rfl
@[simp] theorem State.setHolder_costs (s : State) (x : Holder) : (s.setHolder x).costs = s.costs := rfl
@[simp] theorem State.setHolder_notices (s : State) (x : Holder) : (s.setHolder x).notices = s.notices := rfl
@[simp] theorem State.setHolder_server (s : State) (x : Holder) : (s.setHolder x).server = s.server := rfl
@[simp] theorem State.setHolder_store (s : State) (x : Holder) : (s.setHolder x).store = s.store := rfl
@[simp] theorem State.setHolder_freeReads (s : State) (x : Holder) : (s.setHolder x).freeReads = s.freeReads := rfl
@[simp] theorem State.setUncut_pending (s : State) (x : Bool) : (s.setUncut x).pending = s.pending := rfl
@[simp] theorem State.setUncut_held (s : State) (x : Bool) : (s.setUncut x).held = s.held := rfl
@[simp] theorem State.setUncut_quiet (s : State) (x : Bool) : (s.setUncut x).quiet = s.quiet := rfl
@[simp] theorem State.setUncut_orders (s : State) (x : Bool) : (s.setUncut x).orders = s.orders := rfl
@[simp] theorem State.setUncut_holder (s : State) (x : Bool) : (s.setUncut x).holder = s.holder := rfl
@[simp] theorem State.setUncut_uncut (s : State) (x : Bool) : (s.setUncut x).uncut = x := rfl
@[simp] theorem State.setUncut_engine (s : State) (x : Bool) : (s.setUncut x).engine = s.engine := rfl
@[simp] theorem State.setUncut_media (s : State) (x : Bool) : (s.setUncut x).media = s.media := rfl
@[simp] theorem State.setUncut_ink (s : State) (x : Bool) : (s.setUncut x).ink = s.ink := rfl
@[simp] theorem State.setUncut_colour (s : State) (x : Bool) : (s.setUncut x).colour = s.colour := rfl
@[simp] theorem State.setUncut_editions (s : State) (x : Bool) : (s.setUncut x).editions = s.editions := rfl
@[simp] theorem State.setUncut_costs (s : State) (x : Bool) : (s.setUncut x).costs = s.costs := rfl
@[simp] theorem State.setUncut_notices (s : State) (x : Bool) : (s.setUncut x).notices = s.notices := rfl
@[simp] theorem State.setUncut_server (s : State) (x : Bool) : (s.setUncut x).server = s.server := rfl
@[simp] theorem State.setUncut_store (s : State) (x : Bool) : (s.setUncut x).store = s.store := rfl
@[simp] theorem State.setUncut_freeReads (s : State) (x : Bool) : (s.setUncut x).freeReads = s.freeReads := rfl
@[simp] theorem State.setEngine_pending (s : State) (x : EngineLink) : (s.setEngine x).pending = s.pending := rfl
@[simp] theorem State.setEngine_held (s : State) (x : EngineLink) : (s.setEngine x).held = s.held := rfl
@[simp] theorem State.setEngine_quiet (s : State) (x : EngineLink) : (s.setEngine x).quiet = s.quiet := rfl
@[simp] theorem State.setEngine_orders (s : State) (x : EngineLink) : (s.setEngine x).orders = s.orders := rfl
@[simp] theorem State.setEngine_holder (s : State) (x : EngineLink) : (s.setEngine x).holder = s.holder := rfl
@[simp] theorem State.setEngine_uncut (s : State) (x : EngineLink) : (s.setEngine x).uncut = s.uncut := rfl
@[simp] theorem State.setEngine_engine (s : State) (x : EngineLink) : (s.setEngine x).engine = x := rfl
@[simp] theorem State.setEngine_media (s : State) (x : EngineLink) : (s.setEngine x).media = s.media := rfl
@[simp] theorem State.setEngine_ink (s : State) (x : EngineLink) : (s.setEngine x).ink = s.ink := rfl
@[simp] theorem State.setEngine_colour (s : State) (x : EngineLink) : (s.setEngine x).colour = s.colour := rfl
@[simp] theorem State.setEngine_editions (s : State) (x : EngineLink) : (s.setEngine x).editions = s.editions := rfl
@[simp] theorem State.setEngine_costs (s : State) (x : EngineLink) : (s.setEngine x).costs = s.costs := rfl
@[simp] theorem State.setEngine_notices (s : State) (x : EngineLink) : (s.setEngine x).notices = s.notices := rfl
@[simp] theorem State.setEngine_server (s : State) (x : EngineLink) : (s.setEngine x).server = s.server := rfl
@[simp] theorem State.setEngine_store (s : State) (x : EngineLink) : (s.setEngine x).store = s.store := rfl
@[simp] theorem State.setEngine_freeReads (s : State) (x : EngineLink) : (s.setEngine x).freeReads = s.freeReads := rfl
@[simp] theorem State.setMedia_pending (s : State) (x : MediaUnit) : (s.setMedia x).pending = s.pending := rfl
@[simp] theorem State.setMedia_held (s : State) (x : MediaUnit) : (s.setMedia x).held = s.held := rfl
@[simp] theorem State.setMedia_quiet (s : State) (x : MediaUnit) : (s.setMedia x).quiet = s.quiet := rfl
@[simp] theorem State.setMedia_orders (s : State) (x : MediaUnit) : (s.setMedia x).orders = s.orders := rfl
@[simp] theorem State.setMedia_holder (s : State) (x : MediaUnit) : (s.setMedia x).holder = s.holder := rfl
@[simp] theorem State.setMedia_uncut (s : State) (x : MediaUnit) : (s.setMedia x).uncut = s.uncut := rfl
@[simp] theorem State.setMedia_engine (s : State) (x : MediaUnit) : (s.setMedia x).engine = s.engine := rfl
@[simp] theorem State.setMedia_media (s : State) (x : MediaUnit) : (s.setMedia x).media = x := rfl
@[simp] theorem State.setMedia_ink (s : State) (x : MediaUnit) : (s.setMedia x).ink = s.ink := rfl
@[simp] theorem State.setMedia_colour (s : State) (x : MediaUnit) : (s.setMedia x).colour = s.colour := rfl
@[simp] theorem State.setMedia_editions (s : State) (x : MediaUnit) : (s.setMedia x).editions = s.editions := rfl
@[simp] theorem State.setMedia_costs (s : State) (x : MediaUnit) : (s.setMedia x).costs = s.costs := rfl
@[simp] theorem State.setMedia_notices (s : State) (x : MediaUnit) : (s.setMedia x).notices = s.notices := rfl
@[simp] theorem State.setMedia_server (s : State) (x : MediaUnit) : (s.setMedia x).server = s.server := rfl
@[simp] theorem State.setMedia_store (s : State) (x : MediaUnit) : (s.setMedia x).store = s.store := rfl
@[simp] theorem State.setMedia_freeReads (s : State) (x : MediaUnit) : (s.setMedia x).freeReads = s.freeReads := rfl
@[simp] theorem State.setInk_pending (s : State) (x : InkUnit) : (s.setInk x).pending = s.pending := rfl
@[simp] theorem State.setInk_held (s : State) (x : InkUnit) : (s.setInk x).held = s.held := rfl
@[simp] theorem State.setInk_quiet (s : State) (x : InkUnit) : (s.setInk x).quiet = s.quiet := rfl
@[simp] theorem State.setInk_orders (s : State) (x : InkUnit) : (s.setInk x).orders = s.orders := rfl
@[simp] theorem State.setInk_holder (s : State) (x : InkUnit) : (s.setInk x).holder = s.holder := rfl
@[simp] theorem State.setInk_uncut (s : State) (x : InkUnit) : (s.setInk x).uncut = s.uncut := rfl
@[simp] theorem State.setInk_engine (s : State) (x : InkUnit) : (s.setInk x).engine = s.engine := rfl
@[simp] theorem State.setInk_media (s : State) (x : InkUnit) : (s.setInk x).media = s.media := rfl
@[simp] theorem State.setInk_ink (s : State) (x : InkUnit) : (s.setInk x).ink = x := rfl
@[simp] theorem State.setInk_colour (s : State) (x : InkUnit) : (s.setInk x).colour = s.colour := rfl
@[simp] theorem State.setInk_editions (s : State) (x : InkUnit) : (s.setInk x).editions = s.editions := rfl
@[simp] theorem State.setInk_costs (s : State) (x : InkUnit) : (s.setInk x).costs = s.costs := rfl
@[simp] theorem State.setInk_notices (s : State) (x : InkUnit) : (s.setInk x).notices = s.notices := rfl
@[simp] theorem State.setInk_server (s : State) (x : InkUnit) : (s.setInk x).server = s.server := rfl
@[simp] theorem State.setInk_store (s : State) (x : InkUnit) : (s.setInk x).store = s.store := rfl
@[simp] theorem State.setInk_freeReads (s : State) (x : InkUnit) : (s.setInk x).freeReads = s.freeReads := rfl
@[simp] theorem State.setColour_pending (s : State) (x : ColourUnit) : (s.setColour x).pending = s.pending := rfl
@[simp] theorem State.setColour_held (s : State) (x : ColourUnit) : (s.setColour x).held = s.held := rfl
@[simp] theorem State.setColour_quiet (s : State) (x : ColourUnit) : (s.setColour x).quiet = s.quiet := rfl
@[simp] theorem State.setColour_orders (s : State) (x : ColourUnit) : (s.setColour x).orders = s.orders := rfl
@[simp] theorem State.setColour_holder (s : State) (x : ColourUnit) : (s.setColour x).holder = s.holder := rfl
@[simp] theorem State.setColour_uncut (s : State) (x : ColourUnit) : (s.setColour x).uncut = s.uncut := rfl
@[simp] theorem State.setColour_engine (s : State) (x : ColourUnit) : (s.setColour x).engine = s.engine := rfl
@[simp] theorem State.setColour_media (s : State) (x : ColourUnit) : (s.setColour x).media = s.media := rfl
@[simp] theorem State.setColour_ink (s : State) (x : ColourUnit) : (s.setColour x).ink = s.ink := rfl
@[simp] theorem State.setColour_colour (s : State) (x : ColourUnit) : (s.setColour x).colour = x := rfl
@[simp] theorem State.setColour_editions (s : State) (x : ColourUnit) : (s.setColour x).editions = s.editions := rfl
@[simp] theorem State.setColour_costs (s : State) (x : ColourUnit) : (s.setColour x).costs = s.costs := rfl
@[simp] theorem State.setColour_notices (s : State) (x : ColourUnit) : (s.setColour x).notices = s.notices := rfl
@[simp] theorem State.setColour_server (s : State) (x : ColourUnit) : (s.setColour x).server = s.server := rfl
@[simp] theorem State.setColour_store (s : State) (x : ColourUnit) : (s.setColour x).store = s.store := rfl
@[simp] theorem State.setColour_freeReads (s : State) (x : ColourUnit) : (s.setColour x).freeReads = s.freeReads := rfl
@[simp] theorem State.setEditions_pending (s : State) (x : Vector (Option Edition) 16) : (s.setEditions x).pending = s.pending := rfl
@[simp] theorem State.setEditions_held (s : State) (x : Vector (Option Edition) 16) : (s.setEditions x).held = s.held := rfl
@[simp] theorem State.setEditions_quiet (s : State) (x : Vector (Option Edition) 16) : (s.setEditions x).quiet = s.quiet := rfl
@[simp] theorem State.setEditions_orders (s : State) (x : Vector (Option Edition) 16) : (s.setEditions x).orders = s.orders := rfl
@[simp] theorem State.setEditions_holder (s : State) (x : Vector (Option Edition) 16) : (s.setEditions x).holder = s.holder := rfl
@[simp] theorem State.setEditions_uncut (s : State) (x : Vector (Option Edition) 16) : (s.setEditions x).uncut = s.uncut := rfl
@[simp] theorem State.setEditions_engine (s : State) (x : Vector (Option Edition) 16) : (s.setEditions x).engine = s.engine := rfl
@[simp] theorem State.setEditions_media (s : State) (x : Vector (Option Edition) 16) : (s.setEditions x).media = s.media := rfl
@[simp] theorem State.setEditions_ink (s : State) (x : Vector (Option Edition) 16) : (s.setEditions x).ink = s.ink := rfl
@[simp] theorem State.setEditions_colour (s : State) (x : Vector (Option Edition) 16) : (s.setEditions x).colour = s.colour := rfl
@[simp] theorem State.setEditions_editions (s : State) (x : Vector (Option Edition) 16) : (s.setEditions x).editions = x := rfl
@[simp] theorem State.setEditions_costs (s : State) (x : Vector (Option Edition) 16) : (s.setEditions x).costs = s.costs := rfl
@[simp] theorem State.setEditions_notices (s : State) (x : Vector (Option Edition) 16) : (s.setEditions x).notices = s.notices := rfl
@[simp] theorem State.setEditions_server (s : State) (x : Vector (Option Edition) 16) : (s.setEditions x).server = s.server := rfl
@[simp] theorem State.setEditions_store (s : State) (x : Vector (Option Edition) 16) : (s.setEditions x).store = s.store := rfl
@[simp] theorem State.setEditions_freeReads (s : State) (x : Vector (Option Edition) 16) : (s.setEditions x).freeReads = s.freeReads := rfl
@[simp] theorem State.setCosts_pending (s : State) (x : CostUnit) : (s.setCosts x).pending = s.pending := rfl
@[simp] theorem State.setCosts_held (s : State) (x : CostUnit) : (s.setCosts x).held = s.held := rfl
@[simp] theorem State.setCosts_quiet (s : State) (x : CostUnit) : (s.setCosts x).quiet = s.quiet := rfl
@[simp] theorem State.setCosts_orders (s : State) (x : CostUnit) : (s.setCosts x).orders = s.orders := rfl
@[simp] theorem State.setCosts_holder (s : State) (x : CostUnit) : (s.setCosts x).holder = s.holder := rfl
@[simp] theorem State.setCosts_uncut (s : State) (x : CostUnit) : (s.setCosts x).uncut = s.uncut := rfl
@[simp] theorem State.setCosts_engine (s : State) (x : CostUnit) : (s.setCosts x).engine = s.engine := rfl
@[simp] theorem State.setCosts_media (s : State) (x : CostUnit) : (s.setCosts x).media = s.media := rfl
@[simp] theorem State.setCosts_ink (s : State) (x : CostUnit) : (s.setCosts x).ink = s.ink := rfl
@[simp] theorem State.setCosts_colour (s : State) (x : CostUnit) : (s.setCosts x).colour = s.colour := rfl
@[simp] theorem State.setCosts_editions (s : State) (x : CostUnit) : (s.setCosts x).editions = s.editions := rfl
@[simp] theorem State.setCosts_costs (s : State) (x : CostUnit) : (s.setCosts x).costs = x := rfl
@[simp] theorem State.setCosts_notices (s : State) (x : CostUnit) : (s.setCosts x).notices = s.notices := rfl
@[simp] theorem State.setCosts_server (s : State) (x : CostUnit) : (s.setCosts x).server = s.server := rfl
@[simp] theorem State.setCosts_store (s : State) (x : CostUnit) : (s.setCosts x).store = s.store := rfl
@[simp] theorem State.setCosts_freeReads (s : State) (x : CostUnit) : (s.setCosts x).freeReads = s.freeReads := rfl
@[simp] theorem State.setNotices_pending (s : State) (x : NoticeUnit) : (s.setNotices x).pending = s.pending := rfl
@[simp] theorem State.setNotices_held (s : State) (x : NoticeUnit) : (s.setNotices x).held = s.held := rfl
@[simp] theorem State.setNotices_quiet (s : State) (x : NoticeUnit) : (s.setNotices x).quiet = s.quiet := rfl
@[simp] theorem State.setNotices_orders (s : State) (x : NoticeUnit) : (s.setNotices x).orders = s.orders := rfl
@[simp] theorem State.setNotices_holder (s : State) (x : NoticeUnit) : (s.setNotices x).holder = s.holder := rfl
@[simp] theorem State.setNotices_uncut (s : State) (x : NoticeUnit) : (s.setNotices x).uncut = s.uncut := rfl
@[simp] theorem State.setNotices_engine (s : State) (x : NoticeUnit) : (s.setNotices x).engine = s.engine := rfl
@[simp] theorem State.setNotices_media (s : State) (x : NoticeUnit) : (s.setNotices x).media = s.media := rfl
@[simp] theorem State.setNotices_ink (s : State) (x : NoticeUnit) : (s.setNotices x).ink = s.ink := rfl
@[simp] theorem State.setNotices_colour (s : State) (x : NoticeUnit) : (s.setNotices x).colour = s.colour := rfl
@[simp] theorem State.setNotices_editions (s : State) (x : NoticeUnit) : (s.setNotices x).editions = s.editions := rfl
@[simp] theorem State.setNotices_costs (s : State) (x : NoticeUnit) : (s.setNotices x).costs = s.costs := rfl
@[simp] theorem State.setNotices_notices (s : State) (x : NoticeUnit) : (s.setNotices x).notices = x := rfl
@[simp] theorem State.setNotices_server (s : State) (x : NoticeUnit) : (s.setNotices x).server = s.server := rfl
@[simp] theorem State.setNotices_store (s : State) (x : NoticeUnit) : (s.setNotices x).store = s.store := rfl
@[simp] theorem State.setNotices_freeReads (s : State) (x : NoticeUnit) : (s.setNotices x).freeReads = s.freeReads := rfl
@[simp] theorem State.setServer_pending (s : State) (x : ServerLink) : (s.setServer x).pending = s.pending := rfl
@[simp] theorem State.setServer_held (s : State) (x : ServerLink) : (s.setServer x).held = s.held := rfl
@[simp] theorem State.setServer_quiet (s : State) (x : ServerLink) : (s.setServer x).quiet = s.quiet := rfl
@[simp] theorem State.setServer_orders (s : State) (x : ServerLink) : (s.setServer x).orders = s.orders := rfl
@[simp] theorem State.setServer_holder (s : State) (x : ServerLink) : (s.setServer x).holder = s.holder := rfl
@[simp] theorem State.setServer_uncut (s : State) (x : ServerLink) : (s.setServer x).uncut = s.uncut := rfl
@[simp] theorem State.setServer_engine (s : State) (x : ServerLink) : (s.setServer x).engine = s.engine := rfl
@[simp] theorem State.setServer_media (s : State) (x : ServerLink) : (s.setServer x).media = s.media := rfl
@[simp] theorem State.setServer_ink (s : State) (x : ServerLink) : (s.setServer x).ink = s.ink := rfl
@[simp] theorem State.setServer_colour (s : State) (x : ServerLink) : (s.setServer x).colour = s.colour := rfl
@[simp] theorem State.setServer_editions (s : State) (x : ServerLink) : (s.setServer x).editions = s.editions := rfl
@[simp] theorem State.setServer_costs (s : State) (x : ServerLink) : (s.setServer x).costs = s.costs := rfl
@[simp] theorem State.setServer_notices (s : State) (x : ServerLink) : (s.setServer x).notices = s.notices := rfl
@[simp] theorem State.setServer_server (s : State) (x : ServerLink) : (s.setServer x).server = x := rfl
@[simp] theorem State.setServer_store (s : State) (x : ServerLink) : (s.setServer x).store = s.store := rfl
@[simp] theorem State.setServer_freeReads (s : State) (x : ServerLink) : (s.setServer x).freeReads = s.freeReads := rfl
@[simp] theorem State.setStore_pending (s : State) (x : RetainedStore) : (s.setStore x).pending = s.pending := rfl
@[simp] theorem State.setStore_held (s : State) (x : RetainedStore) : (s.setStore x).held = s.held := rfl
@[simp] theorem State.setStore_quiet (s : State) (x : RetainedStore) : (s.setStore x).quiet = s.quiet := rfl
@[simp] theorem State.setStore_orders (s : State) (x : RetainedStore) : (s.setStore x).orders = s.orders := rfl
@[simp] theorem State.setStore_holder (s : State) (x : RetainedStore) : (s.setStore x).holder = s.holder := rfl
@[simp] theorem State.setStore_uncut (s : State) (x : RetainedStore) : (s.setStore x).uncut = s.uncut := rfl
@[simp] theorem State.setStore_engine (s : State) (x : RetainedStore) : (s.setStore x).engine = s.engine := rfl
@[simp] theorem State.setStore_media (s : State) (x : RetainedStore) : (s.setStore x).media = s.media := rfl
@[simp] theorem State.setStore_ink (s : State) (x : RetainedStore) : (s.setStore x).ink = s.ink := rfl
@[simp] theorem State.setStore_colour (s : State) (x : RetainedStore) : (s.setStore x).colour = s.colour := rfl
@[simp] theorem State.setStore_editions (s : State) (x : RetainedStore) : (s.setStore x).editions = s.editions := rfl
@[simp] theorem State.setStore_costs (s : State) (x : RetainedStore) : (s.setStore x).costs = s.costs := rfl
@[simp] theorem State.setStore_notices (s : State) (x : RetainedStore) : (s.setStore x).notices = s.notices := rfl
@[simp] theorem State.setStore_server (s : State) (x : RetainedStore) : (s.setStore x).server = s.server := rfl
@[simp] theorem State.setStore_store (s : State) (x : RetainedStore) : (s.setStore x).store = x := rfl
@[simp] theorem State.setStore_freeReads (s : State) (x : RetainedStore) : (s.setStore x).freeReads = s.freeReads := rfl
@[simp] theorem State.setFreeReads_pending (s : State) (x : Nat) : (s.setFreeReads x).pending = s.pending := rfl
@[simp] theorem State.setFreeReads_held (s : State) (x : Nat) : (s.setFreeReads x).held = s.held := rfl
@[simp] theorem State.setFreeReads_quiet (s : State) (x : Nat) : (s.setFreeReads x).quiet = s.quiet := rfl
@[simp] theorem State.setFreeReads_orders (s : State) (x : Nat) : (s.setFreeReads x).orders = s.orders := rfl
@[simp] theorem State.setFreeReads_holder (s : State) (x : Nat) : (s.setFreeReads x).holder = s.holder := rfl
@[simp] theorem State.setFreeReads_uncut (s : State) (x : Nat) : (s.setFreeReads x).uncut = s.uncut := rfl
@[simp] theorem State.setFreeReads_engine (s : State) (x : Nat) : (s.setFreeReads x).engine = s.engine := rfl
@[simp] theorem State.setFreeReads_media (s : State) (x : Nat) : (s.setFreeReads x).media = s.media := rfl
@[simp] theorem State.setFreeReads_ink (s : State) (x : Nat) : (s.setFreeReads x).ink = s.ink := rfl
@[simp] theorem State.setFreeReads_colour (s : State) (x : Nat) : (s.setFreeReads x).colour = s.colour := rfl
@[simp] theorem State.setFreeReads_editions (s : State) (x : Nat) : (s.setFreeReads x).editions = s.editions := rfl
@[simp] theorem State.setFreeReads_costs (s : State) (x : Nat) : (s.setFreeReads x).costs = s.costs := rfl
@[simp] theorem State.setFreeReads_notices (s : State) (x : Nat) : (s.setFreeReads x).notices = s.notices := rfl
@[simp] theorem State.setFreeReads_server (s : State) (x : Nat) : (s.setFreeReads x).server = s.server := rfl
@[simp] theorem State.setFreeReads_store (s : State) (x : Nat) : (s.setFreeReads x).store = s.store := rfl
@[simp] theorem State.setFreeReads_freeReads (s : State) (x : Nat) : (s.setFreeReads x).freeReads = x := rfl

end Sys2Proof.Machine
end

