-- ==== Sys2Proof/Laws/Keeps.lean ====
section
/-! SUPPORT. What each shared operation leaves alone, said once for each, and how such frames compose. -/

set_option Elab.async false

namespace Sys2Proof.Machine

theorem Keeps.refl (l : List Block) (s : State) : Keeps l s s := fun b _ => by cases b <;> rfl

theorem Keeps.trans {l : List Block} {s t u : State} (h : Keeps l s t) (k : Keeps l t u) : Keeps l s u := fun b hb => by
  have h1 := h b hb
  have h2 := k b hb
  cases b <;> exact Eq.trans h2 h1

theorem Keeps.mono {l m : List Block} {s t : State} (h : Keeps l s t)
    (sub : (l.all fun b => m.contains b) = true := by decide) : Keeps m s t :=
  fun b hb => h b fun hl => hb (by simpa using List.all_eq_true.mp sub b hl)

/-- One more operation, whose own changes lie in the list. -/
theorem Keeps.then {l m : List Block} {s t u : State} (h : Keeps m s t) (k : Keeps l t u)
    (sub : (l.all fun b => m.contains b) = true := by decide) : Keeps m s u := h.trans (k.mono sub)

/-- A block that is not in the list reads as before. -/
theorem Keeps.at {l : List Block} {s t : State} (h : Keeps l s t) (b : Block) (hb : b ∉ l := by decide) : b.same s t :=
  h b hb

theorem Keeps.foldl {α : Type} {l : List Block} (f : State → α → State) (h : ∀ s a, Keeps l s (f s a)) (xs : List α) :
    ∀ s, Keeps l s (xs.foldl f s) := by
  induction xs with
  | nil => exact fun s => Keeps.refl l s
  | cons x xs ih => exact fun s => (h s x).trans (ih (f s x))

theorem keeps_ite {l : List Block} {s t u : State} (c : Prop) [Decidable c] (h : Keeps l s t) (k : Keeps l s u) :
    Keeps l s (if c then t else u) := by split <;> assumption

/-! ### Notices -/

theorem keeps_trigger (s : State) : Keeps [.notices, .server] s s.trigger := by
  intro b hb
  unfold State.trigger
  split <;> cases b <;> simp_all [Block.same]

theorem keeps_raise (s : State) (c : Category) : Keeps [.notices, .server] s (s.raise c) := by
  refine Keeps.trans (t := s.setNotices { s.notices with pending := s.notices.pending ||| c.mask }) ?_ ?_
  · intro b hb
    cases b <;> simp_all [Block.same]
  · unfold State.raise
    exact keeps_ite _ (keeps_trigger _) (Keeps.refl _ _)

theorem keeps_raiseIf (s : State) (p : Bool) (c : Category) : Keeps [.notices, .server] s (s.raiseIf p c) :=
  keeps_ite _ (keeps_raise s c) (Keeps.refl _ _)

/-! ### The store's dirty flag -/

theorem keeps_markDirty (s : State) : Keeps [.store] s s.markDirty := by
  intro b hb
  cases b <;> simp_all [Block.same, State.markDirty]

theorem keeps_markDirtyIf (p : Bool) (s : State) : Keeps [.store] s (s.markDirtyIf p) :=
  keeps_ite _ (keeps_markDirty s) (Keeps.refl _ _)

/-- An operation that only rewrites the blocks of the list by field updates. -/
theorem keeps_setMedia (s : State) (x : MediaUnit) : Keeps [.media] s (s.setMedia x) := by
  intro b hb; cases b <;> simp_all [Block.same]

theorem keeps_setOrders (s : State) (x : OrderBlock) : Keeps [.orders] s (s.setOrders x) := by
  intro b hb; cases b <;> simp_all [Block.same]

theorem keeps_setHolder (s : State) (x : Holder) : Keeps [.holder] s (s.setHolder x) := by
  intro b hb; cases b <;> simp_all [Block.same]

theorem keeps_setUncut (s : State) (x : Bool) : Keeps [.uncut] s (s.setUncut x) := by
  intro b hb; cases b <;> simp_all [Block.same]

theorem keeps_setEngine (s : State) (x : EngineLink) : Keeps [.engine] s (s.setEngine x) := by
  intro b hb; cases b <;> simp_all [Block.same]

theorem keeps_setInk (s : State) (x : InkUnit) : Keeps [.ink] s (s.setInk x) := by
  intro b hb; cases b <;> simp_all [Block.same]

theorem keeps_setColour (s : State) (x : ColourUnit) : Keeps [.colour] s (s.setColour x) := by
  intro b hb; cases b <;> simp_all [Block.same]

theorem keeps_setEditions (s : State) (x : Vector (Option Edition) 16) : Keeps [.editions] s (s.setEditions x) := by
  intro b hb; cases b <;> simp_all [Block.same]

theorem keeps_setCosts (s : State) (x : CostUnit) : Keeps [.costs] s (s.setCosts x) := by
  intro b hb; cases b <;> simp_all [Block.same]

theorem keeps_setNotices (s : State) (x : NoticeUnit) : Keeps [.notices] s (s.setNotices x) := by
  intro b hb; cases b <;> simp_all [Block.same]

theorem keeps_setServer (s : State) (x : ServerLink) : Keeps [.server] s (s.setServer x) := by
  intro b hb; cases b <;> simp_all [Block.same]

theorem keeps_setStore (s : State) (x : RetainedStore) : Keeps [.store] s (s.setStore x) := by
  intro b hb; cases b <;> simp_all [Block.same]

theorem keeps_setQuiet (s : State) (x : Option Quiet) : Keeps [.quiet] s (s.setQuiet x) := by
  intro b hb; cases b <;> simp_all [Block.same]

/-! ### Orders, media, eligibility -/

theorem keeps_setRoll (s : State) (r : Roll) : Keeps [.media, .store] s (s.setRoll r) :=
  (((Keeps.refl _ s).then (keeps_setMedia s _)).then (keeps_markDirtyIf _ _))

theorem keeps_writeUncut (s : State) (b : Bool) : Keeps [.uncut, .store] s (s.writeUncut b) :=
  (((Keeps.refl _ s).then (keeps_setUncut s _)).then (keeps_markDirtyIf _ _))

theorem keeps_modifyOrder (s : State) (i : Fin 40) (f : Order → Order) : Keeps [.orders] s (s.modifyOrder i f) := by
  unfold State.modifyOrder; split
  · exact keeps_setOrders _ _
  · exact Keeps.refl _ _

theorem keeps_noteMedia (s : State) (e : MediaEvent) (o : Option Word32) :
    Keeps [.media, .notices, .server] s (s.noteMedia e o) :=
  ((Keeps.refl _ s).then (keeps_setMedia s _)).then (keeps_raise _ _)

theorem keeps_reevaluate (s : State) : Keeps [.orders, .notices, .server] s s.reevaluate :=
  ((Keeps.refl _ s).then (keeps_setOrders s _)).then (keeps_raiseIf _ _ _)

theorem keeps_latenessScan (s : State) : Keeps [.orders, .notices, .server] s s.latenessScan :=
  ((Keeps.refl _ s).then (keeps_setOrders s _)).then (keeps_raiseIf _ _ _)

theorem keeps_finishOrder (s : State) (i : Fin 40) (o : Order) (f : OrderState) :
    Keeps [.orders, .notices, .server] s (s.finishOrder i o f) :=
  ((((Keeps.refl _ s).then (keeps_setOrders s _)).then (keeps_setOrders _ _)).then (keeps_raiseIf _ _ _)).then
    (keeps_raise _ _)

theorem keeps_advancePosition (s : State) (n : Nat) (o : Option Word32) :
    Keeps [.media, .store, .orders, .notices, .server] s (s.advancePosition n o) := by
  unfold State.advancePosition
  refine keeps_ite _ (keeps_ite _ (Keeps.refl _ _) ?_) (Keeps.refl _ _)
  exact ((Keeps.refl _ s).then (keeps_ite (l := [.media, .store, .notices, .server]) _
    (((Keeps.refl _ s).then (keeps_setRoll _ _)).then (keeps_noteMedia _ _ _)) ((keeps_setRoll _ _).mono))).then
    (keeps_reevaluate _)

/-! ### Costs -/

theorem keeps_setAccount (s : State) (i : Fin 64) (a : Account) : Keeps [.costs, .store] s (s.setAccount i a) :=
  ((Keeps.refl _ s).then (keeps_setCosts s _)).then (keeps_markDirty _)

theorem keeps_post (s : State) (i : Fin 64) (p : Posting) :
    Keeps [.costs, .store, .notices, .server] s (s.post i p) :=
  ((Keeps.refl _ s).then (keeps_setAccount s _ _)).then (keeps_raiseIf _ _ _)

theorem keeps_postAttempt (s : State) (a : Attempt) (o : AttemptOutcome) (own : Bool) :
    Keeps [.orders, .costs, .store, .notices, .server] s (s.postAttempt a o own) := by
  unfold State.postAttempt
  simp only []
  split
  · exact (Keeps.refl _ s).then (keeps_post _ _ _)
  · exact keeps_ite _ (((Keeps.refl _ s).then (keeps_setOrders s _)).then (keeps_post _ _ _))
      (((Keeps.refl _ s).then (keeps_setOrders s _)).then (keeps_post _ _ _))

theorem keeps_postWaste (s : State) (a : Attempt) (mm : Nat) (cut : Bool) :
    Keeps [.orders, .costs, .store, .notices, .server] s (s.postWaste a mm cut) :=
  ((Keeps.refl _ s).then (keeps_modifyOrder s _ _)).then (keeps_post _ _ _)

theorem keeps_postTask (s : State) (p : Option Nat) (cut : Bool) :
    Keeps [.costs, .store, .notices, .server] s (s.postTask p cut) := keeps_post _ _ _

theorem keeps_postCleaning (s : State) (v : Vector Nat 12) :
    Keeps [.costs, .store, .notices, .server] s (s.postCleaning v) := keeps_post _ _ _

theorem keeps_postLateInk (s : State) (v : Vector Nat 12) :
    Keeps [.costs, .store, .notices, .server] s (s.postLateInk v) :=
  keeps_ite _ (keeps_post _ _ _) (Keeps.refl _ _)

/-! ### Ink -/

theorem keeps_setChannel (s : State) (c : Fin 12) (x : Channel) : Keeps [.ink, .store] s (s.setChannel c x) :=
  ((Keeps.refl _ s).then (keeps_setInk s _)).then (keeps_markDirtyIf _ _)

theorem keeps_setBay (s : State) (b : Fin 24) (x : Bay) : Keeps [.ink, .store] s (s.setBay b x) :=
  ((Keeps.refl _ s).then (keeps_setInk s _)).then (keeps_markDirtyIf _ _)

/-- The blocks the ink supply unit's rules can change: their own, the store's flag, and what a re-evaluation changes. -/
abbrev inkBlocks : List Block := [.ink, .store, .orders, .notices, .server]

theorem keeps_writeSupply (s : State) (c : Fin 12) (x : Channel) : Keeps inkBlocks s (s.writeSupply c x) := by
  unfold State.writeSupply
  simp only []
  exact keeps_ite _ ((keeps_setChannel _ _ _).mono)
    ((((Keeps.refl _ s).then (keeps_setChannel _ _ _)).then (keeps_raise _ _)).then (keeps_reevaluate _))

theorem keeps_evaluateSupply (s : State) (c : Fin 12) : Keeps inkBlocks s (s.evaluateSupply c) :=
  keeps_ite _ (keeps_writeSupply _ _ _) (Keeps.refl _ _)

theorem keeps_drawn (s : State) (c : Fin 12) (v : Nat) : Keeps [.ink, .store] s (s.drawn c v) :=
  (((Keeps.refl _ s).then (keeps_setBay _ _ _)).then (keeps_setBay _ _ _)).then (keeps_setChannel _ _ _)

theorem keeps_afterDraw (s : State) (c : Fin 12) : Keeps inkBlocks s (s.afterDraw c) :=
  keeps_ite _ (keeps_ite _ (keeps_writeSupply _ _ _) (Keeps.refl _ _)) (keeps_evaluateSupply _ _)

theorem keeps_draw (s : State) (c : Fin 12) (v : Nat) : Keeps inkBlocks s (s.draw c v) :=
  keeps_ite _ (Keeps.refl _ _) (((Keeps.refl _ s).then (keeps_drawn _ _ _)).then (keeps_afterDraw _ _))

theorem keeps_drawAll (s : State) (v : Vector Nat 12) : Keeps inkBlocks s (s.drawAll v) :=
  Keeps.foldl _ (fun s c => keeps_draw s c _) _ s

theorem keeps_requestCleaning (s : State) (c : Fin 12) (n : Nat) : Keeps [.ink, .store] s (s.requestCleaning c n) :=
  keeps_setChannel _ _ _

theorem keeps_requestCleanings (s : State) (v : Vector Nat 12) : Keeps [.ink] s (s.requestCleanings v) :=
  keeps_setInk _ _

theorem keeps_enterRefill (s : State) (c : Fin 12) (b : BaySide) : Keeps inkBlocks s (s.enterRefill c b) :=
  keeps_writeSupply _ _ _

theorem keeps_declareEmpty (s : State) (c : Fin 12) : Keeps inkBlocks s (s.declareEmpty c) :=
  ((((Keeps.refl _ s).then (keeps_setBay _ _ _)).then (keeps_setChannel _ _ _)).then (keeps_raise _ _)).then
    (keeps_evaluateSupply _ _)

theorem keeps_topUp (s : State) (c : Fin 12) : Keeps [.ink, .store] s (s.topUp c) := by
  unfold State.topUp; split
  · exact Keeps.refl _ _
  · exact keeps_setBay _ _ _

theorem keeps_completeRefill (s : State) (c : Fin 12) : Keeps inkBlocks s (s.completeRefill c) :=
  ((((Keeps.refl _ s).then (keeps_topUp _ _)).then (keeps_setChannel _ _ _)).then (keeps_writeSupply _ _ _)).then
    (keeps_requestCleaning _ _ _)

theorem keeps_actOnSample (s : State) (c : Fin 12) (l : Level) : Keeps inkBlocks s (s.actOnSample c l) := by
  cases l
  · exact keeps_ite _ (keeps_completeRefill _ _) (Keeps.refl _ _)
  · exact Keeps.refl _ _
  · exact keeps_ite _ (keeps_declareEmpty _ _) (Keeps.refl _ _)
  · exact keeps_ite _ (keeps_writeSupply _ _ _) (Keeps.refl _ _)

theorem keeps_takeLevels (s : State) (v : Vector Byte 12) : Keeps inkBlocks s (s.takeLevels v) := by
  unfold State.takeLevels; split
  · exact Keeps.refl _ _
  · exact ((Keeps.refl _ s).then (keeps_setInk _ _)).then (Keeps.foldl _ (fun s c => keeps_actOnSample s c _) _ _)

theorem keeps_afterPresent (s : State) (b : Fin 24) : Keeps inkBlocks s (s.afterPresent b) := by
  unfold State.afterPresent
  simp only []
  split
  · exact keeps_evaluateSupply _ _
  · exact keeps_evaluateSupply _ _
  · exact keeps_ite _ (keeps_enterRefill _ _ _) (Keeps.refl _ _)
  · exact keeps_ite _ (keeps_enterRefill _ _ _) (Keeps.refl _ _)
  · exact Keeps.refl _ _
  · exact Keeps.refl _ _

theorem keeps_newCartridge (s : State) (b : Fin 24) (x : Vector Byte 12) (y : Vector Byte 8) (n : Nat) :
    Keeps inkBlocks s (s.newCartridge b x y n) :=
  (((Keeps.refl _ s).then (keeps_setBay _ _ _)).then (keeps_raiseIf _ _ _)).then (keeps_afterPresent _ _)

theorem keeps_knownCartridge (s : State) (b : Fin 24) : Keeps inkBlocks s (s.knownCartridge b) :=
  ((Keeps.refl _ s).then (keeps_setBay _ _ _)).then (keeps_afterPresent _ _)

theorem keeps_refillBayRemoved (s : State) (c : Fin 12) (b : BaySide) : Keeps inkBlocks s (s.refillBayRemoved c b) :=
  keeps_ite _ ((keeps_setChannel _ _ _).mono) (keeps_writeSupply _ _ _)

theorem keeps_bayAbsent (s : State) (b : Fin 24) : Keeps inkBlocks s (s.bayAbsent b) := by
  unfold State.bayAbsent
  refine keeps_ite _ (Keeps.refl _ _) ?_
  simp only []
  have h : Keeps inkBlocks s (if (State.channel (s.setBay b { s.ink.bays[b] with present := false })
      (bayChannel b)).active = baySide b
      then (s.setBay b { s.ink.bays[b] with present := false }).setChannel (bayChannel b)
        { State.channel (s.setBay b { s.ink.bays[b] with present := false }) (bayChannel b) with
          active := (baySide b).other }
      else s.setBay b { s.ink.bays[b] with present := false }) :=
    keeps_ite _ (((Keeps.refl _ s).then (keeps_setBay _ _ _)).then (keeps_setChannel _ _ _)) ((keeps_setBay _ _ _).mono)
  generalize (if (State.channel (s.setBay b { s.ink.bays[b] with present := false }) (bayChannel b)).active = baySide b
      then (s.setBay b { s.ink.bays[b] with present := false }).setChannel (bayChannel b)
        { State.channel (s.setBay b { s.ink.bays[b] with present := false }) (bayChannel b) with
          active := (baySide b).other }
      else s.setBay b { s.ink.bays[b] with present := false }) = u at h ⊢
  split
  · exact h.then (keeps_evaluateSupply _ _)
  · exact h.then (keeps_evaluateSupply _ _)
  · split
    · exact h.then (keeps_refillBayRemoved _ _ _)
    · exact h
  · exact h
  · exact h
  · exact h

theorem keeps_takeBayEvent (s : State) (bay present : Byte) (x : Vector Byte 12) (y : Vector Byte 8) (n : Nat) :
    Keeps inkBlocks s (s.takeBayEvent bay present x y n) := by
  unfold State.takeBayEvent
  split
  · exact keeps_ite _ (keeps_bayAbsent _ _) (keeps_ite _ (keeps_ite _ (keeps_knownCartridge _ _)
      (keeps_newCartridge _ _ _ _ _)) (Keeps.refl _ _))
  · exact Keeps.refl _ _

theorem keeps_refillSecond (s : State) (c : Fin 12) : Keeps inkBlocks s (s.refillSecond c) :=
  keeps_ite _ (keeps_ite _ ((keeps_setChannel _ _ _).mono) (keeps_writeSupply _ _ _)) (Keeps.refl _ _)

theorem keeps_refillTimeout (s : State) (c : Fin 12) : Keeps inkBlocks s (s.refillTimeout c) :=
  keeps_ite _ (keeps_writeSupply _ _ _) (Keeps.refl _ _)

end Sys2Proof.Machine
end

