-- ==== Sys2Proof/Laws/KeepsPrint.lean ====
section
/-! SUPPORT. What the printing operations leave alone: colour, editions, attempts, the slot, and what arrives from the
engine. -/

set_option Elab.async false

namespace Sys2Proof.Machine

/-! ### Colour and editions -/

theorem keeps_setGainSet (s : State) (g : Fin 24) (x : GainSet) : Keeps [.colour, .store] s (s.setGainSet g x) :=
  ((Keeps.refl _ s).then (keeps_setColour s _)).then (keeps_markDirtyIf _ _)

theorem keeps_setCheck (s : State) (g : Fin 24) (x : CheckState) : Keeps [.colour] s (s.setCheck g x) :=
  keeps_setColour _ _

/-- The blocks a judged strip can change. -/
abbrev stripBlocks : List Block := [.colour, .ink, .store, .orders, .notices, .server]

theorem keeps_suspendIfDue (s : State) (g : Fin 24) :
    Keeps [.colour, .store, .orders, .notices, .server] s (s.suspendIfDue g) := by
  unfold State.suspendIfDue
  split
  · exact Keeps.refl _ _
  · exact keeps_ite _ ((((Keeps.refl _ s).then (keeps_setGainSet _ _ _)).then (keeps_raise _ _)).then
      (keeps_reevaluate _)) (Keeps.refl _ _)

theorem keeps_correctGains (s : State) (g : Fin 24) (p : BitVec 16) (r : Vector Reading 16) (f : Vector Lab 16) :
    Keeps [.colour, .store, .notices, .server] s (s.correctGains g p r f) := by
  unfold State.correctGains
  split
  · exact Keeps.refl _ _
  · exact ((Keeps.refl _ s).then (keeps_setGainSet _ _ _)).then (keeps_raiseIf _ _ _)

theorem keeps_recordStrip (s : State) (g : Fin 24) (e : HistoryEntry) (n : Nat) :
    Keeps [.colour, .notices, .server] s (s.recordStrip g e n) :=
  ((Keeps.refl _ s).then (keeps_setCheck _ _ _)).then (keeps_raiseIf _ _ _)

theorem keeps_countFailure (s : State) (g : Fin 24) (v : VerdictSettings) (r : Vector Reading 16) (f : Vector Lab 16)
    (p : Bool) : Keeps stripBlocks s (s.countFailure g v r f p) := by
  unfold State.countFailure
  exact keeps_ite _ ((keeps_setCheck _ _ _).mono)
    ((((Keeps.refl _ s).then (keeps_setCheck _ _ _)).then (keeps_requestCleanings _ _)).then (keeps_suspendIfDue _ _))

theorem keeps_handOnStrip (s : State) (a : Attempt) (v : VerdictSettings) (r : Vector Reading 16) (f : Vector Lab 16)
    (g : StripFigures) : Keeps stripBlocks s (s.handOnStrip a v r f g) :=
  ((((Keeps.refl _ s).then (keeps_correctGains _ _ _ _ _)).then (keeps_recordStrip _ _ _ _)).then
    (keeps_countFailure _ _ _ _ _ _)).then (keeps_modifyOrder _ _ _)

theorem keeps_judgeStrip (s : State) (a : Attempt) (r : Vector Reading 16) :
    Keeps stripBlocks s (s.judgeStrip a r).1 := by
  unfold State.judgeStrip
  split
  · exact Keeps.refl _ _
  · split
    · split
      · exact Keeps.refl _ _
      · exact keeps_handOnStrip _ _ _ _ _ _
    · exact Keeps.refl _ _

theorem keeps_setEdition (s : State) (i : Fin 16) (e : Option Edition) :
    Keeps [.editions, .store] s (s.setEdition i e) :=
  ((Keeps.refl _ s).then (keeps_setEditions s _)).then (keeps_markDirty _)

theorem keeps_numberPrint (s : State) (a : Attempt) : Keeps [.orders, .editions, .store] s (s.numberPrint a) := by
  unfold State.numberPrint
  split
  · exact Keeps.refl _ _
  · split
    · exact Keeps.refl _ _
    · split
      · exact Keeps.refl _ _
      · exact ((Keeps.refl _ s).then (keeps_setOrders s _)).then (keeps_setEdition _ _ _)

/-! ### The attempt -/

theorem keeps_setAttempt (s : State) (a : Attempt) : Keeps [.holder] s (s.setAttempt a) := keeps_setHolder _ _

theorem keeps_startAttempt (s : State) (i : Fin 40) (o : Order) :
    Keeps [.orders, .notices, .server, .holder] s (s.startAttempt i o) :=
  (((Keeps.refl _ s).then (keeps_setOrders s _)).then (keeps_raise _ _)).then (keeps_setAttempt _ _)

theorem keeps_boundary (s : State) (a : Attempt) : Keeps [.notices, .server] s (s.boundary a).1 := by
  unfold State.boundary
  split
  · exact Keeps.refl _ _
  · exact keeps_raiseIf _ _ _

theorem keeps_tallyAndDraw (s : State) (a : Attempt) (v : Vector Nat 12) :
    Keeps inkBlocks s (s.tallyAndDraw a v).1 :=
  ((Keeps.refl _ s).then (keeps_raiseIf s _ _)).then (keeps_drawAll _ _)

theorem keeps_markUncut (s : State) (n : Nat) : Keeps [.uncut, .store] s (s.markUncut n) :=
  keeps_ite _ (keeps_writeUncut _ _) (Keeps.refl _ _)

theorem keeps_checkSlip (s : State) (l n : Nat) (o : Option Word32) :
    Keeps [.media, .notices, .server] s (s.checkSlip l n o).1 := by
  unfold State.checkSlip
  split
  · exact keeps_noteMedia _ _ _
  · exact Keeps.refl _ _

/-- The blocks that paper moving under an attempt can change. -/
abbrev paperBlocks : List Block := [.media, .uncut, .store, .orders, .notices, .server]

theorem keeps_movePaper (s : State) (a : Attempt) (c : EngineCommand) (n : Nat) :
    Keeps paperBlocks s (s.movePaper a c n).1 :=
  (((Keeps.refl _ s).then (keeps_advancePosition _ _ _)).then (keeps_checkSlip _ _ _ _)).then (keeps_markUncut _ _)

theorem keeps_attemptFed (s : State) (a : Attempt) (c : EngineCommand) (n : Nat) :
    Keeps [.media, .uncut, .store, .orders, .notices, .server, .holder] s (s.attemptFed a c n) :=
  ((Keeps.refl _ s).then (keeps_movePaper s a c n)).then (keeps_setAttempt _ _)

/-- The blocks that a printed band or strip can change. -/
abbrev printBlocks : List Block := [.colour, .ink, .media, .uncut, .store, .orders, .notices, .server, .holder]

theorem keeps_attemptBanded (s : State) (a : Attempt) (c : EngineCommand) (n : Nat) (d : Vector Drops 12) :
    Keeps printBlocks s (s.attemptBanded a c n d) :=
  (((Keeps.refl _ s).then (keeps_tallyAndDraw s a (s.volumes d))).then (keeps_movePaper _ _ c n)).then
    (keeps_setAttempt _ _)

theorem keeps_attemptStripped (s : State) (a : Attempt) (c : EngineCommand) (n : Nat) (d : Vector Drops 12)
    (r : Vector Reading 16) : Keeps printBlocks s (s.attemptStripped a c n d r) :=
  ((((Keeps.refl _ s).then (keeps_tallyAndDraw s a (s.volumes d))).then (keeps_movePaper _ _ c n)).then
    (keeps_judgeStrip _ _ r)).then (keeps_setAttempt _ _)

theorem keeps_attemptStopped (s : State) (a : Attempt) (n : Nat) (d : Vector Drops 12) (b : Bool) :
    Keeps printBlocks s (s.attemptStopped a n d b) :=
  ((((Keeps.refl _ s).then (keeps_tallyAndDraw s a (s.volumes d))).then (keeps_advancePosition _ n _)).then
    (keeps_markUncut _ n)).then (keeps_setAttempt _ _)

theorem keeps_applyOutcome (s : State) (i : Fin 40) (o : AttemptOutcome) :
    Keeps [.orders, .notices, .server] s (s.applyOutcome i o) := by
  unfold State.applyOutcome
  split
  · exact Keeps.refl _ _
  · simp only []
    split
    · exact keeps_finishOrder _ _ _ _
    · exact ((Keeps.refl _ s).then (keeps_setOrders s _)).then (keeps_raise _ _)

/-- The blocks that the end of an attempt can change. -/
abbrev endBlocks : List Block := [.holder, .costs, .editions, .media, .uncut, .store, .orders, .notices, .server]

theorem keeps_endAttempt (s : State) (a : Attempt) (o : AttemptOutcome) (own : Bool) :
    Keeps [.holder, .costs, .editions, .store, .orders, .notices, .server] s (s.endAttempt a o own) :=
  (((Keeps.refl _ s).then (keeps_ite (l := [.costs, .editions, .store, .orders, .notices, .server]) (o = .accepted)
    (((Keeps.refl _ s).then (keeps_postAttempt s a o own)).then (keeps_numberPrint _ a))
    ((keeps_postAttempt s a o own).mono))).then (keeps_applyOutcome _ a.slot o)).then (keeps_setHolder _ _)

theorem keeps_attemptCut (s : State) (a : Attempt) : Keeps endBlocks s (s.attemptCut a) := by
  unfold State.attemptCut
  exact keeps_ite _
    ((((Keeps.refl _ s).then (keeps_postWaste s a _ true)).then (keeps_writeUncut _ _)).then (keeps_setAttempt _ _))
    (((Keeps.refl _ s).then (keeps_writeUncut s _)).then (keeps_endAttempt _ _ _ _))

theorem keeps_setClearOut (s : State) : Keeps [.media, .store] s s.setClearOut :=
  keeps_ite _ (keeps_setRoll _ _) (Keeps.refl _ _)

theorem keeps_endAtOnce (s : State) (a : Attempt) (o : AttemptOutcome) (b : Bool) :
    Keeps endBlocks s (s.endAtOnce a o b) := by
  unfold State.endAtOnce
  have h : Keeps endBlocks s (if a.phase = .wasteFeed ∨ a.phase = .wasteCut
      then s.postWaste a (pulsesToMm a.wastePulses) false else s) :=
    keeps_ite _ ((keeps_postWaste _ _ _ _).mono) (Keeps.refl _ _)
  generalize (if a.phase = .wasteFeed ∨ a.phase = .wasteCut
      then s.postWaste a (pulsesToMm a.wastePulses) false else s) = u at h ⊢
  exact ((h.then (keeps_ite (l := [.media, .store]) ((b && u.uncut) = true) (keeps_setClearOut u) (Keeps.refl _ u))).then
    (keeps_writeUncut _ _)).then (keeps_endAttempt _ _ _ _)

/-! ### The slot -/

theorem keeps_issue (s : State) (c : EngineCommand) (p : Party) : Keeps [.engine] s (s.issue c p) := keeps_setEngine _ _

theorem keeps_issuePhase (s : State) (a : Attempt) : Keeps [.engine, .holder] s (s.issuePhase a) := by
  unfold State.issuePhase
  split
  · exact (keeps_setAttempt _ _).mono
  · exact ((Keeps.refl _ s).then (keeps_issue _ _ _)).then (keeps_setAttempt _ _)

theorem keeps_serveAttempt (s : State) (a : Attempt) : Keeps [.engine, .holder, .notices, .server] s (s.serveAttempt a) :=
  keeps_ite _ (keeps_ite _ (((Keeps.refl _ s).then (keeps_boundary s a)).then (keeps_issuePhase _ _))
    ((keeps_issuePhase _ _).mono)) (Keeps.refl _ _)

theorem keeps_serveTask (s : State) (t : Task) (p : Party) : Keeps [.engine] s (s.serveTask t p) :=
  keeps_ite _ (keeps_issue _ _ _) (Keeps.refl _ _)

/-- The blocks that serving the slot can change. -/
abbrev slotBlocks : List Block := [.orders, .holder, .engine, .ink, .notices, .server]

theorem keeps_select (s : State) : Keeps slotBlocks s s.select := by
  unfold State.select
  have h : Keeps slotBlocks s s.reevaluate := (keeps_reevaluate s).mono
  simp only []
  split
  · exact h
  · split
    · exact (h.then (keeps_startAttempt _ _ _)).then (keeps_serveAttempt _ _)
    · exact h.then (keeps_startAttempt _ _ _)

theorem keeps_offerWork (s : State) : Keeps slotBlocks s s.offerWork := by
  unfold State.offerWork
  refine keeps_ite _ (((Keeps.refl _ s).then (keeps_setHolder s _)).then (keeps_issue _ _ _)) ?_
  refine keeps_ite _ ((((Keeps.refl _ s).then (keeps_setInk s _)).then (keeps_setHolder _ _)).then (keeps_issue _ _ _)) ?_
  split
  · exact (((Keeps.refl _ s).then (keeps_setEngine s _)).then (keeps_setHolder _ _)).then (keeps_issue _ _ _)
  · exact keeps_ite _ (keeps_select s) (Keeps.refl _ _)

theorem keeps_offer (s : State) : Keeps slotBlocks s s.offer := by
  unfold State.offer
  split
  · exact (keeps_issue _ _ _).mono
  · exact keeps_ite _ (((Keeps.refl _ s).then (keeps_issue s _ _)).then (keeps_setHolder _ _)) (Keeps.refl _ _)
  all_goals exact keeps_ite _ (keeps_offerWork s) (Keeps.refl _ _)

theorem keeps_serveSlot (s : State) : Keeps slotBlocks s s.serveSlot := by
  unfold State.serveSlot
  refine keeps_ite _ (Keeps.refl _ _) ?_
  split
  · exact keeps_offer s
  · exact (keeps_serveAttempt _ _).mono
  · exact (keeps_serveTask _ _ _).mono
  · exact (keeps_serveTask _ _ _).mono
  · exact Keeps.refl _ _
  · exact ((Keeps.refl _ s).then (keeps_issue s _ _)).then (keeps_setHolder _ _)
  · exact Keeps.refl _ _

/-! ### What arrives from the engine -/

/-- Every block but the queue, power, the quiet time and the free-value counter. -/
abbrev workBlocks : List Block :=
  [.orders, .holder, .uncut, .engine, .media, .ink, .colour, .editions, .costs, .notices, .server, .store]

theorem keeps_endTask (s : State) (t : Task) (b : Bool) : Keeps endBlocks s (s.endTask t b) := by
  unfold State.endTask
  have h : Keeps endBlocks s (if t.pulses.isSome then s.postTask t.pulses false else s) :=
    keeps_ite _ ((keeps_postTask _ _ _).mono) (Keeps.refl _ _)
  generalize (if t.pulses.isSome then s.postTask t.pulses false else s) = u at h ⊢
  exact (h.then (keeps_ite (l := [.media, .store]) ((b && decide (0 < t.pulses.getD 0)) = true) (keeps_setClearOut u)
    (Keeps.refl _ u))).then (keeps_setHolder _ _)

theorem keeps_returnLevels (s : State) (v : Vector Nat 12) : Keeps [.ink, .holder] s (s.returnLevels v) :=
  ((Keeps.refl _ s).then (keeps_requestCleanings s v)).then (keeps_setHolder _ _)

theorem keeps_endHolder (s : State) :
    Keeps [.ink, .holder, .costs, .editions, .media, .uncut, .store, .orders, .notices, .server] s s.endHolder := by
  unfold State.endHolder
  split
  · exact Keeps.refl _ _
  · exact (keeps_endAtOnce _ _ _ _).mono
  · exact (keeps_endTask _ _ _).mono
  · exact (keeps_endTask _ _ _).mono
  · exact (keeps_returnLevels _ _).mono
  · exact (keeps_setHolder _ _).mono

theorem keeps_abandon (s : State) : Keeps [.engine] s s.abandon := by
  unfold State.abandon
  split
  · exact Keeps.refl _ _
  · exact keeps_setEngine _ _

/-- What an engine failure can change. -/
abbrev failBlocks : List Block :=
  [.engine, .ink, .holder, .costs, .editions, .media, .uncut, .store, .orders, .notices, .server]

theorem keeps_enterOff (s : State) : Keeps failBlocks s s.enterOff := by
  unfold State.enterOff
  have h : Keeps failBlocks s s.abandon.endHolder :=
    ((Keeps.refl _ s).then (keeps_abandon s)).then (keeps_endHolder _)
  generalize s.abandon.endHolder = u at h ⊢
  have k := h.then (keeps_setEngine u { u.engine with probeRun := 0 })
  exact keeps_ite _ (k.then (keeps_setHolder _ _)) k

theorem keeps_setEngineState (s : State) (e : EngineState) :
    Keeps [.engine, .notices, .server] s (s.setEngineState e) :=
  ((Keeps.refl _ s).then (keeps_setEngine s _)).then (keeps_raise _ _)

theorem keeps_setCount (s : State) (n : Nat) : Keeps failBlocks s (s.setCount n) := by
  unfold State.setCount
  have h : Keeps failBlocks s (s.setEngine { s.engine with errorCount := n }) := (keeps_setEngine s _).mono
  generalize s.setEngine { s.engine with errorCount := n } = u at h ⊢
  have k := h.then (keeps_setEngineState u (stateOfCount n))
  exact keeps_ite _ h (keeps_ite _ (k.then (keeps_enterOff _)) k)

theorem keeps_addErrors (s : State) (k : Nat) : Keeps failBlocks s (s.addErrors k) :=
  keeps_ite _ (keeps_setCount _ _) (Keeps.refl _ _)

theorem keeps_forgiveError (s : State) : Keeps failBlocks s s.forgiveError :=
  keeps_ite _ (keeps_setCount _ _) (Keeps.refl _ _)

theorem keeps_taskFed (s : State) (t : Task) (c : EngineCommand) (n : Nat) (b : Bool) :
    Keeps [.holder, .media, .store, .orders, .notices, .server] s (s.taskFed t c n b) :=
  (((Keeps.refl _ s).then (keeps_advancePosition s n none)).then (keeps_checkSlip _ _ n none)).then (keeps_setHolder _ _)

theorem keeps_clearOutCut (s : State) (t : Task) : Keeps workBlocks s (s.clearOutCut t) :=
  (((Keeps.refl _ s).then (keeps_setRoll s _)).then (keeps_postTask _ _ _)).then (keeps_setHolder _ _)

theorem keeps_trimCut (s : State) (t : Task) : Keeps workBlocks s (s.trimCut t) :=
  ((Keeps.refl _ s).then (keeps_postTask s _ _)).then (keeps_setHolder _ _)

theorem keeps_cleanDone (s : State) (v : Vector Nat 12) : Keeps workBlocks s (s.cleanDone v) :=
  (((Keeps.refl _ s).then (keeps_drawAll s _)).then (keeps_postCleaning _ _)).then (keeps_setHolder _ _)

theorem keeps_probeAcked (s : State) : Keeps [.engine, .holder, .notices, .server] s s.probeAcked :=
  keeps_ite _ ((keeps_setEngine _ _).mono)
    ((((Keeps.refl _ s).then (keeps_setEngine s _)).then (keeps_setEngineState _ _)).then (keeps_setHolder _ _))

theorem keeps_readyTaken (s : State) : Keeps [.engine, .notices, .server] s s.readyTaken :=
  ((Keeps.refl _ s).then (keeps_setEngine s _)).then (keeps_setEngineState _ _)

theorem keeps_orphanReport (s : State) (r : Report) : Keeps inkBlocks s (s.orphanReport r) := by
  unfold State.orphanReport
  split
  · exact Keeps.refl _ _
  · exact keeps_drawAll _ _

theorem keeps_attemptReport (s : State) (a : Attempt) (c : EngineCommand) (r : Report) :
    Keeps workBlocks s (s.attemptReport a c r) := by
  cases r
  · exact (keeps_attemptFed _ _ _ _).mono
  · exact (keeps_attemptBanded _ _ _ _ _).mono
  · exact (keeps_attemptStopped _ _ _ _ _).mono
  · exact (keeps_attemptStripped _ _ _ _ _ _).mono
  · exact (keeps_attemptStopped _ _ _ _ _).mono
  · exact (keeps_attemptCut _ _).mono
  all_goals exact Keeps.refl _ _

theorem keeps_taskReport (s : State) (t : Task) (c : EngineCommand) (b : Bool) (r : Report) :
    Keeps workBlocks s (s.taskReport t c b r) := by
  cases r
  case feedDone => exact (keeps_taskFed _ _ _ _ _).mono
  case cutDone => exact keeps_ite _ (keeps_trimCut _ _) (keeps_clearOutCut _ _)
  all_goals exact Keeps.refl _ _

theorem keeps_deliver (s : State) (c : EngineCommand) (p : Party) (r : Report) : Keeps workBlocks s (s.deliver c p r) := by
  unfold State.deliver
  split
  · exact (keeps_readyTaken _).mono
  · exact keeps_attemptReport _ _ _ _
  · exact keeps_taskReport _ _ _ _ _
  · exact keeps_taskReport _ _ _ _ _
  · exact keeps_cleanDone _ _
  · exact (keeps_probeAcked _).mono
  · exact (keeps_orphanReport _ _).mono

theorem keeps_correctReport (s : State) (o : Outstanding) (r : Report) : Keeps workBlocks s (s.correctReport o r) :=
  (((Keeps.refl _ s).then (keeps_setEngine s _)).then (keeps_forgiveError _)).then (keeps_deliver _ _ _ _)

theorem keeps_lateInk (s : State) (r : Report) :
    Keeps [.ink, .costs, .store, .orders, .notices, .server] s (s.lateInk r) := by
  unfold State.lateInk
  split
  · exact Keeps.refl _ _
  · exact ((Keeps.refl _ s).then (keeps_drawAll s _)).then (keeps_postLateInk _ _)

theorem keeps_latePulses (s : State) (r : Report) :
    Keeps [.media, .store, .orders, .notices, .server] s (s.latePulses r) := by
  unfold State.latePulses
  split
  · exact Keeps.refl _ _
  · exact keeps_advancePosition _ _ _

theorem keeps_lateReport (s : State) (r : Report) : Keeps workBlocks s (s.lateReport r) :=
  ((((Keeps.refl _ s).then (keeps_setEngine s _)).then (keeps_setEngine _ _)).then (keeps_lateInk _ r)).then
    (keeps_latePulses _ r)

theorem keeps_mismatchedReport (s : State) : Keeps failBlocks s s.mismatchedReport :=
  ((Keeps.refl _ s).then (keeps_setEngine s _)).then (keeps_addErrors _ _)

theorem keeps_badFrame (s : State) : Keeps workBlocks s s.badFrame :=
  keeps_ite _ ((((Keeps.refl _ s).then (keeps_setEngine s _)).then (keeps_addErrors _ _)).then (keeps_serveSlot _))
    (Keeps.refl _ _)

theorem keeps_takeReport (s : State) (tag : Byte) (r : Report) : Keeps workBlocks s (s.takeReport tag r) := by
  unfold State.takeReport
  refine keeps_ite _ ?_ (Keeps.refl _ _)
  split
  · exact (keeps_correctReport _ _ _).then (keeps_serveSlot _)
  · exact (keeps_ite _ (keeps_lateReport _ _) ((keeps_mismatchedReport _).mono)).then (keeps_serveSlot _)

theorem keeps_tellTimeout (s : State) (c : EngineCommand) (p : Party) :
    Keeps [.engine, .ink, .holder, .notices, .server] s (s.tellTimeout c p) := by
  unfold State.tellTimeout
  split
  · exact (keeps_raise _ _).mono
  · exact (keeps_setAttempt _ _).mono
  · exact (keeps_setHolder _ _).mono
  · exact (keeps_setHolder _ _).mono
  · exact (keeps_returnLevels _ _).mono
  · exact ((Keeps.refl _ s).then (keeps_setEngine s _)).then (keeps_setHolder _ _)
  · exact Keeps.refl _ _

theorem keeps_timeOut (s : State) (o : Outstanding) : Keeps workBlocks s (s.timeOut o) := by
  unfold State.timeOut
  have h : Keeps workBlocks s
      (s.setEngine { s.engine with outstanding := none, expiredTag := some o.tag }).countTimeout :=
    ((Keeps.refl _ s).then (keeps_setEngine s _)).then (keeps_setEngine _ _)
  generalize (s.setEngine { s.engine with outstanding := none, expiredTag := some o.tag }).countTimeout = u at h ⊢
  have k := h.then (keeps_addErrors u 8)
  exact keeps_ite _ k (k.then (keeps_tellTimeout _ _ _))

theorem keeps_takeTimeout (s : State) : Keeps workBlocks s s.takeTimeout := by
  unfold State.takeTimeout
  split
  · exact Keeps.refl _ _
  · exact keeps_ite _ ((keeps_timeOut _ _).then (keeps_serveSlot _)) (Keeps.refl _ _)

theorem keeps_probeInterval (s : State) : Keeps workBlocks s s.probeInterval := by
  unfold State.probeInterval
  split
  · refine keeps_ite _ ?_ (Keeps.refl _ _)
    split
    · exact ((Keeps.refl _ s).then (keeps_setHolder s _)).then (keeps_serveSlot _)
    · exact ((keeps_timeOut _ _).then (keeps_setHolder _ _)).then (keeps_serveSlot _)
  · exact Keeps.refl _ _

theorem keeps_orphanCommand (s : State) : Keeps [.engine] s s.orphanCommand := by
  unfold State.orphanCommand
  split
  · exact Keeps.refl _ _
  · exact keeps_ite _ (keeps_setEngine _ _) (Keeps.refl _ _)

theorem keeps_endRollUser (s : State) : Keeps failBlocks s s.endRollUser := by
  unfold State.endRollUser
  split
  · exact ((Keeps.refl _ s).then (keeps_orphanCommand s)).then (keeps_endAtOnce _ _ _ _)
  · next t _ =>
    have h : Keeps failBlocks s (if t.pulses.isSome then s.postTask t.pulses false else s) :=
      keeps_ite _ ((keeps_postTask _ _ _).mono) (Keeps.refl _ _)
    exact (h.then (keeps_orphanCommand _)).then (keeps_setHolder _ _)
  · exact ((Keeps.refl _ s).then (keeps_orphanCommand s)).then (keeps_setHolder _ _)
  all_goals exact Keeps.refl _ _

theorem keeps_removeRoll (s : State) : Keeps failBlocks s s.removeRoll :=
  (((((Keeps.refl _ s).then (keeps_setRoll s _)).then (keeps_setEngine _ _)).then (keeps_noteMedia _ _ _)).then
    (keeps_endRollUser _)).then (keeps_reevaluate _)

theorem keeps_rollAbsent (s : State) : Keeps failBlocks s s.rollAbsent := by
  unfold State.rollAbsent
  have h := keeps_setMedia s { s.media with present := false }
  exact keeps_ite _ (keeps_ite _ (((Keeps.refl _ s).then h).then (keeps_removeRoll _)) (h.mono)) (Keeps.refl _ _)

theorem keeps_takeRollEvent (s : State) (b : Byte) : Keeps workBlocks s (s.takeRollEvent b) := by
  unfold State.takeRollEvent
  exact keeps_ite _ ((((Keeps.refl _ s).then (keeps_setMedia s _)).then (keeps_setEngine _ _)).then (keeps_serveSlot _))
    (keeps_ite _ ((((Keeps.refl _ s).then (keeps_rollAbsent s)).then (keeps_setEngine _ _)).then (keeps_serveSlot _))
      (Keeps.refl _ _))

theorem keeps_takeCoverEvent (s : State) (b : Byte) : Keeps workBlocks s (s.takeCoverEvent b) :=
  keeps_ite _ (((Keeps.refl _ s).then (keeps_setEngine s _)).then (keeps_serveSlot _)) (Keeps.refl _ _)

end Sys2Proof.Machine
end

