-- ==== Sys2Proof/Laws/Link.lean ====
section
/-! SUPPORT. What sending a frame, taking a request and beginning a write can do: the laws that every statement about a
request rests on. -/

set_option Elab.async false

namespace Sys2Proof.Machine

/-! ### The transmitter -/

theorem keeps_startFrom (l : List TxFrame) : ∀ s : State, Keeps [.server, .notices] s (s.startFrom l) := by
  induction l with
  | nil => exact fun s => (keeps_setServer s _).mono
  | cons f rest ih =>
    intro s
    cases f with
    | reply tag kind status fields => exact (keeps_setServer s _).mono
    | notice =>
      exact keeps_ite _ (((Keeps.refl _ s).then (keeps_setNotices s _)).then (ih _))
        (((Keeps.refl _ s).then (keeps_setServer s _)).then (keeps_setNotices _ _))

/-- What starting a frame leaves of the link and the notice unit. -/
theorem startFrom_link (l : List TxFrame) : ∀ s : State,
    (s.startFrom l).server.receiver = s.server.receiver ∧ (s.startFrom l).server.holding = s.server.holding ∧
      (s.startFrom l).server.counters = s.server.counters ∧ (s.startFrom l).notices.pending = s.notices.pending ∧
      (s.startFrom l).notices.enabled = s.notices.enabled ∧ (s.startFrom l).notices.owed = s.notices.owed := by
  induction l with
  | nil => intro s; simp [State.startFrom]
  | cons f rest ih =>
    intro s
    cases f with
    | reply tag kind status fields => simp [State.startFrom]
    | notice =>
      simp only [State.startFrom]
      split
      · have h := ih (s.setNotices { s.notices with place := .none })
        simpa using h
      · simp

/-- A reply at the end of the queue stays there. -/
theorem startFrom_last (tag kind : Byte) (status : Status) (fields : List Byte) (l : List TxFrame) : ∀ s : State,
    (s.startFrom (l ++ [.reply tag kind status fields])).server.tx.getLast? =
      some (.reply tag kind status fields) := by
  induction l with
  | nil => intro s; simp [State.startFrom]
  | cons f rest ih =>
    intro s
    cases f with
    | reply tag' kind' status' fields' => simp [State.startFrom, List.getLast?_cons]
    | notice =>
      simp only [List.cons_append, State.startFrom]
      split
      · exact ih _
      · simp [List.getLast?_cons]

theorem keeps_kick (s : State) : Keeps [.server, .notices] s s.kick :=
  keeps_ite _ (Keeps.refl _ _) (keeps_startFrom _ _)

theorem kick_link (s : State) :
    s.kick.server.receiver = s.server.receiver ∧ s.kick.server.holding = s.server.holding ∧
      s.kick.server.counters = s.server.counters ∧ s.kick.notices.pending = s.notices.pending ∧
      s.kick.notices.enabled = s.notices.enabled ∧ s.kick.notices.owed = s.notices.owed := by
  unfold State.kick
  split
  · simp
  · exact startFrom_link _ _

/-- A busy transmitter stays with its frame. -/
theorem kick_busy (s : State) (h : s.server.sending.isSome = true) : s.kick = s := by simp [State.kick, h]

theorem kick_last (s : State) (l : List TxFrame) (tag kind : Byte) (status : Status) (fields : List Byte)
    (h : s.server.tx = l ++ [.reply tag kind status fields]) :
    s.kick.server.tx.getLast? = some (.reply tag kind status fields) := by
  unfold State.kick
  split
  · simp [h]
  · rw [h]; exact startFrom_last _ _ _ _ _ _

/-! ### The store -/

theorem keeps_beginWrite (s : State) : Keeps [.store, .quiet] s s.beginWrite :=
  keeps_ite _ (((Keeps.refl _ s).then (keeps_setStore s _)).then (keeps_setQuiet _ _)) (Keeps.refl _ _)

theorem beginWrite_quiet (s : State) (h : s.quiet = none) : s.beginWrite.quiet = none := by
  unfold State.beginWrite
  split <;> simp [h]

/-- A write leaves the retained set as it stands. -/
theorem beginWrite_retained (s : State) : s.beginWrite.retained = s.retained := by
  unfold State.beginWrite
  split <;> simp [State.retained]

theorem kick_retained (s : State) : s.kick.retained = s.retained := by
  have h := keeps_kick s
  simp only [State.retained]
  rw [h.at .media, h.at .colour, h.at .editions, h.at .costs, h.at .ink, h.at .uncut, h.at .engine]

theorem beginWrite_record (s : State) : StoreRecordKept s s.beginWrite := by
  unfold State.beginWrite
  split <;> simp [StoreRecordKept]

/-! ### The end of a step -/

theorem keeps_closeStep (s : State) : Keeps [.server, .notices, .store, .quiet] s s.closeStep :=
  ((Keeps.refl _ s).then (keeps_kick s)).then (keeps_beginWrite _)

/-- A frame that leaves out the quiet time, when that is the same. -/
theorem Keeps.dropQuiet {s t : State} (h : Keeps [.server, .notices, .store, .quiet] s t) (q : t.quiet = s.quiet) :
    Keeps linkBlocks s t := by
  intro b hb
  by_cases hq : b = .quiet
  · subst hq; exact q
  · exact h b (by simp_all [linkBlocks])

theorem keeps_closeStep_working (s : State) (h : s.quiet = none) : Keeps linkBlocks s s.closeStep := by
  refine (keeps_closeStep s).dropQuiet ?_
  have q : s.kick.quiet = s.quiet := (keeps_kick s).at .quiet
  show s.kick.beginWrite.quiet = s.quiet
  rw [beginWrite_quiet _ (q.trans h), h]

/-- What closing a step leaves of the link, the notices and the store's record. -/
theorem closeStep_link (s : State) :
    s.closeStep.server.receiver = s.server.receiver ∧ s.closeStep.server.holding = s.server.holding ∧
      s.closeStep.server.counters = s.server.counters ∧ NoticesKept s s.closeStep ∧ StoreRecordKept s s.closeStep := by
  have hs : s.closeStep.server = s.kick.server := (keeps_beginWrite s.kick).at .server
  have hn : s.closeStep.notices = s.kick.notices := (keeps_beginWrite s.kick).at .notices
  have hst : s.kick.store = s.store := (keeps_kick s).at .store
  obtain ⟨h1, h2, h3, h4, h5, h6⟩ := kick_link s
  refine ⟨by rw [hs, h1], by rw [hs, h2], by rw [hs, h3], ?_, ?_⟩
  · exact ⟨by rw [hn, h4], by rw [hn, h5], by rw [hn, h6], fun h => by rw [hn, kick_busy s h]⟩
  · have h := beginWrite_record s.kick
    simpa [StoreRecordKept, hst, State.closeStep] using h

/-- Closing a step leaves the queue of a busy transmitter as it is. -/
theorem closeStep_busy (s : State) (h : s.server.sending.isSome = true) :
    s.closeStep.server = s.server ∧ s.closeStep.notices = s.notices := by
  have hk := kick_busy s h
  unfold State.closeStep
  rw [hk]
  exact ⟨(keeps_beginWrite s).at .server, (keeps_beginWrite s).at .notices⟩

/-- The store after a step that marked it. -/
theorem closeStep_marked (s : State) (hq : s.quiet = none) (hd : s.store.dirty = true) :
    (s.store.writing = none → s.closeStep.store.dirty = false ∧ s.closeStep.store.writing = some s.closeStep.retained) ∧
      (s.store.writing ≠ none → s.closeStep.store.dirty = true ∧ s.closeStep.store.writing = s.store.writing) := by
  have hst : s.kick.store = s.store := (keeps_kick s).at .store
  have hqk : s.kick.quiet = none := ((keeps_kick s).at .quiet).trans hq
  have hr : s.closeStep.retained = s.kick.retained := beginWrite_retained _
  constructor
  · intro h
    rw [hr]
    unfold State.closeStep State.beginWrite
    simp [hst, hd, h, State.mayWrite, hqk]
  · intro h
    cases hw : s.store.writing with
    | none => exact absurd hw h
    | some x =>
      unfold State.closeStep State.beginWrite
      simp [hst, hd, hw]

/-- The store after a step that did not mark it. -/
theorem closeStep_unmarked (s : State) :
    (s.store.dirty = false → s.closeStep.store = s.store) ∧ (s.store.writing ≠ none → s.closeStep.store = s.store) := by
  have hst : s.kick.store = s.store := (keeps_kick s).at .store
  constructor
  · intro h
    unfold State.closeStep State.beginWrite
    simp [hst, h]
  · intro h
    cases hw : s.store.writing with
    | none => exact absurd hw h
    | some x =>
      unfold State.closeStep State.beginWrite
      simp [hst, hw]

/-! ### A request taken at once -/

/-- The state in which a request's rule is carried out: frames taken has advanced. -/
theorem keeps_countTaken (s : State) : Keeps [.server] s s.countTaken := keeps_setServer _ _

theorem countTaken_server (s : State) :
    s.countTaken.server = { s.server with counters :=
      { s.server.counters with framesTaken := min 65535 (s.server.counters.framesTaken + 1) } } := rfl

/-- A request command in a part that takes it at once runs its rule and queues its one reply. -/
theorem runRequest_taken (s : State) (h : Takes s) (kind tag : Byte) (p : List Byte) (rule : RequestRule) :
    s.runRequest kind tag p rule =
      .next (s.takeRequest { kind := kind, tag := tag, payload := p } rule).closeStep := by
  obtain ⟨h1, h2, h3, h4⟩ := h
  simp [State.runRequest, State.run, State.receiveFrame, State.takesRequests, State.working, h1, h2, h3, h4]

/-- The state a taken request ends in, by what its rule answered: every block outside the link as the rule left it, the
reply the newest frame, and the notices and the store as the rule left them but for what closes every step. -/
theorem takeRequest_closed (s : State) (kind tag : Byte) (p : List Byte) (rule : RequestRule) (a : Answer)
    (ha : rule p s.countTaken = a) :
    let t := (s.takeRequest { kind := kind, tag := tag, payload := p } rule).closeStep
    Keeps [.server, .notices, .store, .quiet] a.state t ∧ (a.state.quiet = none → t.quiet = none) ∧
      t.server.tx.getLast? = some (.reply tag kind a.status a.fields) ∧
      t.server.receiver = a.state.server.receiver ∧ t.server.holding = a.state.server.holding ∧
      t.server.counters = a.state.server.counters ∧ NoticesKept a.state t ∧ StoreRecordKept a.state t ∧
      (a.state.quiet = none → a.state.store.dirty = true →
        (a.state.store.writing = none → t.store.dirty = false ∧ t.store.writing = some t.retained) ∧
        (a.state.store.writing ≠ none → t.store.dirty = true ∧ t.store.writing = a.state.store.writing)) ∧
      (a.state.store.dirty = false → t.store = a.state.store) ∧
      (a.state.store.writing ≠ none → t.store = a.state.store) ∧
      (a.state.server.sending.isSome = true → t.server.sending = a.state.server.sending ∧
        t.notices.place = a.state.notices.place ∧
        t.server.tx = a.state.server.tx ++ [.reply tag kind a.status a.fields]) := by
  intro t
  have hu : s.takeRequest { kind := kind, tag := tag, payload := p } rule =
      a.state.setServer { a.state.server with tx := a.state.server.tx ++ [.reply tag kind a.status a.fields] } := by
    rw [← ha]; rfl
  have ht : t = (a.state.setServer
      { a.state.server with tx := a.state.server.tx ++ [.reply tag kind a.status a.fields] }).closeStep := by
    show State.closeStep _ = _
    rw [hu]
  generalize hv : a.state.setServer
      { a.state.server with tx := a.state.server.tx ++ [.reply tag kind a.status a.fields] } = u at ht
  have ku : Keeps [.server] a.state u := hv ▸ keeps_setServer _ _
  have hsrv : u.server = { a.state.server with tx := a.state.server.tx ++ [.reply tag kind a.status a.fields] } := by
    rw [← hv]; rfl
  have hn : u.notices = a.state.notices := ku.at .notices
  have hst : u.store = a.state.store := ku.at .store
  have hq : u.quiet = a.state.quiet := ku.at .quiet
  obtain ⟨l1, l2, l3, l4, l5⟩ := closeStep_link u
  have m := closeStep_marked u
  have n := closeStep_unmarked u
  have hlast : t.server.tx.getLast? = some (.reply tag kind a.status a.fields) := by
    rw [ht]
    have : u.closeStep.server = u.kick.server := (keeps_beginWrite u.kick).at .server
    rw [this]
    exact kick_last u a.state.server.tx tag kind a.status a.fields (by rw [hsrv])
  refine ⟨?_, ?_, hlast, ?_, ?_, ?_, ?_, ?_, ?_, ?_, ?_, ?_⟩
  · rw [ht]; exact ((Keeps.refl _ _).then ku).then (keeps_closeStep u)
  · intro h
    have := (keeps_closeStep_working u (hq.trans h)).at .quiet
    rw [ht]; exact Eq.trans this (hq.trans h)
  · rw [ht, l1, hsrv]
  · rw [ht, l2, hsrv]
  · rw [ht, l3, hsrv]
  · rw [ht]; simpa [NoticesKept, hn, hsrv] using l4
  · rw [ht]; simpa [StoreRecordKept, hst] using l5
  · intro h1 h2
    have := m (hq.trans h1) (by rw [hst]; exact h2)
    rw [ht]; simpa [hst] using this
  · intro h; have := n.1 (by rw [hst]; exact h); rw [ht, this, hst]
  · intro h; have := n.2 (by rw [hst]; exact h); rw [ht, this, hst]
  · intro h
    have b := closeStep_busy u (by rw [hsrv]; exact h)
    rw [ht, b.1, b.2, hsrv, hn]
    exact ⟨rfl, rfl, rfl⟩

/-- A request whose rule changes nothing: a refusal or a query. -/
theorem runRequest_onlyReplied (s : State) (h : Takes s) (kind tag : Byte) (p : List Byte) (rule : RequestRule)
    (status : Status) (fields : List Byte)
    (hr : rule p s.countTaken = { state := s.countTaken, status := status, fields := fields }) :
    ∃ t, s.runRequest kind tag p rule = .next t ∧ OnlyReplied s t kind tag status fields := by
  refine ⟨_, runRequest_taken s h kind tag p rule, ?_⟩
  obtain ⟨h1, h2, h3, h4, h5, h6, h7, h8, h9, h10, h11, h12⟩ :=
    takeRequest_closed s kind tag p rule _ hr
  have hq : s.quiet = none := h.2.1
  refine ⟨⟨h3, ?_, ?_, ?_, fun b => ⟨(h12 b).1, .inl (h12 b).2⟩⟩, ?_, ⟨?_, ?_, ?_⟩, ?_⟩
  · exact h4
  · rw [h5]; exact h.2.2.1
  · rw [h6]; rfl
  · exact h7
  · exact h8
  · exact h10
  · exact h11
  · have k : Keeps [.server, .notices, .store, .quiet] s
        (s.takeRequest { kind := kind, tag := tag, payload := p } rule).closeStep :=
      ((Keeps.refl _ s).then (keeps_countTaken s)).then h1
    exact k.dropQuiet (Eq.trans (h2 hq) hq.symm)

/-- An answered request: what its rule left outside the link stands in the next state, its reply is the newest frame,
and the notices and the store are as the rule left them but for the write that closes the step. -/
theorem runRequest_answered (s : State) (h : Takes s) (kind tag : Byte) (p : List Byte) (rule : RequestRule) (a : Answer)
    (ha : rule p s.countTaken = a) (hq : a.state.quiet = none)
    (hr : a.state.server.receiver = s.server.receiver) (hh : a.state.server.holding = [])
    (hc : a.state.server.counters =
      { s.server.counters with framesTaken := min 65535 (s.server.counters.framesTaken + 1) })
    (hb : s.server.sending.isSome = true → Queued s a.state []) :
    ∃ t, s.runRequest kind tag p rule = .next t ∧ Keeps linkBlocks a.state t ∧
      Replied s t kind tag a.status a.fields ∧ NoticesKept a.state t ∧ StoreRecordKept a.state t ∧
      (a.state.store.dirty = true → StoreMarked a.state t) ∧ StoreUnmarked a.state t := by
  refine ⟨_, runRequest_taken s h kind tag p rule, ?_⟩
  obtain ⟨h1, h2, h3, h4, h5, h6, h7, h8, h9, h10, h11, h12⟩ := takeRequest_closed s kind tag p rule a ha
  refine ⟨h1.dropQuiet (Eq.trans (h2 hq) hq.symm), ⟨h3, by rw [h4, hr], by rw [h5, hh], by rw [h6, hc], ?_⟩, h7, h8, ?_, ?_⟩
  · intro b
    obtain ⟨q0, q⟩ := hb b
    obtain ⟨c1, c2, c3⟩ := h12 (by rw [q0]; exact b)
    refine ⟨c1.trans q0, ?_⟩
    obtain ⟨p1, p2⟩ | ⟨p1, p2, p3⟩ := q
    · exact .inl ⟨c2.trans p1, by rw [c3, p2, List.append_nil]⟩
    · exact .inr ⟨p1, c2.trans p2, by rw [c3, p3, List.append_assoc]; rfl⟩
  · exact fun hd => ⟨h8, (h9 hq hd).1, (h9 hq hd).2⟩
  · exact ⟨h8, h10, h11⟩

/-- An answered request whose rule left the link, the notices and the quiet time alone. -/
theorem runRequest_quietly (s : State) (h : Takes s) (kind tag : Byte) (p : List Byte) (rule : RequestRule) (a : Answer)
    (l : List Block) (ha : rule p s.countTaken = a) (hk : Keeps l s.countTaken a.state)
    (hl : (l.all fun b => !(([Block.pending, .held, .quiet, .notices, .server] : List Block).contains b)) = true := by decide) :
    ∃ t, s.runRequest kind tag p rule = .next t ∧ Keeps linkBlocks a.state t ∧
      Replied s t kind tag a.status a.fields ∧ NoticesKept s t ∧ StoreRecordKept a.state t ∧
      (a.state.store.dirty = true → StoreMarked a.state t) ∧ StoreUnmarked a.state t ∧ Keeps (l ++ linkBlocks) s t := by
  have out : ∀ b : Block, b ∈ [Block.pending, .held, .quiet, .notices, .server] → b ∉ l := by
    intro b hb hbl
    have := List.all_eq_true.mp hl b hbl
    simp_all
  have kq : a.state.quiet = s.quiet := (hk.at .quiet (out _ (by simp)))
  have ks : a.state.server = s.countTaken.server := (hk.at .server (out _ (by simp)))
  have kn : a.state.notices = s.notices := (hk.at .notices (out _ (by simp)))
  obtain ⟨t, ht, h1, h2, h3, h4, h5, h6⟩ := runRequest_answered s h kind tag p rule a ha (kq.trans h.2.1)
    (by rw [ks]; rfl) (by rw [ks]; exact h.2.2.1) (by rw [ks]; rfl)
    (fun _ => ⟨by rw [ks]; rfl, .inl ⟨by rw [kn], by rw [ks, List.append_nil]; rfl⟩⟩)
  refine ⟨t, ht, h1, h2, ?_, h4, h5, h6, ?_⟩
  · obtain ⟨n1, n2, n3, n4⟩ := h3
    exact ⟨by rw [n1, kn], by rw [n2, kn], by rw [n3, kn], fun b => by rw [n4 (by rw [ks]; exact b), kn]⟩
  · intro b hb
    have hb1 : b ∉ l := fun x => hb (List.mem_append_left _ x)
    have hb2 : b ∉ linkBlocks := fun x => hb (List.mem_append_right _ x)
    have hb3 : b ∉ [Block.server] := fun x => hb2 (by simp_all [linkBlocks])
    have e1 := keeps_countTaken s b hb3
    have e2 := hk b hb1
    have e3 := h1 b hb2
    cases b <;> exact Eq.trans e3 (Eq.trans e2 e1)

end Sys2Proof.Machine
end

