-- ==== Sys2Proof/Laws/LinkKept.lean ====
section
/-! SUPPORT. What every operation of the blocks leaves of the server link and the notice unit: beyond making categories
pending and queuing one NOTICE frame it touches neither. -/

set_option Elab.async false

namespace Sys2Proof.Machine

/-- The link is as before but for what triggers do: a NOTICE frame may have joined the transmit queue, categories may have
gone pending, and the invariant of the queues is kept. -/
structure LinkKept (s t : State) : Prop where
  receiver : t.server.receiver = s.server.receiver
  holding : t.server.holding = s.server.holding
  sending : t.server.sending = s.server.sending
  counters : t.server.counters = s.server.counters
  queue : (t.notices.place = s.notices.place ∧ t.server.tx = s.server.tx) ∨
    (s.notices.place = .none ∧ t.notices.place = .awaiting ∧ t.server.tx = s.server.tx ++ [.notice])
  enabled : t.notices.enabled = s.notices.enabled
  pending : s.notices.pending &&& t.notices.pending = s.notices.pending
  bounded : LinkBounded s → LinkBounded t

theorem replyCount_append (l m : List TxFrame) : replyCount (l ++ m) = replyCount l + replyCount m := by
  induction l with
  | nil => simp [replyCount]
  | cons f l ih => cases f <;> simp [replyCount, ih]; omega

theorem noticeCount_append (l m : List TxFrame) : noticeCount (l ++ m) = noticeCount l + noticeCount m := by
  induction l with
  | nil => simp [noticeCount]
  | cons f l ih => cases f <;> simp [noticeCount, ih]; omega

theorem LinkKept.of_same (s t : State) (hs : t.server = s.server) (hn : t.notices = s.notices) : LinkKept s t := by
  refine ⟨by rw [hs], by rw [hs], by rw [hs], by rw [hs], .inl ⟨by rw [hn], by rw [hs]⟩, by rw [hn], by rw [hn]; simp, ?_⟩
  intro h
  unfold LinkBounded at *
  rw [hs, hn]; exact h

theorem LinkKept.refl (s : State) : LinkKept s s := LinkKept.of_same s s rfl rfl

theorem LinkKept.trans {s t u : State} (h : LinkKept s t) (k : LinkKept t u) : LinkKept s u := by
  refine ⟨k.receiver.trans h.receiver, k.holding.trans h.holding, k.sending.trans h.sending,
    k.counters.trans h.counters, ?_, k.enabled.trans h.enabled, ?_, fun b => k.bounded (h.bounded b)⟩
  · obtain ⟨p, q⟩ | ⟨p, q, r⟩ := h.queue
    · rw [← p, ← q]; exact k.queue
    · obtain ⟨a, b⟩ | ⟨a, -⟩ := k.queue
      · exact .inr ⟨p, a.trans q, b.trans r⟩
      · exact absurd (a.symm.trans q) (by simp)
  have a := h.pending
  have b := k.pending
  rw [← a, BitVec.and_assoc, b]

theorem LinkKept.then {s t u : State} (h : LinkKept s t) (k : LinkKept t u) : LinkKept s u := h.trans k

theorem LinkKept.foldl {α : Type} (f : State → α → State) (h : ∀ s a, LinkKept s (f s a)) (xs : List α) :
    ∀ s, LinkKept s (xs.foldl f s) := by
  induction xs with
  | nil => exact fun s => LinkKept.refl s
  | cons x xs ih => exact fun s => (h s x).trans (ih (f s x))

theorem link_ite {s t u : State} (c : Prop) [Decidable c] (h : LinkKept s t) (k : LinkKept s u) :
    LinkKept s (if c then t else u) := by split <;> assumption

theorem LinkKept.replies {s t : State} (h : LinkKept s t) : replyCount t.server.tx = replyCount s.server.tx := by
  obtain ⟨-, q⟩ | ⟨-, -, q⟩ := h.queue <;> simp [q, replyCount_append, replyCount]

/-! ### Notices -/

theorem link_trigger (s : State) : LinkKept s s.trigger := by
  unfold State.trigger
  cases hp : s.notices.place with
  | none =>
    refine ⟨rfl, rfl, rfl, rfl, .inr ⟨hp, rfl, rfl⟩, rfl, by simp [State.setNotices, State.setServer], ?_⟩
    rintro ⟨h1, h2, h3, h4, h5, h6⟩
    simp only [hp, if_true, reduceCtorEq, iff_false] at h3 h5 h6
    refine ⟨h1, ?_, ?_, ?_, ?_, ?_⟩
    · show replyCount (s.server.tx ++ [TxFrame.notice]) ≤ 4
      simpa [replyCount_append, replyCount] using h2
    · show noticeCount (s.server.tx ++ [TxFrame.notice]) = _
      simp [noticeCount_append, noticeCount, h3, State.setNotices]
    · intro _; show s.server.tx ++ [TxFrame.notice] ≠ []; simp
    · show (s.server.sending.isSome = true ∧ (s.server.tx ++ [TxFrame.notice]).head? = some .notice) ↔ NoticePlace.awaiting = .sending
      simp only [reduceCtorEq, iff_false]
      rintro ⟨ha, hb⟩
      have := h4 ha
      cases hx : s.server.tx with
      | nil => exact this hx
      | cons f l => rw [hx] at hb; exact h5 ⟨ha, by rw [hx]; simpa using hb⟩
    · intro h; exact absurd (h6 h) (by simp)
  | awaiting => exact LinkKept.refl s
  | sending =>
    refine ⟨rfl, rfl, rfl, rfl, .inl ⟨rfl, rfl⟩, rfl, by simp [State.setNotices], ?_⟩
    rintro ⟨h1, h2, h3, h4, h5, h6⟩
    exact ⟨h1, h2, by simpa [hp] using h3, h4, by simpa [hp] using h5, fun _ => hp⟩

theorem link_raise (s : State) (c : Category) : LinkKept s (s.raise c) := by
  have h : LinkKept s (s.setNotices { s.notices with pending := s.notices.pending ||| c.mask }) := by
    refine ⟨rfl, rfl, rfl, rfl, .inl ⟨rfl, rfl⟩, rfl, ?_, fun h => h⟩
    show s.notices.pending &&& (s.notices.pending ||| c.mask) = s.notices.pending
    ext i; simp; intro h; exact Or.inl h
  unfold State.raise
  exact link_ite _ (h.trans (link_trigger _)) h

theorem link_raiseIf (s : State) (p : Bool) (c : Category) : LinkKept s (s.raiseIf p c) :=
  link_ite _ (link_raise s c) (LinkKept.refl s)

theorem link_markDirty (s : State) : LinkKept s s.markDirty := LinkKept.of_same _ _ rfl rfl

theorem link_markDirtyIf (p : Bool) (s : State) : LinkKept s (s.markDirtyIf p) :=
  link_ite _ (link_markDirty s) (LinkKept.refl s)

/-! ### The blocks -/

theorem link_setMedia (s : State) (x : MediaUnit) : LinkKept s (s.setMedia x) := LinkKept.of_same _ _ rfl rfl

theorem link_setOrders (s : State) (x : OrderBlock) : LinkKept s (s.setOrders x) := LinkKept.of_same _ _ rfl rfl

theorem link_setHolder (s : State) (x : Holder) : LinkKept s (s.setHolder x) := LinkKept.of_same _ _ rfl rfl

theorem link_setUncut (s : State) (x : Bool) : LinkKept s (s.setUncut x) := LinkKept.of_same _ _ rfl rfl

theorem link_setEngine (s : State) (x : EngineLink) : LinkKept s (s.setEngine x) := LinkKept.of_same _ _ rfl rfl

theorem link_setInk (s : State) (x : InkUnit) : LinkKept s (s.setInk x) := LinkKept.of_same _ _ rfl rfl

theorem link_setColour (s : State) (x : ColourUnit) : LinkKept s (s.setColour x) := LinkKept.of_same _ _ rfl rfl

theorem link_setEditions (s : State) (x : Vector (Option Edition) 16) : LinkKept s (s.setEditions x) := LinkKept.of_same _ _ rfl rfl

theorem link_setCosts (s : State) (x : CostUnit) : LinkKept s (s.setCosts x) := LinkKept.of_same _ _ rfl rfl

theorem link_setStore (s : State) (x : RetainedStore) : LinkKept s (s.setStore x) := LinkKept.of_same _ _ rfl rfl

theorem link_setQuiet (s : State) (x : Option Quiet) : LinkKept s (s.setQuiet x) := LinkKept.of_same _ _ rfl rfl

/-! ### Orders, media, eligibility -/

theorem link_setRoll (s : State) (r : Roll) : LinkKept s (s.setRoll r) :=
  (((LinkKept.refl s).then (link_setMedia s _)).then (link_markDirtyIf _ _))

theorem link_writeUncut (s : State) (b : Bool) : LinkKept s (s.writeUncut b) :=
  (((LinkKept.refl s).then (link_setUncut s _)).then (link_markDirtyIf _ _))

theorem link_modifyOrder (s : State) (i : Fin 40) (f : Order → Order) : LinkKept s (s.modifyOrder i f) := by
  unfold State.modifyOrder; split
  · exact link_setOrders _ _
  · exact LinkKept.refl _

theorem link_noteMedia (s : State) (e : MediaEvent) (o : Option Word32) :
    LinkKept s (s.noteMedia e o) :=
  ((LinkKept.refl s).then (link_setMedia s _)).then (link_raise _ _)

theorem link_reevaluate (s : State) : LinkKept s s.reevaluate :=
  ((LinkKept.refl s).then (link_setOrders s _)).then (link_raiseIf _ _ _)

theorem link_latenessScan (s : State) : LinkKept s s.latenessScan :=
  ((LinkKept.refl s).then (link_setOrders s _)).then (link_raiseIf _ _ _)

theorem link_finishOrder (s : State) (i : Fin 40) (o : Order) (f : OrderState) :
    LinkKept s (s.finishOrder i o f) :=
  ((((LinkKept.refl s).then (link_setOrders s _)).then (link_setOrders _ _)).then (link_raiseIf _ _ _)).then
    (link_raise _ _)

theorem link_advancePosition (s : State) (n : Nat) (o : Option Word32) :
    LinkKept s (s.advancePosition n o) := by
  unfold State.advancePosition
  refine link_ite _ (link_ite _ (LinkKept.refl _) ?_) (LinkKept.refl _)
  exact ((LinkKept.refl s).then (link_ite _
    (((LinkKept.refl s).then (link_setRoll _ _)).then (link_noteMedia _ _ _)) ((link_setRoll _ _)))).then
    (link_reevaluate _)

/-! ### Costs -/

theorem link_setAccount (s : State) (i : Fin 64) (a : Account) : LinkKept s (s.setAccount i a) :=
  ((LinkKept.refl s).then (link_setCosts s _)).then (link_markDirty _)

theorem link_post (s : State) (i : Fin 64) (p : Posting) :
    LinkKept s (s.post i p) :=
  ((LinkKept.refl s).then (link_setAccount s _ _)).then (link_raiseIf _ _ _)

theorem link_postAttempt (s : State) (a : Attempt) (o : AttemptOutcome) (own : Bool) :
    LinkKept s (s.postAttempt a o own) := by
  unfold State.postAttempt
  simp only []
  split
  · exact (LinkKept.refl s).then (link_post _ _ _)
  · exact link_ite _ (((LinkKept.refl s).then (link_setOrders s _)).then (link_post _ _ _))
      (((LinkKept.refl s).then (link_setOrders s _)).then (link_post _ _ _))

theorem link_postWaste (s : State) (a : Attempt) (mm : Nat) (cut : Bool) :
    LinkKept s (s.postWaste a mm cut) :=
  ((LinkKept.refl s).then (link_modifyOrder s _ _)).then (link_post _ _ _)

theorem link_postTask (s : State) (p : Option Nat) (cut : Bool) :
    LinkKept s (s.postTask p cut) := link_post _ _ _

theorem link_postCleaning (s : State) (v : Vector Nat 12) :
    LinkKept s (s.postCleaning v) := link_post _ _ _

theorem link_postLateInk (s : State) (v : Vector Nat 12) :
    LinkKept s (s.postLateInk v) :=
  link_ite _ (link_post _ _ _) (LinkKept.refl _)

/-! ### Ink -/

theorem link_setChannel (s : State) (c : Fin 12) (x : Channel) : LinkKept s (s.setChannel c x) :=
  ((LinkKept.refl s).then (link_setInk s _)).then (link_markDirtyIf _ _)

theorem link_setBay (s : State) (b : Fin 24) (x : Bay) : LinkKept s (s.setBay b x) :=
  ((LinkKept.refl s).then (link_setInk s _)).then (link_markDirtyIf _ _)

theorem link_writeSupply (s : State) (c : Fin 12) (x : Channel) : LinkKept s (s.writeSupply c x) := by
  unfold State.writeSupply
  simp only []
  exact link_ite _ ((link_setChannel _ _ _))
    ((((LinkKept.refl s).then (link_setChannel _ _ _)).then (link_raise _ _)).then (link_reevaluate _))

theorem link_evaluateSupply (s : State) (c : Fin 12) : LinkKept s (s.evaluateSupply c) :=
  link_ite _ (link_writeSupply _ _ _) (LinkKept.refl _)

theorem link_drawn (s : State) (c : Fin 12) (v : Nat) : LinkKept s (s.drawn c v) :=
  (((LinkKept.refl s).then (link_setBay _ _ _)).then (link_setBay _ _ _)).then (link_setChannel _ _ _)

theorem link_afterDraw (s : State) (c : Fin 12) : LinkKept s (s.afterDraw c) :=
  link_ite _ (link_ite _ (link_writeSupply _ _ _) (LinkKept.refl _)) (link_evaluateSupply _ _)

theorem link_draw (s : State) (c : Fin 12) (v : Nat) : LinkKept s (s.draw c v) :=
  link_ite _ (LinkKept.refl _) (((LinkKept.refl s).then (link_drawn _ _ _)).then (link_afterDraw _ _))

theorem link_drawAll (s : State) (v : Vector Nat 12) : LinkKept s (s.drawAll v) :=
  LinkKept.foldl _ (fun s c => link_draw s c _) _ s

theorem link_requestCleaning (s : State) (c : Fin 12) (n : Nat) : LinkKept s (s.requestCleaning c n) :=
  link_setChannel _ _ _

theorem link_requestCleanings (s : State) (v : Vector Nat 12) : LinkKept s (s.requestCleanings v) :=
  link_setInk _ _

theorem link_enterRefill (s : State) (c : Fin 12) (b : BaySide) : LinkKept s (s.enterRefill c b) :=
  link_writeSupply _ _ _

theorem link_declareEmpty (s : State) (c : Fin 12) : LinkKept s (s.declareEmpty c) :=
  ((((LinkKept.refl s).then (link_setBay _ _ _)).then (link_setChannel _ _ _)).then (link_raise _ _)).then
    (link_evaluateSupply _ _)

theorem link_topUp (s : State) (c : Fin 12) : LinkKept s (s.topUp c) := by
  unfold State.topUp; split
  · exact LinkKept.refl _
  · exact link_setBay _ _ _

theorem link_completeRefill (s : State) (c : Fin 12) : LinkKept s (s.completeRefill c) :=
  ((((LinkKept.refl s).then (link_topUp _ _)).then (link_setChannel _ _ _)).then (link_writeSupply _ _ _)).then
    (link_requestCleaning _ _ _)

theorem link_actOnSample (s : State) (c : Fin 12) (l : Level) : LinkKept s (s.actOnSample c l) := by
  cases l
  · exact link_ite _ (link_completeRefill _ _) (LinkKept.refl _)
  · exact LinkKept.refl _
  · exact link_ite _ (link_declareEmpty _ _) (LinkKept.refl _)
  · exact link_ite _ (link_writeSupply _ _ _) (LinkKept.refl _)

theorem link_takeLevels (s : State) (v : Vector Byte 12) : LinkKept s (s.takeLevels v) := by
  unfold State.takeLevels; split
  · exact LinkKept.refl _
  · exact ((LinkKept.refl s).then (link_setInk _ _)).then (LinkKept.foldl _ (fun s c => link_actOnSample s c _) _ _)

theorem link_afterPresent (s : State) (b : Fin 24) : LinkKept s (s.afterPresent b) := by
  unfold State.afterPresent
  simp only []
  split
  · exact link_evaluateSupply _ _
  · exact link_evaluateSupply _ _
  · exact link_ite _ (link_enterRefill _ _ _) (LinkKept.refl _)
  · exact link_ite _ (link_enterRefill _ _ _) (LinkKept.refl _)
  · exact LinkKept.refl _
  · exact LinkKept.refl _

theorem link_newCartridge (s : State) (b : Fin 24) (x : Vector Byte 12) (y : Vector Byte 8) (n : Nat) :
    LinkKept s (s.newCartridge b x y n) :=
  (((LinkKept.refl s).then (link_setBay _ _ _)).then (link_raiseIf _ _ _)).then (link_afterPresent _ _)

theorem link_knownCartridge (s : State) (b : Fin 24) : LinkKept s (s.knownCartridge b) :=
  ((LinkKept.refl s).then (link_setBay _ _ _)).then (link_afterPresent _ _)

theorem link_refillBayRemoved (s : State) (c : Fin 12) (b : BaySide) : LinkKept s (s.refillBayRemoved c b) :=
  link_ite _ ((link_setChannel _ _ _)) (link_writeSupply _ _ _)

theorem link_bayAbsent (s : State) (b : Fin 24) : LinkKept s (s.bayAbsent b) := by
  unfold State.bayAbsent
  refine link_ite _ (LinkKept.refl _) ?_
  simp only []
  have h : LinkKept s (if (State.channel (s.setBay b { s.ink.bays[b] with present := false })
      (bayChannel b)).active = baySide b
      then (s.setBay b { s.ink.bays[b] with present := false }).setChannel (bayChannel b)
        { State.channel (s.setBay b { s.ink.bays[b] with present := false }) (bayChannel b) with
          active := (baySide b).other }
      else s.setBay b { s.ink.bays[b] with present := false }) :=
    link_ite _ (((LinkKept.refl s).then (link_setBay _ _ _)).then (link_setChannel _ _ _)) ((link_setBay _ _ _))
  generalize (if (State.channel (s.setBay b { s.ink.bays[b] with present := false }) (bayChannel b)).active = baySide b
      then (s.setBay b { s.ink.bays[b] with present := false }).setChannel (bayChannel b)
        { State.channel (s.setBay b { s.ink.bays[b] with present := false }) (bayChannel b) with
          active := (baySide b).other }
      else s.setBay b { s.ink.bays[b] with present := false }) = u at h ⊢
  split
  · exact h.then (link_evaluateSupply _ _)
  · exact h.then (link_evaluateSupply _ _)
  · split
    · exact h.then (link_refillBayRemoved _ _ _)
    · exact h
  · exact h
  · exact h
  · exact h

theorem link_takeBayEvent (s : State) (bay present : Byte) (x : Vector Byte 12) (y : Vector Byte 8) (n : Nat) :
    LinkKept s (s.takeBayEvent bay present x y n) := by
  unfold State.takeBayEvent
  split
  · exact link_ite _ (link_bayAbsent _ _) (link_ite _ (link_ite _ (link_knownCartridge _ _)
      (link_newCartridge _ _ _ _ _)) (LinkKept.refl _))
  · exact LinkKept.refl _

theorem link_refillSecond (s : State) (c : Fin 12) : LinkKept s (s.refillSecond c) :=
  link_ite _ (link_ite _ ((link_setChannel _ _ _)) (link_writeSupply _ _ _)) (LinkKept.refl _)

theorem link_refillTimeout (s : State) (c : Fin 12) : LinkKept s (s.refillTimeout c) :=
  link_ite _ (link_writeSupply _ _ _) (LinkKept.refl _)

/-! ### Colour and editions -/

theorem link_setGainSet (s : State) (g : Fin 24) (x : GainSet) : LinkKept s (s.setGainSet g x) :=
  ((LinkKept.refl s).then (link_setColour s _)).then (link_markDirtyIf _ _)

theorem link_setCheck (s : State) (g : Fin 24) (x : CheckState) : LinkKept s (s.setCheck g x) :=
  link_setColour _ _

theorem link_suspendIfDue (s : State) (g : Fin 24) :
    LinkKept s (s.suspendIfDue g) := by
  unfold State.suspendIfDue
  split
  · exact LinkKept.refl _
  · exact link_ite _ ((((LinkKept.refl s).then (link_setGainSet _ _ _)).then (link_raise _ _)).then
      (link_reevaluate _)) (LinkKept.refl _)

theorem link_correctGains (s : State) (g : Fin 24) (p : BitVec 16) (r : Vector Reading 16) (f : Vector Lab 16) :
    LinkKept s (s.correctGains g p r f) := by
  unfold State.correctGains
  split
  · exact LinkKept.refl _
  · exact ((LinkKept.refl s).then (link_setGainSet _ _ _)).then (link_raiseIf _ _ _)

theorem link_recordStrip (s : State) (g : Fin 24) (e : HistoryEntry) (n : Nat) :
    LinkKept s (s.recordStrip g e n) :=
  ((LinkKept.refl s).then (link_setCheck _ _ _)).then (link_raiseIf _ _ _)

theorem link_countFailure (s : State) (g : Fin 24) (v : VerdictSettings) (r : Vector Reading 16) (f : Vector Lab 16)
    (p : Bool) : LinkKept s (s.countFailure g v r f p) := by
  unfold State.countFailure
  exact link_ite _ ((link_setCheck _ _ _))
    ((((LinkKept.refl s).then (link_setCheck _ _ _)).then (link_requestCleanings _ _)).then (link_suspendIfDue _ _))

theorem link_handOnStrip (s : State) (a : Attempt) (v : VerdictSettings) (r : Vector Reading 16) (f : Vector Lab 16)
    (g : StripFigures) : LinkKept s (s.handOnStrip a v r f g) :=
  ((((LinkKept.refl s).then (link_correctGains _ _ _ _ _)).then (link_recordStrip _ _ _ _)).then
    (link_countFailure _ _ _ _ _ _)).then (link_modifyOrder _ _ _)

theorem link_judgeStrip (s : State) (a : Attempt) (r : Vector Reading 16) :
    LinkKept s (s.judgeStrip a r).1 := by
  unfold State.judgeStrip
  split
  · exact LinkKept.refl _
  · split
    · split
      · exact LinkKept.refl _
      · exact link_handOnStrip _ _ _ _ _ _
    · exact LinkKept.refl _

theorem link_setEdition (s : State) (i : Fin 16) (e : Option Edition) :
    LinkKept s (s.setEdition i e) :=
  ((LinkKept.refl s).then (link_setEditions s _)).then (link_markDirty _)

theorem link_numberPrint (s : State) (a : Attempt) : LinkKept s (s.numberPrint a) := by
  unfold State.numberPrint
  split
  · exact LinkKept.refl _
  · split
    · exact LinkKept.refl _
    · split
      · exact LinkKept.refl _
      · exact ((LinkKept.refl s).then (link_setOrders s _)).then (link_setEdition _ _ _)

/-! ### The attempt -/

theorem link_setAttempt (s : State) (a : Attempt) : LinkKept s (s.setAttempt a) := link_setHolder _ _

theorem link_startAttempt (s : State) (i : Fin 40) (o : Order) :
    LinkKept s (s.startAttempt i o) :=
  (((LinkKept.refl s).then (link_setOrders s _)).then (link_raise _ _)).then (link_setAttempt _ _)

theorem link_boundary (s : State) (a : Attempt) : LinkKept s (s.boundary a).1 := by
  unfold State.boundary
  split
  · exact LinkKept.refl _
  · exact link_raiseIf _ _ _

theorem link_tallyAndDraw (s : State) (a : Attempt) (v : Vector Nat 12) :
    LinkKept s (s.tallyAndDraw a v).1 :=
  ((LinkKept.refl s).then (link_raiseIf s _ _)).then (link_drawAll _ _)

theorem link_markUncut (s : State) (n : Nat) : LinkKept s (s.markUncut n) :=
  link_ite _ (link_writeUncut _ _) (LinkKept.refl _)

theorem link_checkSlip (s : State) (l n : Nat) (o : Option Word32) :
    LinkKept s (s.checkSlip l n o).1 := by
  unfold State.checkSlip
  split
  · exact link_noteMedia _ _ _
  · exact LinkKept.refl _

theorem link_movePaper (s : State) (a : Attempt) (c : EngineCommand) (n : Nat) :
    LinkKept s (s.movePaper a c n).1 :=
  (((LinkKept.refl s).then (link_advancePosition _ _ _)).then (link_checkSlip _ _ _ _)).then (link_markUncut _ _)

theorem link_attemptFed (s : State) (a : Attempt) (c : EngineCommand) (n : Nat) :
    LinkKept s (s.attemptFed a c n) :=
  ((LinkKept.refl s).then (link_movePaper s a c n)).then (link_setAttempt _ _)

theorem link_attemptBanded (s : State) (a : Attempt) (c : EngineCommand) (n : Nat) (d : Vector Drops 12) :
    LinkKept s (s.attemptBanded a c n d) :=
  (((LinkKept.refl s).then (link_tallyAndDraw s a (s.volumes d))).then (link_movePaper _ _ c n)).then
    (link_setAttempt _ _)

theorem link_attemptStripped (s : State) (a : Attempt) (c : EngineCommand) (n : Nat) (d : Vector Drops 12)
    (r : Vector Reading 16) : LinkKept s (s.attemptStripped a c n d r) :=
  ((((LinkKept.refl s).then (link_tallyAndDraw s a (s.volumes d))).then (link_movePaper _ _ c n)).then
    (link_judgeStrip _ _ r)).then (link_setAttempt _ _)

theorem link_attemptStopped (s : State) (a : Attempt) (n : Nat) (d : Vector Drops 12) (b : Bool) :
    LinkKept s (s.attemptStopped a n d b) :=
  ((((LinkKept.refl s).then (link_tallyAndDraw s a (s.volumes d))).then (link_advancePosition _ n _)).then
    (link_markUncut _ n)).then (link_setAttempt _ _)

theorem link_applyOutcome (s : State) (i : Fin 40) (o : AttemptOutcome) :
    LinkKept s (s.applyOutcome i o) := by
  unfold State.applyOutcome
  split
  · exact LinkKept.refl _
  · simp only []
    split
    · exact link_finishOrder _ _ _ _
    · exact ((LinkKept.refl s).then (link_setOrders s _)).then (link_raise _ _)

theorem link_endAttempt (s : State) (a : Attempt) (o : AttemptOutcome) (own : Bool) :
    LinkKept s (s.endAttempt a o own) :=
  (((LinkKept.refl s).then (link_ite (o = .accepted)
    (((LinkKept.refl s).then (link_postAttempt s a o own)).then (link_numberPrint _ a))
    ((link_postAttempt s a o own)))).then (link_applyOutcome _ a.slot o)).then (link_setHolder _ _)

theorem link_attemptCut (s : State) (a : Attempt) : LinkKept s (s.attemptCut a) := by
  unfold State.attemptCut
  exact link_ite _
    ((((LinkKept.refl s).then (link_postWaste s a _ true)).then (link_writeUncut _ _)).then (link_setAttempt _ _))
    (((LinkKept.refl s).then (link_writeUncut s _)).then (link_endAttempt _ _ _ _))

theorem link_setClearOut (s : State) : LinkKept s s.setClearOut :=
  link_ite _ (link_setRoll _ _) (LinkKept.refl _)

theorem link_endAtOnce (s : State) (a : Attempt) (o : AttemptOutcome) (b : Bool) :
    LinkKept s (s.endAtOnce a o b) := by
  unfold State.endAtOnce
  have h : LinkKept s (if a.phase = .wasteFeed ∨ a.phase = .wasteCut
      then s.postWaste a (pulsesToMm a.wastePulses) false else s) :=
    link_ite _ ((link_postWaste _ _ _ _)) (LinkKept.refl _)
  generalize (if a.phase = .wasteFeed ∨ a.phase = .wasteCut
      then s.postWaste a (pulsesToMm a.wastePulses) false else s) = u at h ⊢
  exact ((h.then (link_ite ((b && u.uncut) = true) (link_setClearOut u) (LinkKept.refl u))).then
    (link_writeUncut _ _)).then (link_endAttempt _ _ _ _)

/-! ### The slot -/

theorem link_issue (s : State) (c : EngineCommand) (p : Party) : LinkKept s (s.issue c p) := link_setEngine _ _

theorem link_issuePhase (s : State) (a : Attempt) : LinkKept s (s.issuePhase a) := by
  unfold State.issuePhase
  split
  · exact (link_setAttempt _ _)
  · exact ((LinkKept.refl s).then (link_issue _ _ _)).then (link_setAttempt _ _)

theorem link_serveAttempt (s : State) (a : Attempt) : LinkKept s (s.serveAttempt a) :=
  link_ite _ (link_ite _ (((LinkKept.refl s).then (link_boundary s a)).then (link_issuePhase _ _))
    ((link_issuePhase _ _))) (LinkKept.refl _)

theorem link_serveTask (s : State) (t : Task) (p : Party) : LinkKept s (s.serveTask t p) :=
  link_ite _ (link_issue _ _ _) (LinkKept.refl _)

theorem link_select (s : State) : LinkKept s s.select := by
  unfold State.select
  have h : LinkKept s s.reevaluate := (link_reevaluate s)
  simp only []
  split
  · exact h
  · split
    · exact (h.then (link_startAttempt _ _ _)).then (link_serveAttempt _ _)
    · exact h.then (link_startAttempt _ _ _)

theorem link_offerWork (s : State) : LinkKept s s.offerWork := by
  unfold State.offerWork
  refine link_ite _ (((LinkKept.refl s).then (link_setHolder s _)).then (link_issue _ _ _)) ?_
  refine link_ite _ ((((LinkKept.refl s).then (link_setInk s _)).then (link_setHolder _ _)).then (link_issue _ _ _)) ?_
  split
  · exact (((LinkKept.refl s).then (link_setEngine s _)).then (link_setHolder _ _)).then (link_issue _ _ _)
  · exact link_ite _ (link_select s) (LinkKept.refl _)

theorem link_offer (s : State) : LinkKept s s.offer := by
  unfold State.offer
  split
  · exact (link_issue _ _ _)
  · exact link_ite _ (((LinkKept.refl s).then (link_issue s _ _)).then (link_setHolder _ _)) (LinkKept.refl _)
  all_goals exact link_ite _ (link_offerWork s) (LinkKept.refl _)

theorem link_serveSlot (s : State) : LinkKept s s.serveSlot := by
  unfold State.serveSlot
  refine link_ite _ (LinkKept.refl _) ?_
  split
  · exact link_offer s
  · exact (link_serveAttempt _ _)
  · exact (link_serveTask _ _ _)
  · exact (link_serveTask _ _ _)
  · exact LinkKept.refl _
  · exact ((LinkKept.refl s).then (link_issue s _ _)).then (link_setHolder _ _)
  · exact LinkKept.refl _

/-! ### What arrives from the engine -/

theorem link_endTask (s : State) (t : Task) (b : Bool) : LinkKept s (s.endTask t b) := by
  unfold State.endTask
  have h : LinkKept s (if t.pulses.isSome then s.postTask t.pulses false else s) :=
    link_ite _ ((link_postTask _ _ _)) (LinkKept.refl _)
  generalize (if t.pulses.isSome then s.postTask t.pulses false else s) = u at h ⊢
  exact (h.then (link_ite ((b && decide (0 < t.pulses.getD 0)) = true) (link_setClearOut u)
    (LinkKept.refl u))).then (link_setHolder _ _)

theorem link_returnLevels (s : State) (v : Vector Nat 12) : LinkKept s (s.returnLevels v) :=
  ((LinkKept.refl s).then (link_requestCleanings s v)).then (link_setHolder _ _)

theorem link_endHolder (s : State) :
    LinkKept s s.endHolder := by
  unfold State.endHolder
  split
  · exact LinkKept.refl _
  · exact (link_endAtOnce _ _ _ _)
  · exact (link_endTask _ _ _)
  · exact (link_endTask _ _ _)
  · exact (link_returnLevels _ _)
  · exact (link_setHolder _ _)

theorem link_abandon (s : State) : LinkKept s s.abandon := by
  unfold State.abandon
  split
  · exact LinkKept.refl _
  · exact link_setEngine _ _

theorem link_enterOff (s : State) : LinkKept s s.enterOff := by
  unfold State.enterOff
  have h : LinkKept s s.abandon.endHolder :=
    ((LinkKept.refl s).then (link_abandon s)).then (link_endHolder _)
  generalize s.abandon.endHolder = u at h ⊢
  have k := h.then (link_setEngine u { u.engine with probeRun := 0 })
  exact link_ite _ (k.then (link_setHolder _ _)) k

theorem link_setEngineState (s : State) (e : EngineState) :
    LinkKept s (s.setEngineState e) :=
  ((LinkKept.refl s).then (link_setEngine s _)).then (link_raise _ _)

theorem link_setCount (s : State) (n : Nat) : LinkKept s (s.setCount n) := by
  unfold State.setCount
  have h : LinkKept s (s.setEngine { s.engine with errorCount := n }) := (link_setEngine s _)
  generalize s.setEngine { s.engine with errorCount := n } = u at h ⊢
  have k := h.then (link_setEngineState u (stateOfCount n))
  exact link_ite _ h (link_ite _ (k.then (link_enterOff _)) k)

theorem link_addErrors (s : State) (k : Nat) : LinkKept s (s.addErrors k) :=
  link_ite _ (link_setCount _ _) (LinkKept.refl _)

theorem link_forgiveError (s : State) : LinkKept s s.forgiveError :=
  link_ite _ (link_setCount _ _) (LinkKept.refl _)

theorem link_taskFed (s : State) (t : Task) (c : EngineCommand) (n : Nat) (b : Bool) :
    LinkKept s (s.taskFed t c n b) :=
  (((LinkKept.refl s).then (link_advancePosition s n none)).then (link_checkSlip _ _ n none)).then (link_setHolder _ _)

theorem link_clearOutCut (s : State) (t : Task) : LinkKept s (s.clearOutCut t) :=
  (((LinkKept.refl s).then (link_setRoll s _)).then (link_postTask _ _ _)).then (link_setHolder _ _)

theorem link_trimCut (s : State) (t : Task) : LinkKept s (s.trimCut t) :=
  ((LinkKept.refl s).then (link_postTask s _ _)).then (link_setHolder _ _)

theorem link_cleanDone (s : State) (v : Vector Nat 12) : LinkKept s (s.cleanDone v) :=
  (((LinkKept.refl s).then (link_drawAll s _)).then (link_postCleaning _ _)).then (link_setHolder _ _)

theorem link_probeAcked (s : State) : LinkKept s s.probeAcked :=
  link_ite _ ((link_setEngine _ _))
    ((((LinkKept.refl s).then (link_setEngine s _)).then (link_setEngineState _ _)).then (link_setHolder _ _))

theorem link_readyTaken (s : State) : LinkKept s s.readyTaken :=
  ((LinkKept.refl s).then (link_setEngine s _)).then (link_setEngineState _ _)

theorem link_orphanReport (s : State) (r : Report) : LinkKept s (s.orphanReport r) := by
  unfold State.orphanReport
  split
  · exact LinkKept.refl _
  · exact link_drawAll _ _

theorem link_attemptReport (s : State) (a : Attempt) (c : EngineCommand) (r : Report) :
    LinkKept s (s.attemptReport a c r) := by
  cases r
  · exact (link_attemptFed _ _ _ _)
  · exact (link_attemptBanded _ _ _ _ _)
  · exact (link_attemptStopped _ _ _ _ _)
  · exact (link_attemptStripped _ _ _ _ _ _)
  · exact (link_attemptStopped _ _ _ _ _)
  · exact (link_attemptCut _ _)
  all_goals exact LinkKept.refl _

theorem link_taskReport (s : State) (t : Task) (c : EngineCommand) (b : Bool) (r : Report) :
    LinkKept s (s.taskReport t c b r) := by
  cases r
  case feedDone => exact (link_taskFed _ _ _ _ _)
  case cutDone => exact link_ite _ (link_trimCut _ _) (link_clearOutCut _ _)
  all_goals exact LinkKept.refl _

theorem link_deliver (s : State) (c : EngineCommand) (p : Party) (r : Report) : LinkKept s (s.deliver c p r) := by
  unfold State.deliver
  split
  · exact (link_readyTaken _)
  · exact link_attemptReport _ _ _ _
  · exact link_taskReport _ _ _ _ _
  · exact link_taskReport _ _ _ _ _
  · exact link_cleanDone _ _
  · exact (link_probeAcked _)
  · exact (link_orphanReport _ _)

theorem link_correctReport (s : State) (o : Outstanding) (r : Report) : LinkKept s (s.correctReport o r) :=
  (((LinkKept.refl s).then (link_setEngine s _)).then (link_forgiveError _)).then (link_deliver _ _ _ _)

theorem link_lateInk (s : State) (r : Report) :
    LinkKept s (s.lateInk r) := by
  unfold State.lateInk
  split
  · exact LinkKept.refl _
  · exact ((LinkKept.refl s).then (link_drawAll s _)).then (link_postLateInk _ _)

theorem link_latePulses (s : State) (r : Report) :
    LinkKept s (s.latePulses r) := by
  unfold State.latePulses
  split
  · exact LinkKept.refl _
  · exact link_advancePosition _ _ _

theorem link_lateReport (s : State) (r : Report) : LinkKept s (s.lateReport r) :=
  ((((LinkKept.refl s).then (link_setEngine s _)).then (link_setEngine _ _)).then (link_lateInk _ r)).then
    (link_latePulses _ r)

theorem link_mismatchedReport (s : State) : LinkKept s s.mismatchedReport :=
  ((LinkKept.refl s).then (link_setEngine s _)).then (link_addErrors _ _)

theorem link_badFrame (s : State) : LinkKept s s.badFrame :=
  link_ite _ ((((LinkKept.refl s).then (link_setEngine s _)).then (link_addErrors _ _)).then (link_serveSlot _))
    (LinkKept.refl _)

theorem link_takeReport (s : State) (tag : Byte) (r : Report) : LinkKept s (s.takeReport tag r) := by
  unfold State.takeReport
  refine link_ite _ ?_ (LinkKept.refl _)
  split
  · exact (link_correctReport _ _ _).then (link_serveSlot _)
  · exact (link_ite _ (link_lateReport _ _) ((link_mismatchedReport _))).then (link_serveSlot _)

theorem link_tellTimeout (s : State) (c : EngineCommand) (p : Party) :
    LinkKept s (s.tellTimeout c p) := by
  unfold State.tellTimeout
  split
  · exact (link_raise _ _)
  · exact (link_setAttempt _ _)
  · exact (link_setHolder _ _)
  · exact (link_setHolder _ _)
  · exact (link_returnLevels _ _)
  · exact ((LinkKept.refl s).then (link_setEngine s _)).then (link_setHolder _ _)
  · exact LinkKept.refl _

theorem link_timeOut (s : State) (o : Outstanding) : LinkKept s (s.timeOut o) := by
  unfold State.timeOut
  have h : LinkKept s
      (s.setEngine { s.engine with outstanding := none, expiredTag := some o.tag }).countTimeout :=
    ((LinkKept.refl s).then (link_setEngine s _)).then (link_setEngine _ _)
  generalize (s.setEngine { s.engine with outstanding := none, expiredTag := some o.tag }).countTimeout = u at h ⊢
  have k := h.then (link_addErrors u 8)
  exact link_ite _ k (k.then (link_tellTimeout _ _ _))

theorem link_takeTimeout (s : State) : LinkKept s s.takeTimeout := by
  unfold State.takeTimeout
  split
  · exact LinkKept.refl _
  · exact link_ite _ ((link_timeOut _ _).then (link_serveSlot _)) (LinkKept.refl _)

theorem link_probeInterval (s : State) : LinkKept s s.probeInterval := by
  unfold State.probeInterval
  split
  · refine link_ite _ ?_ (LinkKept.refl _)
    split
    · exact ((LinkKept.refl s).then (link_setHolder s _)).then (link_serveSlot _)
    · exact ((link_timeOut _ _).then (link_setHolder _ _)).then (link_serveSlot _)
  · exact LinkKept.refl _

theorem link_orphanCommand (s : State) : LinkKept s s.orphanCommand := by
  unfold State.orphanCommand
  split
  · exact LinkKept.refl _
  · exact link_ite _ (link_setEngine _ _) (LinkKept.refl _)

theorem link_endRollUser (s : State) : LinkKept s s.endRollUser := by
  unfold State.endRollUser
  split
  · exact ((LinkKept.refl s).then (link_orphanCommand s)).then (link_endAtOnce _ _ _ _)
  · next t _ =>
    have h : LinkKept s (if t.pulses.isSome then s.postTask t.pulses false else s) :=
      link_ite _ ((link_postTask _ _ _)) (LinkKept.refl _)
    exact (h.then (link_orphanCommand _)).then (link_setHolder _ _)
  · exact ((LinkKept.refl s).then (link_orphanCommand s)).then (link_setHolder _ _)
  all_goals exact LinkKept.refl _

theorem link_removeRoll (s : State) : LinkKept s s.removeRoll :=
  (((((LinkKept.refl s).then (link_setRoll s _)).then (link_setEngine _ _)).then (link_noteMedia _ _ _)).then
    (link_endRollUser _)).then (link_reevaluate _)

theorem link_rollAbsent (s : State) : LinkKept s s.rollAbsent := by
  unfold State.rollAbsent
  have h := link_setMedia s { s.media with present := false }
  exact link_ite _ (link_ite _ (((LinkKept.refl s).then h).then (link_removeRoll _)) (h)) (LinkKept.refl _)

theorem link_takeRollEvent (s : State) (b : Byte) : LinkKept s (s.takeRollEvent b) := by
  unfold State.takeRollEvent
  exact link_ite _ ((((LinkKept.refl s).then (link_setMedia s _)).then (link_setEngine _ _)).then (link_serveSlot _))
    (link_ite _ ((((LinkKept.refl s).then (link_rollAbsent s)).then (link_setEngine _ _)).then (link_serveSlot _))
      (LinkKept.refl _))

theorem link_takeCoverEvent (s : State) (b : Byte) : LinkKept s (s.takeCoverEvent b) :=
  link_ite _ (((LinkKept.refl s).then (link_setEngine s _)).then (link_serveSlot _)) (LinkKept.refl _)

end Sys2Proof.Machine
end

