-- ==== Sys2Proof/Laws/Reports.lean ====
section
/-! SUPPORT. What a correct report does before it is delivered, and what the shared operations below it do: the error
count, the re-evaluation, the paper. -/

set_option Elab.async false

namespace Sys2Proof.Machine

/-! ### The timer of the outstanding command (R69, R88) -/

/-- The timer never falls. -/
theorem le_later_elapsed (o : Outstanding) (passed : Nat) : o.elapsed ≤ (o.later passed).elapsed := Nat.le_add_right _ _

/-- The timer does not pass the command's timeout. -/
theorem later_elapsed_le (o : Outstanding) (passed : Nat) (h : o.elapsed ≤ o.command.timeout) :
    (o.later passed).elapsed ≤ o.command.timeout := by
  simp only [Outstanding.later]; omega

/-- What reading the timer can do: with no command outstanding nothing; otherwise the command's timer goes on, and one free
value is used up. -/
theorem readTimer_cases (s : State) :
    (s.engine.outstanding = none ∧ s.readTimer = s) ∨
      ∃ o, s.engine.outstanding = some o ∧ s.readTimer = { s with
        engine := { s.engine with outstanding := some (o.later (Config.secondsPassed s.freeReads)) },
        freeReads := s.freeReads + 1 } := by
  unfold State.readTimer
  cases h : s.engine.outstanding with
  | none => exact .inl ⟨rfl, rfl⟩
  | some o => exact .inr ⟨o, rfl, rfl⟩

/-! ### Pending categories -/

/-- A category that is raised is pending. -/
theorem raise_pending (s : State) (c : Category) : (s.raise c).notices.pending = s.notices.pending ||| c.mask := by
  have trigger (u : State) : u.trigger.notices.pending = u.notices.pending := by
    unfold State.trigger; split <;> rfl
  simp only [State.raise]
  split
  · rw [trigger]; rfl
  · rfl

theorem raiseIf_pending (s : State) (b : Bool) (c : Category) :
    (s.raiseIf b c).notices.pending = if b then s.notices.pending ||| c.mask else s.notices.pending := by
  unfold State.raiseIf
  split
  · exact raise_pending s c
  · rfl

/-! ### The re-evaluation (R17) -/

theorem reevaluate_orders (s : State) :
    s.reevaluate.orders = { s.orders with slots := Vector.ofFn fun i => s.reevaluatedSlot s.orders.slots[i] } := by
  unfold State.reevaluate
  exact (keeps_raiseIf _ _ _).at .orders

/-- The re-evaluation meets its specification. -/
theorem reevaluated_reevaluate (s : State) : Reevaluated s s.reevaluate := by
  have ho : s.holdReasons = s.reevaluate.holdReasons := by
    funext o
    have k := keeps_reevaluate s
    have km : s.reevaluate.media = s.media := k.at .media
    have ki : s.reevaluate.ink = s.ink := k.at .ink
    have kc : s.reevaluate.colour = s.colour := k.at .colour
    have ke : s.reevaluate.editions = s.editions := k.at .editions
    simp only [State.holdReasons, State.orderNeed, State.margins, State.orderSuspended, State.orderSet?,
      State.findEdition, km, ki, kc, ke]
  have he : s.evaluated = s.reevaluate.evaluated := by
    funext o; simp [State.evaluated, ho]
  have hs : s.reevaluatedSlot = s.reevaluate.reevaluatedSlot := by
    unfold State.reevaluatedSlot; rw [he]
  have hm : s.movesSlot = s.reevaluate.movesSlot := by
    unfold State.movesSlot; rw [he]
  refine ⟨by rw [← hs]; exact reevaluate_orders s, ?_⟩
  rw [← hm]
  exact raiseIf_pending _ _ _

/-! ### The error count (R72 class 3, R81, R82) -/

/-- Freeing the slot and forgiving one error, from a count that decides its state. -/
theorem forgiven_of_counted (s : State) (h : EngineCounted s) : Forgiven s s.freeSlot.forgiveError := by
  have off : stateOfCount (s.engine.errorCount - 1) ≠ .off := by
    have := h.1
    unfold stateOfCount
    split
    · simp
    · split
      · simp
      · split
        · simp
        · omega
  have bit : ∀ p : Byte, (p ||| Category.engine.mask) &&& 64#8 = 64#8 := by
    have e : Category.engine.mask = 64#8 := by decide
    rw [e]
    decide +kernel
  unfold Forgiven
  by_cases hr : s.engine.state.running = true
  · by_cases he : stateOfCount (s.engine.errorCount - 1) = s.engine.state
    · simp [State.freeSlot, State.forgiveError, State.setCount, State.setEngine, hr, he]
    · have e : s.freeSlot.forgiveError = (s.setEngine { s.engine with
          outstanding := none, errorCount := s.engine.errorCount - 1,
          state := stateOfCount (s.engine.errorCount - 1) }).raise .engine := by
        simp [State.freeSlot, State.forgiveError, State.setCount, State.setEngineState, State.setEngine, hr, he, off]
      rw [e]
      refine ⟨?_, fun _ => ?_⟩
      · rw [(keeps_raise _ .engine).at .engine]
        simp [State.setEngine, hr]
      · rw [raise_pending]
        exact bit _
  · simp [State.freeSlot, State.forgiveError, State.setEngine, hr]

end Sys2Proof.Machine
end

