-- ==== Sys2Proof/Laws/Served.lean ====
section
/-! SUPPORT. Requests and events that end with the slot's turn: what `Served` says of them, once for each. -/

set_option Elab.async false

namespace Sys2Proof.Machine

/-- With a command outstanding the slot gives nothing (R76). -/
theorem serveSlot_outstanding (s : State) (h : s.engine.outstanding ≠ none) : s.serveSlot = s := by
  unfold State.serveSlot
  cases hs : s.engine.outstanding with
  | none => exact absurd hs h
  | some o => simp

/-- From a state reached inside the step to the state the step answers. -/
theorem served_of (changed : List Block) (s u t : State) (P : State → Prop) (hp : P u)
    (hk : Keeps (changed ++ linkBlocks) s u) (ht : Keeps linkBlocks u.serveSlot t)
    (hn : t.notices.pending = u.serveSlot.notices.pending) : Served changed s t P :=
  ⟨u, hp, hk, ht, hn, fun h => by rw [serveSlot_outstanding u h] at ht hn; exact ⟨ht, hn⟩⟩

/-- A request whose rule ends with the slot's turn from `u`. -/
theorem runRequest_served (s : State) (h : Takes s) (kind tag : Byte) (p : List Byte) (rule : RequestRule)
    (status : Status) (fields : List Byte) (u : State) (changed : List Block) (P : State → Prop)
    (hr : rule p s.countTaken = { state := u.serveSlot, status := status, fields := fields }) (hp : P u)
    (hk : Keeps (changed ++ linkBlocks) s.countTaken u) (hl : LinkKept s.countTaken u)
    (hs : StoreRecordKept s u) (hw : u.store.writing = s.store.writing)
    (out : (!changed.contains .quiet) = true := by decide) :
    ∃ t, s.runRequest kind tag p rule = .next t ∧ Replied s t kind tag status fields ∧ Served changed s t P ∧
      (u.store.dirty = true → StoreMarked s t) ∧ (u.store = s.store → StoreUnmarked s t) := by
  have kq : u.quiet = none := by
    refine (hk.at .quiet ?_).trans h.2.1
    simp [linkBlocks]
    simpa using out
  have kqs : u.serveSlot.quiet = none := ((keeps_serveSlot u).at .quiet).trans kq
  have kl := hl.trans (link_serveSlot u)
  have kst : u.serveSlot.store = u.store := (keeps_serveSlot u).at .store
  obtain ⟨t, ht, h1, h2, h3, h4, h5, h6⟩ := runRequest_answered s h kind tag p rule _ hr kqs
    (kl.receiver.trans rfl) (kl.holding.trans h.2.2.1) (kl.counters.trans rfl)
    (fun _ => ⟨kl.sending.trans rfl, kl.queue.imp (fun q => ⟨q.1, by rw [q.2, List.append_nil]; rfl⟩) id⟩)
  refine ⟨t, ht, h2, ?_, ?_, ?_⟩
  · refine served_of changed s u t P hp ?_ h1 h3.1
    refine Keeps.trans ((keeps_countTaken s).mono ?_) hk
    simp [linkBlocks]
  · intro hd
    obtain ⟨_, m1, m2⟩ := h5 (by simpa [kst] using hd)
    simp only [kst, hw, StoreRecordKept] at m1 m2 h4 hs ⊢
    refine ⟨?_, m1, m2⟩
    obtain ⟨a, b, c, d, e⟩ := h4
    obtain ⟨a', b', c', d', e'⟩ := hs
    exact ⟨a.trans a', b.trans b', c.trans c', d.trans d', e.trans e'⟩
  · intro hd
    simpa [StoreUnmarked, StoreRecordKept, kst, hd] using h6

/-- An event's end, in a part that works: the transmitter and the store go on, and nothing else moves. -/
theorem run_served (s : State) (h : Works s) (f : State → State) (u : State) (changed : List Block) (P : State → Prop)
    (hf : f s = u.serveSlot) (hp : P u) (hk : Keeps (changed ++ linkBlocks) s u)
    (out : (!changed.contains .quiet) = true := by decide) :
    ∃ t, s.run f = .next t ∧ Served changed s t P ∧ StoreRecordKept u t ∧
      (u.store.dirty = true → StoreMarked u t) ∧ StoreUnmarked u t := by
  have kq : u.quiet = none := by
    refine (hk.at .quiet ?_).trans h.2
    simp [linkBlocks]
    simpa using out
  have kqs : u.serveSlot.quiet = none := ((keeps_serveSlot u).at .quiet).trans kq
  have kst : u.serveSlot.store = u.store := (keeps_serveSlot u).at .store
  obtain ⟨_, _, _, hn, hr⟩ := closeStep_link u.serveSlot
  refine ⟨u.serveSlot.closeStep, by simp [State.run, h.1, hf], ?_, ?_, ?_, ?_⟩
  · exact served_of changed s u _ P hp hk (keeps_closeStep_working _ kqs) hn.1
  · simpa [StoreRecordKept, kst] using hr
  · intro hd
    have m := closeStep_marked u.serveSlot kqs (by simpa [kst] using hd)
    simp only [kst] at m
    exact ⟨by simpa [StoreRecordKept, kst] using hr, m.1, m.2⟩
  · have m := closeStep_unmarked u.serveSlot
    simp only [kst] at m
    exact ⟨by simpa [StoreRecordKept, kst] using hr, m.1, m.2⟩

end Sys2Proof.Machine
end

