-- ==== Sys2Proof/Tests/Slice0.lean ====
section
/-! SUPPORT. Tests: the smoke test of WellFormed, the manual's worked examples, and for every statement with hypotheses a
concrete state and operands that meet them (`witness_…`, clause by clause, at boundary values of their ranges). -/

set_option Elab.async false

namespace Sys2Proof.Tests

open Sys2Proof Sys2Proof.Machine

/-! ### WellFormed -/

theorem test_payload_of_512_fits : (Instr.submit 0 (List.replicate 512 0)).wellFormed = true := by decide +kernel

theorem test_payload_of_513_refused : (Instr.submit 0 (List.replicate 513 0)).wellFormed = false := by decide +kernel

theorem test_known_kind_is_no_unknown_kind : (Instr.unknownKind 0x10 0 []).wellFormed = false := by decide +kernel

theorem test_unknown_kind_payload_refused :
    (Instr.unknownKind 0x27 0 (List.replicate 513 0)).wellFormed = false ∧
      (Instr.unknownKind 0x27 0 []).wellFormed = true := by decide +kernel

theorem test_no_word_spells_a_command : decodeTableWord 32 0 = none ∧ State.reset.withFetchWord 32 0 = State.reset :=
  ⟨rfl, rfl⟩

/-! ### The manual's worked examples -/

/-- R186: the CRC of the nine ASCII digits 1 to 9 is 0x29B1. -/
theorem test_crc_of_the_digits : crc16 [0x31, 0x32, 0x33, 0x34, 0x35, 0x36, 0x37, 0x38, 0x39] = 0x29B1#16 := by
  decide +kernel

/-- R218 step 5: the first frame sent to the engine. -/
theorem test_first_frame_is_engine_reset : firstResetFrame = EngineCommand.engineReset.frame 0 := by decide +kernel

/-- The worked example of section 10.4: with SUPPLY pending and disabled, NOTICE_ENABLE of all eight is answered OK with the
enable set all eight, the pending set stays, and a NOTICE frame awaits ahead of the reply. -/
theorem test_notice_enable_example :
    let s : State := { State.reset with notices := { State.reset.notices with pending := 4, enabled := 251 } }
    let a := takeNoticeEnable [255] s
    a.status = .ok ∧ a.fields = [255] ∧ a.state.notices.enabled = 255 ∧ a.state.notices.pending = 4 ∧
      a.state.notices.place = .awaiting ∧ a.state.server.tx = [.notice] := by decide +kernel

/-- R217: power applied over the image that reset starts from gives reset again. -/
theorem test_power_up_of_reset : exec (.powerUp true) State.reset = .next State.reset := by
  have h : (State.reset.powerUp true).closeStep = State.reset := by decide +kernel
  exact congrArg Host.Outcome.next h

/-- Section 2.3, first example. -/
theorem test_placement_past_one_zone :
    let r : Roll := { Roll.factory with
      length := 30000, position := 12400 * 40,
      zones := (Roll.factory.zones.set 0 { start := 12900, stop := 13050 }).set 1 { start := 20000, stop := 19000 } }
    r.placementStart 1300 = 13051 ∧ r.fits 1300 = true := by decide +kernel

/-- Section 2.3, second example, on the roll of 20,000 mm and on that of 11,000 mm. -/
theorem test_placement_past_a_chain :
    let r (length : Nat) : Roll := { Roll.factory with
      length := length, position := 5000 * 40,
      zones := ((Roll.factory.zones.set 2 { start := 5500, stop := 5700 }).set 3 { start := 7000, stop := 7400 }).set 5
        { start := 9000, stop := 9100 } }
    (r 20000).placementStart 2600 = 9101 ∧ (r 20000).fits 2600 = true ∧ (r 11000).fits 2600 = false ∧
      (r 11000).placementStart 1300 = 7401 ∧ (r 11000).fits 1300 = true := by decide +kernel

/-- R25: the table of bands. -/
theorem test_bands :
    bandCount 1210 (effectiveBand 25) = 49 ∧ bandMm 1210 25 49 49 = 10 ∧ bandCount 1500 (effectiveBand 30) = 60 ∧
      bandCount 1500 (effectiveBand 100) = 15 ∧ bandCount 50 (effectiveBand 100) = 1 ∧ bandMm 50 100 1 1 = 50 := by
  decide

/-- R39: 63 pulses off 1,000 are slip, 60 are not (section 2.5). -/
theorem test_slip : slips 1000 1063 = true ∧ slips 1000 1060 = false ∧ slips 1000 940 = false ∧ slips 1000 939 = true := by
  decide

/-- R123: the table of differences. -/
theorem test_delta_e :
    let zero : Lab := { L := 5000, a := 0, b := 0 }
    deltaE { L := 5120, a := -90, b := 50 } zero = 158 ∧ deltaE { L := 4960, a := 30, b := 0 } zero = 50 ∧
      deltaE { L := 5300, a := 150, b := -100 } zero = 350 := by decide +kernel

/-- R93 and section 8.3: 847,000 nL at 6,500 cost 5,506, and 1,300 mm at 142,500 cost 185,250. -/
theorem test_costs :
    volumeCost 8470000000 6500 = 5506 ∧ mediaCost (pulsesToMm 52000) 142500 = 185250 ∧
      mediaCost (pulsesToMm 3400) 142500 = 12113 := by decide

/-- Section 7.2: δ of the strips, truncated toward zero and limited. -/
theorem test_correction_steps :
    correctionStep 120 6 20 = 7 ∧ correctionStep (-60) 6 20 = -3 ∧ correctionStep 900 6 20 = 20 ∧
      clampGain (1140 + correctionStep 500 6 20) = 1150 ∧ clampBites (1140 + correctionStep 500 6 20) = true ∧
      clampGain (1150 + correctionStep (-90) 6 20) = 1145 := by decide

/-! ### States and payloads -/

/-- A media kind of the manual's examples: band length 25, lead 30, strip margin 40, tail 30, dwell 180. -/
def paper : MediaKind :=
  { name := Vector.replicate 8 0, bandLength := 25, lead := 30, tail := 30, stripMargin := 40, dwell := 180 }

/-- Sixteen equal patches. -/
def patches (L : Int) : Vector Lab 16 := Vector.replicate 16 { L := L, a := 0, b := 0 }

/-- Verdict settings with a reference. -/
def checking : VerdictSettings :=
  { reference := some (patches 5000), maxTolerance := 300, meanTolerance := 150, driftLevel := 100, patches := 65535 }

/-- An order of 1,200 mm on kind 3, its deadline 50. -/
def job (st : OrderState) (attempts : Nat) : Order :=
  { reference := 7001, state := st, account := 12, mediaKind := 3, edition := none, printLength := 1200, printWidth := 1000,
    channels := 4, priority := 3, deadline := some 50, ceiling := none, stopAtCeiling := false, check := true,
    attemptsAllowed := 2, attemptsUsed := attempts, acceptedTime := 0 }

/-- An edition of 10 prints on kind 3. -/
def series (st : EditionState) (accepted : Nat) : Edition :=
  { reference := 5012, mediaKind := 3, size := 10, accepted := accepted, state := st, readings := none, openedAt := 0,
    fixedAt := none }

/-- The part with its engine running, kind 3 defined and its roll declared, one edition, and order 7001 in slot 0. -/
def busy (o : Order) (st : EditionState) : State :=
  { State.reset with
    orders := { slots := (Vector.replicate 40 none).set 0 (some o), arrival := [0], paused := false, clock := 0 },
    media := { kinds := (Vector.replicate 8 none).set 3 (some paper), present := true,
               roll := { Roll.factory with declared := true, mediaKind := 3, width := 1000, length := 30000,
                                           position := 496000 },
               condition := none },
    colour := { State.reset.colour with
      settings := (Vector.replicate 8 none).set 3 (some checking),
      gainSets := ((Vector.replicate 24 none).set 3 (some GainSet.first)).set 8 (some GainSet.first) },
    editions := (Vector.replicate 16 none).set 0 (some (series st 3)),
    engine := { EngineLink.fresh true with state := .ok, coverClosed := true, startUpFlag := false, nextTag := 2 } }

/-- The attempt of order 7001 in a phase. -/
def trial (p : Phase) (step : AttemptStep) : Attempt :=
  { slot := 0, reference := 7001, number := 1, phase := p, step := step, start := 13051, need := 1300, waste := 651,
    bandLength := 25, lead := 30, tail := 30, stripMargin := 40, dwell := 180, check := true, bandsTotal := 48,
    bandsDone := 0, gainSet := 3, gains := GainSet.first.gains, prices := PriceTable.zero, version := 0,
    tallies := Vector.replicate 12 0, tallySaturated := false, ownPulses := 0, wastePulses := 0, cutsMade := 0,
    pendingOutcome := none, ceilingNoted := false, verdict := .none, readings := none, dwellRemaining := 1 }

/-- That attempt holds the slot. -/
def printing (p : Phase) (step : AttemptStep) : State :=
  { busy (job .active 1) .opened with holder := .attempt (trial p step) }

/-- A command of a party is outstanding with tag 9. -/
def awaiting (s : State) (command : EngineCommand) (party : Party) : State :=
  { s with engine := { s.engine with
      outstanding := some { command := command, tag := 9, party := party, frame := command.frame 9 } } }

/-- A payload of zeros with one byte set. -/
def payload (n i : Nat) (b : Byte) : List Byte := (List.replicate n 0).set i b

/-- One reply. -/
def answer : TxFrame := .reply 1 0x16 .ok []

/-- Every drop count zero. -/
def noDrops : Vector Drops 12 := Vector.replicate 12 { small := 0, medium := 0, large := 0 }

/-! ### Witnesses: the queue, reset and power -/

theorem witness_StepRunsFrontCommand :
    ({ State.reset with pending := [.clockTick, .powerLoss] } : State).pending = .clockTick :: [.powerLoss] := rfl

/-- An intact image, with and without the uncut marker; and each way an image is lost. -/
theorem witness_PowerUpLoadsTheImage :
    (let marked : State := { State.reset with store := { State.reset.store with
        image := .intact { Retained.factory with uncut := true } } }
     marked.store.image = .intact { Retained.factory with uncut := true } ∧ marked.store.writing = none) ∧
    State.reset.store.image = .intact Retained.factory ∧ State.reset.store.writing = none ∧
    ({ State.reset with store := { State.reset.store with image := .lost } } : State).store.image = .lost ∧
    ({ State.reset with store := { State.reset.store with writing := some Retained.factory } } : State).store.writing ≠
      none := by decide +kernel

theorem witness_PowerLossKeepsOnlyTheImage :
    ({ State.reset with held := true } : State).held = true ∧ Instr.clockTick ≠ .powerLoss ∧
      ∀ b, Instr.clockTick ≠ .powerUp b := ⟨rfl, by decide, by intro b h; cases h⟩

/-- A part in its quiet time, its reply sent. -/
def silent (image : Image) (dirty : Bool) (left : Nat) : State :=
  { State.reset with quiet := some { replySent := true, writesLeft := left },
                     store := { State.reset.store with image := image, dirty := dirty } }

/-- R220 steps 1 and 2: an attempt whose uncut marker is clear, and a trim that had fed over a clear-out already pending, mark
the store although no retained field changes, and the write begins; a trim that had not fed marks nothing. -/
theorem test_part_reset_marks_the_store :
    let after (h : Holder) : Bool :=
      let s : State := { busy (job .active 1) .opened with holder := h }
      let roll := { s.media.roll with clearOutPending := true }
      ({ s with media := { s.media with roll := roll } } : State).goQuiet.closeStep.store.writing.isSome
    after (.attempt (trial .wasteFeed .outstanding)) = true ∧
      after (.trim { length := 10, feedOver := true, pulses := some 400 }) = true ∧
      after (.trim { length := 10, feedOver := false, pulses := none }) = false := by decide +kernel

/-- An attempt, a trim and nobody hold the slot; a write in flight in the quiet time, with one further attempt left and with
none; an event of the quiet time; the soft reset with a clean store, with no write attempt left, and over a lost image. -/
theorem witness_PartResetAndSoftReset :
    (let w (left : Nat) : State :=
       { silent .lost true left with store := { (silent .lost true left).store with writing := some Retained.factory } }
     (w 1).held = false ∧ (w 1).quiet = some { replySent := true, writesLeft := 1 } ∧ (w 1).store.dirty = true ∧
      (w 1).store.writing = some Retained.factory ∧ 0 < 1 ∧
      (w 0).quiet = some { replySent := true, writesLeft := 0 } ∧ (w 0).store.writing = some Retained.factory ∧
      (w 0).quiet ≠ none ∧ reportOf (.cutDone 9) = some (9, .cutDone)) ∧
    (Takes (printing .lead .ready) ∧ Takes State.reset ∧
      Takes { State.reset with holder := .trim { length := 10, feedOver := true, pulses := some 400 } }) ∧
    ((silent (.intact Retained.factory) false 3).held = false ∧
      (silent (.intact Retained.factory) false 3).quiet = some { replySent := true, writesLeft := 3 } ∧
      (silent (.intact Retained.factory) false 3).store.writing = none ∧
      (silent (.intact Retained.factory) false 3).store.dirty = false) ∧
    (silent .lost true 0).held = false ∧ (silent .lost true 0).quiet = some { replySent := true, writesLeft := 0 } ∧
      (silent .lost true 0).store.writing = none ∧ (silent .lost true 0).store.image = .lost := by
  unfold Takes; decide +kernel

/-! ### Witnesses: the server link -/

theorem witness_UnexaminedPayloadsRefused :
    requestOf (.submit 1 (payload 33 0 0)) = some { kind := 0x10, length := 34, tag := 1, payload := payload 33 0 0 } ∧
      requestOf (.pause 1 [0]) = some { kind := 0x16, length := 0, tag := 1, payload := [0] } ∧ Takes State.reset ∧
      (payload 33 0 0).length ≠ 34 ∧ [(0 : Byte)].length ≠ 0 ∧ kindUnknown 0x27 = true :=
  ⟨rfl, rfl, by unfold Takes; decide, by decide, by decide, by decide⟩

/-- One request taken with OK and one refused. -/
theorem witness_RefusedRequestsChangeNothing :
    Takes State.reset ∧ (∃ t, exec (.pause 1 []) State.reset = .next t ∧
      t.server.tx.getLast? = some (.reply 1 0x16 .ok [])) ∧
    ∃ t, exec (.pause 1 [0]) State.reset = .next t ∧ t.server.tx.getLast? = some (.reply 1 0x16 .badLength []) :=
  ⟨by unfold Takes; decide, ⟨_, rfl, by decide +kernel⟩, ⟨_, rfl, by decide +kernel⟩⟩

/-- The quiet time; four replies queued; four frames held as well. -/
theorem witness_UntakenFramesAreHeld :
    (silent .lost false 3).held = false ∧ (silent .lost false 3).quiet ≠ none ∧
      (let full : State := { State.reset with server := { State.reset.server with
        tx := [answer, answer, answer, answer], holding := List.replicate 4 { kind := 0x16, tag := 1, payload := [] } } }
       full.held = false ∧ 4 ≤ replyCount full.server.tx ∧ ¬full.server.holding.length < 4) ∧
      kindUnknown 0x27 = true ∧
      requestOf (.pause 1 [0]) = some { kind := 0x16, length := 0, tag := 1, payload := [0] } := by
  refine ⟨rfl, by decide +kernel, by decide +kernel, by decide, rfl⟩

/-- The part sending the head of a transmit queue. -/
def sending (tx : List TxFrame) (held : List Frame) (owed : Bool) : State :=
  { State.reset with server := { State.reset.server with tx := tx, sending := some [0x5A], holding := held },
                     notices := { State.reset.notices with owed := owed } }

/-- Nothing held; a frame held in the quiet time while the PART_RESET reply leaves, and behind four other replies; a NOTICE
and a reply that make room for the oldest of two; one request held alone. -/
theorem witness_TransmitCompleteMakesRoom :
    let held : Frame := { kind := 0x16, tag := 1, payload := [] }
    let quiet : State := { sending [.reply 1 0x71 .ok []] [held] false with
      quiet := some { replySent := false, writesLeft := 3 } }
    ((sending [.notice] [] true).server.sending = some [0x5A] ∧ (sending [.notice] [] true).held = false ∧
      (sending [.notice] [] true).server.holding = [] ∧ (sending [.notice] [] true).server.tx = .notice :: [] ∧
      (sending [answer] [] false).server.tx = answer :: []) ∧
    (quiet.held = false ∧ quiet.quiet ≠ none ∧ quiet.server.sending = some [0x5A] ∧ quiet.server.holding ≠ [] ∧
      quiet.server.tx = .reply 1 0x71 .ok [] :: [] ∧ 4 ≤ replyCount [answer, answer, answer, answer]) ∧
    (Works (sending [answer, answer, answer, answer] [held, held] false) ∧
      Works (sending [.notice, answer, answer, answer] [held, held] false) ∧
      replyCount [answer, answer, answer] = 3 ∧
      (sending [.notice, answer, answer, answer] [held, held] false).server.holding = held :: [held]) ∧
    requestOf (.pause 1 []) = some { kind := 0x16, length := 0, tag := 1, payload := [] } ∧
      (sending [answer, answer, answer, answer] [held] false).server.holding = [held] := by
  unfold Works; exact ⟨by decide +kernel, by decide +kernel, by decide +kernel, rfl, rfl⟩

/-- R200 and R220: the PART_RESET reply that leaves in the quiet time is recorded although a frame is held, and the frame
stays held. -/
theorem test_part_reset_reply_sent_with_a_frame_held :
    let held : Frame := { kind := 0x16, tag := 1, payload := [] }
    let s : State := { sending [.reply 1 0x71 .ok []] [held] false with
      quiet := some { replySent := false, writesLeft := 3 } }
    let t := (s.transmitComplete ruleOf).closeStep
    t.quiet = some { replySent := true, writesLeft := 3 } ∧ t.server.holding = [held] ∧ t.server.tx = [] := by
  decide +kernel

/-- A payload of 512 bytes in a settled part whose receivers hunt; a kind that is no request; a frame of the engine link that
is a report, and one whose length makes it a bad frame. -/
theorem witness_FrameBytesAreTheRequest :
    kindUnknown 0x27 = true ∧ State.reset.engine.receiver = { phase := .hunting, bytes := [] } ∧
      engineCommandOf 0xB0 9 (u32 1200) = some (.feedDone 9 1200) ∧ engineCommandOf 0xB0 9 [] = none ∧
      engineCommandOf 0xC3 0 [1] = some (.coverEvent 1) ∧ engineCommandOf 0xC4 0 [1] = none ∧
    requestOf (.identify 1 (payload 512 0 0)) = some { kind := 0x60, length := 0, tag := 1, payload := payload 512 0 0 } ∧
      (payload 512 0 0).length ≤ 512 ∧ State.reset.held = false ∧
      State.reset.server.receiver = { phase := .hunting, bytes := [] } ∧ Settled State.reset :=
  ⟨by decide, rfl, by decide +kernel, by decide, by decide, by decide, rfl, by decide +kernel, rfl, rfl,
    by unfold Settled; decide +kernel⟩

/-- A receiver of a link with these bytes held. -/
def receiving (phase : RxPhase) (bytes : List Byte) : State :=
  (State.reset.setReceiver .server { phase := phase, bytes := bytes }).setReceiver .engine
    { phase := phase, bytes := bytes }

/-- A frame in progress, the first overlong length (513), HUNTING, and the bytes that continue a frame at the limits of
its parts; the last byte of PAUSE's frame, right and wrong. -/
theorem witness_BytesBuildJudgeOrDropFrames :
    Works (receiving .length [1]) ∧ (receiving .length [1]).server.receiver.phase ≠ .hunting ∧
      (receiving .length [1]).server.receiver.overlong 2 = true ∧
      (receiving .length [1]).engine.receiver.overlong 2 = true ∧
      (receiving .length [0]).server.receiver.overlong 2 = false ∧
      (State.reset.receiver .server).phase = .hunting ∧ (State.reset.receiver .engine).phase = .hunting ∧
      ([0, 2] : List Byte).length < 6 + u16At [0, 2] 0 ∧ u16At [0, 2] 0 ≤ 512 ∧
      ((receiving .crc (covered 0x16 1 [] ++ [0x00])).server.receiver =
        { phase := .crc, bytes := covered 0x16 1 [] ++ [0x00] }) ∧
      (∃ hi lo : Byte, hi ++ lo = crc16 (covered 0x16 1 []) ∧ hi ++ (lo + 1) ≠ crc16 (covered 0x16 1 [])) ∧
      ((receiving .crc (covered 0xB5 9 [] ++ [0x00])).engine.receiver =
        { phase := .crc, bytes := covered 0xB5 9 [] ++ [0x00] }) ∧
      kindUnknown 0x27 = true ∧ (∃ hi lo : Byte, hi ++ lo = crc16 (covered 0x27 1 [])) ∧
      requestOf (.pause 1 []) = some { kind := 0x16, length := 0, tag := 1, payload := [] } := by
  refine ⟨by unfold Works; decide, by decide, by decide, by decide, by decide, by decide, by decide, by decide, by decide,
    by decide, ⟨(crc16 (covered 0x16 1 [])).extractLsb' 8 8, (crc16 (covered 0x16 1 [])).extractLsb' 0 8, ?_, ?_⟩, rfl,
    by decide, ⟨(crc16 (covered 0x27 1 [])).extractLsb' 8 8, (crc16 (covered 0x27 1 [])).extractLsb' 0 8, ?_⟩, rfl⟩ <;>
    decide +kernel

/-! ### Witnesses: queries -/

/-- The part between attempts, order 7001 QUEUED. -/
def idle : State := busy (job .queued 0) .opened

theorem takes_idle : Takes idle := by unfold Takes; decide +kernel

theorem takes_printing : Takes (printing .lead .ready) := by unfold Takes; decide +kernel

/-- The little-endian bytes of reference 7001 at the start of a payload. -/
def named (n : Nat) : List Byte := u32 7001 ++ List.replicate n 0

/-- A reference present and one absent; a state set with bit 6 alone and one with bit 7. -/
theorem witness_RecordsAndOrderQueries :
    Takes idle ∧ (named 0).length = 4 ∧ idle.findOrder (word32At (named 0) 0) = some 0 ∧
      idle.orders.slots[(0 : Fin 40)] = some (job .queued 0) ∧ idle.findOrder (word32At (payload 4 0 1) 0) = none ∧
      byteAt [64] 0 < 128 ∧ 128 ≤ byteAt [128] 0 ∧ byteAt [127] 0 < 128 :=
  ⟨takes_idle, by decide +kernel, by decide +kernel, by decide +kernel, by decide +kernel, by decide, by decide, by decide⟩

theorem witness_StatusQueries : Takes idle ∧ [(1 : Byte)].length = 1 ∧ byteAt [1] 0 = 1 ∧ byteAt [0] 0 = 0 :=
  ⟨takes_idle, by decide, by decide, by decide⟩

/-- Kind 7, kind 8 and the defined kind 3; an attempt and none; a command outstanding. -/
theorem witness_PrinterQueries :
    Takes idle ∧ byteAt [7] 0 = (7 : Fin 8).val ∧ 7 < byteAt [8] 0 ∧ idle.media.kinds[(3 : Fin 8)] = some paper ∧
      idle.media.kinds[(7 : Fin 8)] = none ∧ Takes (printing .lead .ready) ∧
      (printing .lead .ready).holder = .attempt (trial .lead .ready) ∧ (∀ a, idle.holder ≠ .attempt a) ∧
      Takes (awaiting idle .cut .trim) ∧
      (awaiting idle .cut .trim).engine.outstanding =
        some { command := .cut, tag := 9, party := .trim, frame := EngineCommand.cut.frame 9 } :=
  ⟨takes_idle, by decide, by decide, by decide +kernel, by decide +kernel, takes_printing, rfl,
    (by intro a h; have h : Holder.idle = .attempt a := h; cases h), by unfold Takes; decide +kernel, rfl⟩

/-- R69 and R88: a command's timer stands at 0 when it is issued, and that of a PROBE at its timeout of one second stays there,
whatever time passes. -/
theorem test_command_timer :
    ((idle.issue .cut .trim).engine.outstanding).map (·.elapsed) = some 0 ∧
      ∀ passed : Nat, (Outstanding.later
        { command := .probe, tag := 9, party := .probing, frame := [], elapsed := 1 } passed).elapsed = 1 :=
  ⟨rfl, fun passed => by simp [Outstanding.later, EngineCommand.timeout]⟩

/-- A selector of media kind 3. -/
def kindSelector (n : Nat) : List Byte := [0, 3, 0, 0, 0] ++ List.replicate n 0

/-- A selector of edition 5012. -/
def editionSelector (n : Nat) : List Byte := [1] ++ u32 5012 ++ List.replicate n 0

theorem selects_kind (n : Nat) (hn : u32At (kindSelector n) 1 = 3) :
    SelectsGainSet idle (kindSelector n) 3 GainSet.first :=
  ⟨by decide +kernel, .inl ⟨3, rfl, hn, by decide +kernel, rfl⟩⟩

theorem selects_edition : SelectsGainSet idle (editionSelector 0) 8 GainSet.first :=
  ⟨by decide +kernel, .inr ⟨0, by decide, by decide +kernel, rfl⟩⟩

/-- Channels 11 and 12, kinds 7 and 8, and both selectors. -/
theorem witness_SupplyAndColourQueries :
    Takes idle ∧ byteAt [11] 0 = (11 : Fin 12).val ∧ 11 < byteAt [12] 0 ∧ byteAt [7] 0 = (7 : Fin 8).val ∧
      7 < byteAt [8] 0 ∧ idle.colour.settings[(3 : Fin 8)] = some checking ∧ (kindSelector 0).length = 5 ∧
      SelectsGainSet idle (kindSelector 0) 3 GainSet.first ∧ (editionSelector 0).length = 5 ∧
      SelectsGainSet idle (editionSelector 0) 8 GainSet.first :=
  ⟨takes_idle, by decide, by decide, by decide, by decide, by decide +kernel, by decide, selects_kind 0 (by decide),
    by decide, selects_edition⟩

theorem witness_EditionQueryReturnsRecord :
    Takes idle ∧ (u32 5012).length = 4 ∧ idle.findEdition (word32At (u32 5012) 0) = some 0 ∧
      idle.editions[(0 : Fin 16)] = some (series .opened 3) ∧ idle.findEdition (word32At (u32 5013) 0) = none ∧
      ([] : List Byte).length ≠ 4 :=
  ⟨takes_idle, by decide, by decide +kernel, by decide +kernel, by decide +kernel, by decide⟩

theorem witness_PricesQueryReturnsTable : Takes State.reset ∧ ([] : List Byte) = [] ∧ ([0] : List Byte) ≠ [] :=
  ⟨by unfold Takes; decide, rfl, by decide⟩

theorem witness_AccountQueryReturnsRecord :
    Takes State.reset ∧ byteAt [63] 0 = (63 : Fin 64).val ∧ 63 < byteAt [64] 0 ∧ ([] : List Byte).length ≠ 1 :=
  ⟨by unfold Takes; decide, by decide, by decide, by decide⟩

/-! ### Witnesses: requests to the order table -/

/-- The SUBMIT of section 12.4, order 7002 for account 12, here on media kind 3. -/
def order7002 : List Byte :=
  u32 7002 ++ [12, 3, 0, 0, 0, 0, 0] ++ u16 1200 ++ u16 1000 ++ [1] ++ u16 125 ++ [3] ++ List.replicate 5 0 ++
    List.replicate 7 0 ++ [0, 1, 2]

/-- Section 12.4: the layout is 34 bytes, and the fields are read as the table has them. -/
theorem test_submit_layout :
    order7002.length = 34 ∧ submitMalformed order7002 = false ∧ submitFields order7002 =
      { reference := 7002, account := 12, mediaKind := 3, edition := none, printLength := 1200, printWidth := 1000,
        channels := some 125, priority := 3, deadline := none, ceiling := none, stopAtCeiling := false, check := 1,
        attemptsAllowed := 2 } := by decide +kernel

/-- The order table filled to its last slot. -/
def fullTable : State :=
  { idle with orders := { idle.orders with slots := Vector.replicate 40 (some (job .completed 1)) } }

/-- An edition on kind 3 that has taken its last print, and one with a place taken by every unfinished order. -/
def closedSeries (st : EditionState) (accepted : Nat) : State :=
  { idle with editions := (Vector.replicate 16 none).set 0 (some (series st accepted)) }

/-- order7002 for edition 5012. -/
def editionOrder : List Byte :=
  u32 7002 ++ [12, 3, 1] ++ u32 5012 ++ u16 1200 ++ u16 1000 ++ [1] ++ u16 125 ++ [3] ++ List.replicate 5 0 ++
    List.replicate 7 0 ++ [0, 1, 2]

/-- Each of the six hold reasons, and none (R16). -/
theorem test_hold_reasons :
    let o := job .queued 0
    let rolled (r : Roll) : State := { idle with media := { idle.media with roll := r } }
    idle.holdReasons o = { supply := true } ∧ idle.holdReasons { o with channels := 0 } = {} ∧
      State.reset.holdReasons { o with channels := 0 } = { noRoll := true } ∧
      (rolled { idle.media.roll with mediaKind := 2 }).holdReasons { o with channels := 0 } = { mediaKind := true } ∧
      (rolled { idle.media.roll with width := 999 }).holdReasons { o with channels := 0 } = { mediaWidth := true } ∧
      (rolled { idle.media.roll with position := 28701 * 40 }).holdReasons { o with channels := 0 } =
        { mediaShort := true } ∧
      ({ idle with colour := { idle.colour with
          gainSets := idle.colour.gainSets.set 3 (some { GainSet.first with suspended := true }) } } : State).holdReasons
        { o with channels := 0 } = { colourSuspended := true } := by decide +kernel

/-- One SUBMIT for each reply: admitted; each refusal of R4 to R6; a kind that is defined. -/
theorem witness_SubmitAdmitsOrder :
    idle.media.kinds[(3 : Fin 8)] = some paper ∧
    (let f := submitFields order7002
     Takes idle ∧ submitMalformed order7002 = false ∧ idle.submitOutOfRange f = false ∧
      idle.findOrder (word32At order7002 0) = none ∧ idle.submitNotFound f = false ∧
      idle.submitEditionClosed f = false ∧ idle.submitEditionFull f = false ∧ idle.submitNoReference f = false ∧
      idle.submitOverCeiling f = false ∧ idle.freeSlot? = some 1) ∧
    1 < byteAt (order7002.set 31 2) 31 ∧
    (submitMalformed (order7002.set 4 1) = false ∧ byteAt (order7002.set 4 1) 4 < 2) ∧
    idle.findOrder (word32At (named 0 ++ order7002.drop 4) 0) ≠ none ∧
    State.reset.media.kinds[(3 : Fin 8)] = none ∧
    ((series .complete 10).state ∈ [EditionState.complete, .closed] ∧
      (closedSeries .complete 10).findEdition (word32At editionOrder 7) = some 0 ∧
      (closedSeries .complete 10).submitOutOfRange (submitFields editionOrder) = false) ∧
    ((series .opened 10).accepted + (closedSeries .opened 10).unfinishedNaming 5012 = (series .opened 10).size ∧
      (closedSeries .opened 10).submitEditionClosed (submitFields editionOrder) = false) ∧
    ({ idle with colour := State.reset.colour } : State).chosenReference none 3 = none ∧
    (u48At (order7002.set 24 1) 25 < ({ idle with costs := { idle.costs with
        prices := { PriceTable.zero with cut := 1 } } } : State).estimate 1300 3) ∧
    ∀ i : Fin 40, fullTable.orders.slots[i] ≠ none := by unfold Takes; decide +kernel

/-- An order that is waiting, ACTIVE and final; a ceiling set below, at and above the estimate of 1 cost unit. -/
theorem witness_AmendChangesWaitingOrder :
    Takes idle ∧ (named 16).length = 20 ∧ byteAt ((named 16).set 18 1) 18 = 1 ∧ 1 < byteAt ((named 16).set 4 2) 4 ∧
      idle.findOrder (word32At (named 16) 0) = some 0 ∧ idle.orders.slots[(0 : Fin 40)] = some (job .queued 0) ∧
      (job .queued 0).state.waiting = true ∧ (job .active 1).state = .active ∧
      (job .completed 1).state.unfinished = false ∧ idle.findOrder (word32At (payload 20 0 1) 0) = none ∧
      u48At ((named 16).set 11 1) 12 <
        ({ idle with costs := { idle.costs with prices := { PriceTable.zero with cut := 1 } } } : State).estimate 1300 3 ∧
      idle.estimate 1300 3 ≤ u48At ((named 16).set 11 1) 12 :=
  ⟨takes_idle, by decide, by decide, by decide, by decide +kernel, by decide +kernel, by decide, by decide, by decide,
    by decide +kernel, by decide +kernel, by decide +kernel⟩

theorem witness_CancelAndRelease :
    Takes idle ∧ (named 0).length = 4 ∧ idle.findOrder (word32At (named 0) 0) = some 0 ∧
      idle.orders.slots[(0 : Fin 40)] = some (job .queued 0) ∧ (job .queued 0).state.waiting = true ∧
      (busy (job .active 1) .opened).findOrder 7001 = some 0 ∧ (job .active 1).state = .active ∧
      (busy (job .completed 1) .opened).findOrder 7001 = some 0 ∧ (job .completed 1).state.unfinished = false ∧
      (job .queued 0).state.unfinished = true ∧ idle.findOrder (word32At (payload 4 0 1) 0) = none :=
  ⟨takes_idle, by decide, by decide +kernel, by decide +kernel, by decide, by decide +kernel, by decide,
    by decide +kernel, by decide, by decide, by decide +kernel⟩

/-- R21: the clock reaching 50 marks order 7001 late, and 49 does not; R20: the clock wraps. -/
theorem witness_PauseResumeAndClock :
    Takes idle ∧ (u32 50).length = 4 ∧ Works idle ∧ word32At (u32 50) 0 = 50 ∧ (4294967295 : Word32) + 1 = 0 :=
  ⟨takes_idle, by decide, by unfold Works; decide +kernel, by decide, by decide⟩

/-- R21: the scan at 50 marks order 7001 and makes LATE pending; at 49 it does not. -/
theorem test_lateness_scan :
    ((idle.setClockTo 50).orders.slots[(0 : Fin 40)]).map (·.late) = some true ∧ (idle.setClockTo 50).notices.pending = 2 ∧
      ((idle.setClockTo 49).orders.slots[(0 : Fin 40)]).map (·.late) = some false ∧
      (idle.setClockTo 49).notices.pending = 0 := by decide +kernel

/-! ### Witnesses: requests to the media unit and the engine link -/

/-- MEDIA_DEFINE of kind 7 with band length 1; kind 8; band length 0; each indicator byte at 2; kind 3, which an ACTIVE order
has. -/
theorem witness_MediaDefineWritesKind :
    Takes idle ∧ (payload 20 0 7).length = 20 ∧ byteAt ((payload 20 0 7).set 9 1) 0 = (7 : Fin 8).val ∧
      byteAt ((payload 20 0 7).set 9 1) 9 ≠ 0 ∧ 7 < byteAt (payload 20 0 8) 0 ∧ byteAt (payload 20 0 7) 9 = 0 ∧
      (1 < byteAt (payload 20 12 2) 12 ∧ 1 < byteAt (payload 20 15 2) 15 ∧ 1 < byteAt (payload 20 18 2) 18) ∧
      (¬∃ i : Fin 40, ∃ o, idle.orders.slots[i] = some o ∧ o.state = .active ∧ o.mediaKind = 7) ∧
      Takes (printing .lead .ready) ∧
      ∃ i : Fin 40, ∃ o, (printing .lead .ready).orders.slots[i] = some o ∧ o.state = .active ∧ o.mediaKind = 3 :=
  ⟨takes_idle, by decide, by decide, by decide, by decide, by decide, by decide, by
    have h : ∀ i : Fin 40, (idle.orders.slots[i]).any (fun o => decide (o.mediaKind = 7)) = false := by decide +kernel
    rintro ⟨i, o, ho, -, hk⟩
    have h' := h i
    rw [ho] at h'
    simp [hk] at h', takes_printing, 0, job .active 1, by decide +kernel, rfl, rfl⟩

/-- ROLL_DECLARE at the limits of its ranges, past them, in use and free; FLAW_MARK at 200,000 and past it; zones 7 and
8. -/
theorem witness_RollAndFlawRequests :
    (let p (k : Byte) (w l : Nat) : List Byte := [k] ++ u16 w ++ u32 l
     Takes idle ∧ (p 3 300 1000).length = 7 ∧ byteAt (p 3 300 1000) 0 = (3 : Fin 8).val ∧
      ¬(7 < byteAt (p 3 300 1000) 0 ∨ u16At (p 3 300 1000) 1 < 300 ∨ 1600 < u16At (p 3 300 1000) 1 ∨
        u32At (p 3 300 1000) 3 < 1000 ∨ 200000 < u32At (p 3 300 1000) 3) ∧
      u16At (p 3 299 1000) 1 < 300 ∧ 1600 < u16At (p 3 1601 1000) 1 ∧ u32At (p 3 300 999) 3 < 1000 ∧
      200000 < u32At (p 3 300 200001) 3) ∧
    idle.media.kinds[(3 : Fin 8)] ≠ none ∧ idle.media.kinds[(7 : Fin 8)] = none ∧ State.reset.media.present = false ∧
    idle.media.present = true ∧
    ¬(idle.holder.activityCode ∈ [1, 2, 4] ∨ idle.engine.pendingTrim ≠ none) ∧
    (printing .lead .ready).holder.activityCode ∈ [1, 2, 4] ∧
    (let q (z : Byte) (a b : Nat) : List Byte := [z] ++ u32 a ++ u32 b
     (q 7 200000 0).length = 9 ∧ byteAt (q 7 200000 0) 0 = (7 : Fin 8).val ∧ u32At (q 7 200000 0) 1 ≤ 200000 ∧
      u32At (q 7 200000 0) 5 ≤ 200000 ∧ 200000 < u32At (q 7 0 200001) 5 ∧ 7 < byteAt (q 8 0 0) 0) ∧
    byteAt [7] 0 = (7 : Fin 8).val ∧ 7 < byteAt [8] 0 := by unfold Takes; decide +kernel

/-- TRIM of 9, 10, 2,000 and 2,001 mm; a roll with 10 mm left; the levels 3 and 4. -/
theorem witness_TrimAndCleanRequests :
    Takes idle ∧ (u16 10).length = 2 ∧ u16At (u16 9) 0 < 10 ∧ 2000 < u16At (u16 2001) 0 ∧ 10 ≤ u16At (u16 10) 0 ∧
      u16At (u16 2000) 0 ≤ 2000 ∧ State.reset.media.roll.declared = false ∧ idle.media.roll.declared = true ∧
      idle.media.roll.position / 40 + u16At (u16 2000) 0 ≤ idle.media.roll.length ∧
      ({ idle.media.roll with position := 29991 * 40 } : Roll).length < 29991 + u16At (u16 10) 0 ∧
      (idle.holder = .idle ∧ idle.engine.pendingTrim = none ∧ idle.engine.state ∈ [.ok, .warn, .limited] ∧
        idle.engine.coverClosed = true) ∧ (printing .lead .ready).holder ≠ .idle ∧
      (∃ c : Fin 12, 3 < byteAt (payload 12 11 4) c.val) ∧ (∀ c : Fin 12, byteAt (payload 12 11 3) c.val ≤ 3) := by
  unfold Takes; decide +kernel

/-- ENGINE_RESTART with an attempt in flight and after reset; AUTO_RECOVERY_SET in OFF, idle, with the PROBE of an ended
probing outstanding, and during probing. -/
theorem witness_RestartAndAutoRecovery :
    Takes (printing .lead .ready) ∧ (printing .lead .ready).engine.state ≠ .starting ∧ Takes State.reset ∧
      (∀ a, State.reset.holder ≠ .attempt a) ∧
      (let off : State := { idle with engine := { idle.engine with state := .off, errorCount := 255 } }
       Takes off ∧ off.engine.state = .off ∧ off.holder = .idle ∧ off.engine.outstanding = none ∧
        Takes { off with holder := .probing false } ∧ Takes (awaiting off .probe .ended) ∧
        (awaiting off .probe .ended).engine.state = .off ∧ (awaiting off .probe .ended).holder = .idle ∧
        (awaiting off .probe .ended).engine.outstanding ≠ none) ∧
      [(1 : Byte)].length = 1 ∧ byteAt [1] 0 = 1 ∧ byteAt [0] 0 = 0 ∧ 1 < byteAt [2] 0 :=
  ⟨takes_printing, by decide, by unfold Takes; decide,
    (by intro a h; have h : Holder.idle = .attempt a := h; cases h), by unfold Takes; decide +kernel, by decide, by decide,
    by decide, by decide⟩

/-! ### Witnesses: requests to the ink supply unit -/

/-- Channels 11 and 12; a threshold at 500,000,000 and above. -/
theorem witness_SizesAndThreshold :
    Takes State.reset ∧ (payload 6 0 9).length = 6 ∧ (payload 5 0 11).length = 5 ∧
      byteAt (payload 5 0 11) 0 = (11 : Fin 12).val ∧ 11 < byteAt (payload 5 0 12) 0 :=
  ⟨by unfold Takes; decide, by decide, by decide, by decide, by decide⟩

/-- The part with channel 0 in a supply state, its refill at some second. -/
def refilling (st : SupplyState) (elapsed : Nat) : State :=
  let c : Channel :=
    { RetainedChannel.factory.loaded with supply := st, refillBay := some .first, refillElapsed := elapsed }
  { idle with ink := { idle.ink with channels := idle.ink.channels.set 0 c } }

/-- A channel in FAULT and one that is not; a refill at 118 and at 119 seconds. -/
theorem witness_RefillsRestartAndExpire :
    Takes (refilling .fault 0) ∧ (refilling .fault 0).ink.channels[(0 : Fin 12)].supply = .fault ∧
      idle.ink.channels[(0 : Fin 12)].supply ≠ .fault ∧ byteAt [0] 0 = (0 : Fin 12).val ∧ 11 < byteAt [12] 0 ∧
      Works (refilling .refilling 118) ∧
      (refilling .refilling 118).ink.channels[(0 : Fin 12)].supply = .refilling ∧
      (refilling .refilling 118).ink.channels[(0 : Fin 12)].refillElapsed + 1 < 120 ∧
      119 ≤ (refilling .refilling 119).ink.channels[(0 : Fin 12)].refillElapsed := by
  unfold Takes Works; decide +kernel

/-! ### Witnesses: requests to the colour check unit -/

/-- Kinds 7 and 8, an empty patch selection, and a kind with and without settings. -/
theorem witness_VerdictSettingsWritten :
    Takes idle ∧ (payload 97 0 7).length = 97 ∧ byteAt (payload 97 0 7) 0 = (7 : Fin 8).val ∧ 7 < byteAt (payload 97 0 8) 0 ∧
      (payload 9 0 3).length = 9 ∧ u16At (payload 9 0 3) 7 = 0 ∧ u16At ((payload 9 0 3).set 8 128) 7 ≠ 0 ∧
      idle.colour.settings[(3 : Fin 8)] = some checking ∧ idle.colour.settings[(7 : Fin 8)] = none :=
  ⟨takes_idle, by decide +kernel, by decide +kernel, by decide +kernel, by decide, by decide, by decide, by decide +kernel,
    by decide +kernel⟩

/-- The selector checks, every refusal once; modes 2 and 3; a suspended set and one that is not. -/
theorem witness_CheckStateRequests :
    (requestOf (.historyRearm 1 (payload 5 0 2)) = some { kind := 0x44, length := 5, tag := 1, payload := payload 5 0 2 } ∧
      1 < byteAt (payload 5 0 2) 0 ∧ byteAt (payload 5 1 8) 0 = 0 ∧ 7 < u32At (payload 5 1 8) 1 ∧
      u32At (payload 5 1 7) 1 = (7 : Fin 8).val ∧ idle.media.kinds[(7 : Fin 8)] = none ∧
      byteAt (payload 5 0 1) 0 = 1 ∧ idle.findEdition (word32At (payload 5 0 1) 1) = none) ∧
    Takes idle ∧ SelectsGainSet idle (kindSelector 0) 3 GainSet.first ∧ (kindSelector 0).length = 5 ∧
    SelectsGainSet idle (kindSelector 1) 3 GainSet.first ∧ (kindSelector 1).length = 6 ∧
    byteAt ((kindSelector 1).set 5 2) 5 = CaptureMode.startOnFail.code ∧ 2 < byteAt ((kindSelector 1).set 5 3) 5 ∧
    GainSet.first.suspended = false ∧
    SelectsGainSet { idle with colour := { idle.colour with
      gainSets := idle.colour.gainSets.set 3 (some { GainSet.first with suspended := true }) } } (kindSelector 0) 3
      { GainSet.first with suspended := true } :=
  ⟨⟨rfl, by decide, by decide, by decide, by decide, by decide +kernel, by decide, by decide +kernel⟩, takes_idle,
    selects_kind 0 (by decide), by decide, selects_kind 1 (by decide), by decide, by decide, by decide, by decide,
    by decide +kernel, .inl ⟨3, by decide, by decide, by decide +kernel, rfl⟩⟩

theorem witness_GainsAndCorrectionWritten :
    Takes idle ∧ SelectsGainSet idle (kindSelector 24) 3 GainSet.first ∧ (kindSelector 24).length = 29 ∧
      SelectsGainSet idle (kindSelector 7) 3 GainSet.first ∧ (kindSelector 7).length = 12 ∧
      byteAt ((kindSelector 7).set 5 1) 5 ≤ 1 ∧ 1 < byteAt ((kindSelector 7).set 5 2) 5 :=
  ⟨takes_idle, selects_kind 24 (by decide), by decide, selects_kind 7 (by decide), by decide, by decide, by decide⟩

/-! ### Witnesses: requests to the edition table and the cost unit -/

/-- EDITION_OPEN of edition 5013 on kind 3, a carried-over count at its limits. -/
def opening (size : Nat) (carried : Byte) (count : Nat) : List Byte :=
  u32 5013 ++ [3] ++ u16 size ++ [carried] ++ u16 count ++ List.replicate 96 0

theorem witness_EditionsOpenCloseRemove :
    (Takes idle ∧ (opening 10 1 10).length = 106 ∧ byteAt (opening 10 1 10) 7 ≤ 1 ∧
      byteAt (opening 10 1 10) 4 = (3 : Fin 8).val ∧ 1 ≤ u16At (opening 10 1 10) 5 ∧ u16At (opening 999 0 0) 5 ≤ 999 ∧
      (1 ≤ u16At (opening 10 1 10) 8 ∧ u16At (opening 10 1 10) 8 ≤ u16At (opening 10 1 10) 5) ∧
      idle.findEdition (word32At (opening 10 1 10) 0) = none ∧ idle.media.kinds[(3 : Fin 8)] ≠ none ∧
      idle.kindReference 3 ≠ none ∧ idle.freeEditionSlot? = some 1 ∧
      idle.colour.gainSets[kindSet 3] = some GainSet.first) ∧
    (1 < byteAt (opening 10 2 0) 7 ∧ u16At (opening 10 1 0) 8 = 0 ∧ u16At (opening 10 1 11) 5 < u16At (opening 10 1 11) 8 ∧
      999 < u16At (opening 1000 0 0) 5 ∧ State.reset.media.kinds[(3 : Fin 8)] = none ∧
      idle.findEdition (word32At (u32 5012) 0) ≠ none ∧
      ({ idle with colour := State.reset.colour } : State).kindReference 3 = none ∧
      ∀ i : Fin 16, ({ idle with editions := Vector.replicate 16 (some (series .opened 3)) } : State).editions[i] ≠ none) ∧
    (idle.findEdition (word32At (u32 5012) 0) = some 0 ∧ idle.editions[(0 : Fin 16)] = some (series .opened 3) ∧
      (series .opened 3).state ≠ .closed ∧ idle.unfinishedNaming 5012 = 0 ∧
      0 < (busy { job .queued 0 with edition := some 5012 } .opened).unfinishedNaming 5012) ∧
    ((u32 5013).length = 4 ∧ idle.findEdition (word32At (u32 5013) 0) = none) ∧
    Takes (closedSeries .closed 3) ∧ (closedSeries .closed 3).findEdition (word32At (u32 5012) 0) = some 0 ∧
    (closedSeries .closed 3).editions[(0 : Fin 16)] = some (series .closed 3) := by
  unfold Takes; decide +kernel

/-- Accounts 63 and 64. -/
theorem witness_PricesAndAccountsWritten :
    Takes State.reset ∧ (payload 88 0 0).length = 88 ∧ (payload 1 0 63).length = 1 ∧ (payload 37 0 63).length = 37 ∧
      byteAt (payload 37 0 63) 0 = (63 : Fin 64).val ∧ 63 < byteAt (payload 37 0 64) 0 ∧ byteAt [63] 0 = (63 : Fin 64).val ∧
      63 < byteAt [64] 0 :=
  ⟨by unfold Takes; decide, by decide, by decide, by decide, by decide, by decide, by decide, by decide⟩

/-! ### Witnesses: notices and the store -/

/-- A free transmitter over a reply, over a NOTICE with a pending category enabled, and over one with none; a part that
sends. -/
theorem witness_NoticesAreQueuedAndSent :
    (let free (tx : List TxFrame) (pending : Byte) : State :=
       { State.reset with server := { State.reset.server with tx := tx },
                          notices := { State.reset.notices with pending := pending } }
     (free [answer] 0).server.sending = none ∧ (free [answer] 0).quiet = none ∧ (free [answer] 0).server.tx = answer :: [] ∧
      (free [.notice] 128).server.tx = .notice :: [] ∧
      (free [.notice] 128).notices.pending &&& (free [.notice] 128).notices.enabled ≠ 0 ∧
      (free [.notice] 0).notices.pending &&& (free [.notice] 0).notices.enabled = 0) ∧
    Takes (sending [answer] [] false) ∧ (sending [answer] [] false).server.sending.isSome = true ∧ Takes State.reset := by
  unfold Takes; decide +kernel

/-- A write in flight over a clean and over a dirty store. -/
theorem witness_StoreWritesImage :
    Takes State.reset ∧
      (let w (dirty : Bool) : State := { State.reset with store := { State.reset.store with
         writing := some Retained.factory, dirty := dirty } }
       Works (w true) ∧ (w true).store.writing = some Retained.factory ∧ Works (w false) ∧
        (w false).store.writing = some Retained.factory) := by unfold Takes Works; decide +kernel

/-! ### Witnesses: the engine link -/

/-- A working part with an error count in LIMITED, a FEED of 651 mm of the attempt outstanding with tag 9. -/
def limited (count : Nat) : State :=
  let s := awaiting (printing .wasteFeed .outstanding) (.feed 651) .attempt
  { s with engine := { s.engine with state := .limited, errorCount := count } }

/-- A CUT_DONE for the FEED's tag, and a report with nothing outstanding; a bad frame at 250 and a mismatched report at 252
with the slot empty, the last that do not make the state OFF; a timeout at 246, the last that does not make the
state OFF, and an ENGINE_RESET outstanding in STARTING. -/
theorem witness_EngineErrorsAreCounted :
    (let empty (count : Nat) : State := { idle with engine := { idle.engine with state := .limited, errorCount := count } }
     Works (empty 250) ∧ (empty 250).engine.outstanding = none ∧
      ¬((empty 250).engine.state.running = true ∧ 255 ≤ (empty 250).engine.errorCount + 4) ∧
      ¬((empty 252).engine.state.running = true ∧ 255 ≤ (empty 252).engine.errorCount + 2)) ∧
    ¬((limited 246).engine.state.running = true ∧ 247 ≤ (limited 246).engine.errorCount) ∧
      Works State.reset ∧ State.reset.engine.state = .starting ∧ State.reset.holder = .idle ∧
      State.reset.engine.outstanding =
        some { command := .engineReset, tag := 0, party := .startUp, frame := frameBytes 0xA6 0 [] } ∧
    Works (limited 200) ∧ (limited 200).engine.outstanding ≠ none ∧ (limited 200).engine.state.running = true ∧
      reportOf (.cutDone 9) = some (9, .cutDone) ∧
      (∀ o, (limited 200).engine.outstanding = some o → o.tag = 9 → Report.cutDone.answers o.command = false) ∧
      (limited 200).engine.expiredTag ≠ some 9 ∧ Works idle ∧ idle.engine.outstanding = none ∧
      idle.engine.expiredTag ≠ some 9 ∧
      (limited 200).engine.outstanding =
        some { command := .feed 651, tag := 9, party := .attempt, frame := (EngineCommand.feed 651).frame 9 } := by
  refine ⟨by unfold Works; decide +kernel, by decide +kernel, by unfold Works; decide, rfl, rfl, by decide +kernel,
    by unfold Works; decide +kernel, by decide +kernel, by decide, rfl, ?_, by decide +kernel, by unfold Works; decide +kernel, by decide +kernel, by decide +kernel, rfl⟩
  rintro o h -
  have h' : some { command := .feed 651, tag := 9, party := .attempt, frame := (EngineCommand.feed 651).frame 9 } =
    some o := h
  cases h'
  rfl

/-- A bad frame at 251, a mismatched report at 253, a timeout at 247, auto-recovery on, an attempt in flight. -/
theorem witness_OffEndsTheHolder :
    (Works (limited 251) ∧ (limited 251).engine.state.running = true ∧ 251 ≤ (limited 251).engine.errorCount ∧
      253 ≤ (limited 253).engine.errorCount ∧ (limited 253).engine.expiredTag ≠ some 8 ∧
      247 ≤ (limited 247).engine.errorCount ∧ (limited 247).engine.outstanding ≠ none ∧
      (limited 251).engine.autoRecovery = true ∧ (limited 251).holder = .attempt (trial .wasteFeed .outstanding)) ∧
    reportOf (.cutDone 8) = some (8, .cutDone) ∧
    ∀ o, (limited 253).engine.outstanding = some o → o.tag = 8 → Report.cutDone.answers o.command = false := by
  refine ⟨by unfold Works; decide +kernel, rfl, ?_⟩
  intro o h ht
  have h' : some { command := .feed 651, tag := 9, party := .attempt, frame := (EngineCommand.feed 651).frame 9 } =
    some o := h
  cases h'
  exact absurd ht (by decide)

/-- A late BAND_DONE, and a late CUT_DONE, which carries no ink, with the slot free and with a command outstanding; pulses
that reach the roll's end and one fewer; the BAND of an attempt that a roll removal ended. -/
theorem witness_LateReportsAreApplied :
    (let cmd : EngineCommand := .band 7001 1 1 25 GainSet.first.gains
     Awaits (awaiting idle cmd .ended) cmd .ended 9 ∧ (Report.bandDone 1000 noDrops).answers cmd = true ∧
      EngineCounted (awaiting idle cmd .ended)) ∧
    (let late : State := { idle with engine := { idle.engine with expiredTag := some 9 } }
     Works late ∧ late.engine.outstanding = none ∧ late.engine.expiredTag = some 9 ∧ late.media.roll.declared = true) ∧
    (let late : State := { limited 200 with engine := { (limited 200).engine with expiredTag := some 8 } }
     Works late ∧ late.engine.expiredTag = some 8 ∧ late.engine.outstanding =
       some { command := .feed 651, tag := 9, party := .attempt, frame := (EngineCommand.feed 651).frame 9 }) ∧
    idle.reachesEnd ((30000 - 12400) * 40) = true ∧ idle.reachesEnd ((30000 - 12400) * 40 - 1) = false ∧
    reportOf (.bandDone 9 1000 noDrops) = some (9, .bandDone 1000 noDrops) ∧
    reportOf (.cutDone 9) = some (9, .cutDone) := by
  refine ⟨⟨⟨⟨rfl, rfl⟩, _, _, rfl⟩, rfl, by decide, .inr rfl⟩, by unfold Works; decide +kernel,
    by unfold Works; decide +kernel, by decide +kernel, by decide +kernel, rfl, rfl⟩

/-- OFF with probing in progress. -/
def probing (run : Nat) : State :=
  { idle with holder := .probing false,
              engine := { idle.engine with state := .off, errorCount := 255, probeRun := run, coverClosed := false } }

/-- READY after reset; probe runs 14 and 15; a PROBE outstanding and none. -/
theorem witness_ReadyAndProbing :
    (Awaits State.reset .engineReset .startUp 0 ∧ State.reset.holder = .idle ∧ EngineCounted State.reset) ∧
      (Awaits (awaiting (probing 14) .probe .probing) .probe .probing 9 ∧ (probing 14).holder = .probing false ∧
        (probing 14).engine.state = .off ∧ (probing 14).engine.probeRun < 15 ∧ 15 ≤ (probing 15).engine.probeRun) ∧
      Works (probing 15) ∧ (probing 15).engine.outstanding = none ∧
      ∀ o, (awaiting (probing 15) .probe .probing).engine.outstanding = some o → o.party = .probing :=
  ⟨⟨⟨by unfold Works; decide, _, _, rfl⟩, rfl, by decide, .inl rfl⟩,
    ⟨⟨by unfold Works; decide +kernel, _, _, rfl⟩, rfl, rfl, by decide +kernel, by decide +kernel⟩,
    by unfold Works; decide +kernel, by decide +kernel, by
      intro o h
      have h' : some { command := .probe, tag := 9, party := .probing, frame := EngineCommand.probe.frame 9 } = some o := h
      cases h'
      rfl⟩

/-- The free part of the arbiter, in one engine state, with a clear-out, a cleaning or a trim waiting. -/
def offered (st : EngineState) (clearOut : Bool) (cleaning : Nat) (trim : Option Nat) : State :=
  let c : Channel := { RetainedChannel.factory.loaded with supply := .reserve, cleaning := cleaning }
  { idle with engine := { idle.engine with state := st, pendingTrim := trim },
              media := { idle.media with roll := { idle.media.roll with clearOutPending := clearOut } },
              ink := { idle.ink with channels := idle.ink.channels.set 0 c } }

theorem witness_ArbiterServesInOrder :
    (∀ h : Holder, ({ idle with holder := h } : State).quiet = none ∧
      ({ idle with holder := h } : State).engine.outstanding = none ∧ ({ idle with holder := h } : State).holder = h) ∧
    (limited 200).engine.outstanding ≠ none ∧
      (∀ st : EngineState, (offered st false 0 none).quiet = none ∧ (offered st false 0 none).engine.outstanding = none ∧
        (offered st false 0 none).holder = .idle ∧ (offered st false 0 none).engine.state = st) ∧
      (EngineState.ok ∉ [EngineState.starting, .off] ∧ idle.engine.coverClosed = true) ∧
      (offered .ok true 0 none).media.roll.clearOutPending = true ∧
      (offered .ok true 0 none).engine.state ∈ [.ok, .warn, .limited] ∧ idle.engine.startUpFlag = false ∧
      (offered .limited false 3 none).media.roll.clearOutPending = false ∧
      (∃ c : Fin 12, 0 < (offered .limited false 3 none).ink.channels[c].cleaning ∧
        (offered .limited false 3 none).ink.channels[c].supply ∈ [.supplied, .low, .reserve]) ∧
      (¬∃ c : Fin 12, 0 < (offered .ok false 0 (some 10)).ink.channels[c].cleaning ∧
        (offered .ok false 0 (some 10)).ink.channels[c].supply ∈ [.supplied, .low, .reserve]) ∧
      (offered .ok false 0 (some 10)).engine.pendingTrim = some 10 ∧ (offered .ok false 0 none).engine.pendingTrim = none ∧
      (offered .ok false 0 none).orders.paused = false ∧
      ({ State.reset with engine := (offered .ok false 0 none).engine } : State).reevaluate.orders.choose = none := by
  refine ⟨fun h => ⟨rfl, rfl, rfl⟩, by decide +kernel, fun st => ⟨rfl, rfl, rfl, rfl⟩, ?_⟩
  decide +kernel

/-- A part about to select order 7001, which uses no channel. -/
def selecting : State := busy { job .queued 0 with channels := 0 } .opened

/-- A trim whose FEED is over issues its CUT with the cover closed and waits while it is open (R44 step 2, R77). -/
theorem test_trim_goes_on_to_its_cut :
    let s : State := { idle with holder := .trim { length := 10, feedOver := true, pulses := some 400 } }
    (s.serveSlot.engine.outstanding).map (·.command) = some .cut ∧
      ({ s with engine := { s.engine with coverClosed := false } } : State).serveSlot.engine.outstanding = none := by
  decide +kernel

/-- The slot starts the attempt of order 7001 with its waste feed of 51 mm, past the zone that covers 12,400 to 12,450. -/
theorem test_selection_starts_the_attempt :
    let s : State := { selecting with media := { selecting.media with roll := { selecting.media.roll with
      zones := selecting.media.roll.zones.set 0 { start := 12400, stop := 12450 } } } }
    (s.serveSlot.engine.outstanding).map (fun o => (o.command, o.party)) = some (.feed 51, .attempt) ∧
      (s.serveSlot.orders.slots[(0 : Fin 40)]).map (·.state) = some .active := by decide +kernel

/-- An order on the arrival list chosen among two, the later one of higher priority; R18. The slot about to select. -/
theorem witness_SelectionStartsAttempt :
    (selecting.quiet = none ∧ selecting.engine.outstanding = none ∧ selecting.holder = .idle ∧
      selecting.engine.state ∈ [.ok, .warn] ∧ selecting.engine.coverClosed = true ∧
      selecting.engine.startUpFlag = false ∧ selecting.media.roll.clearOutPending = false ∧
      (¬∃ c : Fin 12, 0 < selecting.ink.channels[c].cleaning ∧
        selecting.ink.channels[c].supply ∈ [.supplied, .low, .reserve]) ∧
      selecting.engine.pendingTrim = none ∧ selecting.orders.paused = false ∧
      selecting.reevaluate.orders.choose = some (0, { job .queued 0 with channels := 0 })) ∧
    (let b : OrderBlock :=
       { slots := ((Vector.replicate 40 none).set 0 (some (job .queued 0))).set 1 (some { job .queued 0 with priority := 7 }),
         arrival := [0, 1], paused := false, clock := 0 }
     b.arrival.Nodup ∧ b.choose = some (1, { job .queued 0 with priority := 7 })) ∧
    idle.media.kinds[(job .queued 0).mediaKind] = some paper ∧ idle.orderSet? (job .queued 0) = some 3 ∧
    idle.colour.gainSets[(3 : Fin 24)] = some GainSet.first := by decide +kernel

/-! ### Witnesses: tasks and attempts -/

/-- A trim, a clear-out and a cleaning at each of their reports. -/
theorem witness_TaskReportsEndTasks :
    (∀ (h : Holder) (cmd : EngineCommand) (p : Party), EngineCounted (awaiting { idle with holder := h } cmd p) ∧
      Awaits (awaiting { idle with holder := h } cmd p) cmd p 9) ∧
    (awaiting { idle with holder := .trim (Task.new 10) } (.feed 10) .trim).holder = .trim (Task.new 10) ∧
    (awaiting { idle with holder := .clearOut (Task.new 30) } .cut .clearOut).holder = .clearOut (Task.new 30) ∧
    idle.media.roll.declared = true ∧ idle.isSlip 20 856 = false ∧ idle.isSlip 20 857 = true ∧
    ∀ c : Fin 12, (Vector.replicate 12 3)[c] ≤ 3 :=
  ⟨fun _ _ _ => ⟨⟨Nat.zero_le _, .inr rfl⟩, ⟨rfl, rfl⟩, _, _, rfl⟩, rfl, rfl, rfl, by decide +kernel, by decide +kernel,
    by decide⟩

/-- An attempt whose FEED is outstanding in each feeding phase. -/
theorem witness_AttemptFeedDone :
    (∀ p : Phase, EngineCounted (awaiting (printing p .outstanding) (.feed 30) .attempt) ∧
      (awaiting (printing p .outstanding) (.feed 30) .attempt).holder = .attempt (trial p .outstanding) ∧
      Awaits (awaiting (printing p .outstanding) (.feed 30) .attempt) (.feed 30) .attempt 9) ∧
    Phase.wasteFeed ∈ [Phase.wasteFeed, .lead, .tail] ∧ Phase.tail ∈ [Phase.wasteFeed, .lead, .tail] :=
  ⟨fun _ => ⟨⟨Nat.zero_le _, .inr rfl⟩, rfl, ⟨rfl, rfl⟩, _, _, rfl⟩, by decide, by decide⟩

/-- A BAND, and a STRIP, outstanding in its phase. -/
theorem witness_AttemptBandReports :
    (let cmd : EngineCommand := .band 7001 1 1 25 GainSet.first.gains
     let s := awaiting (printing .bands .outstanding) cmd .attempt
     EngineCounted s ∧ s.holder = .attempt (trial .bands .outstanding) ∧ Awaits s cmd .attempt 9 ∧
      (trial .bands .outstanding).phase = .bands) ∧
    (let cmd : EngineCommand := .strip 7001 1 40 GainSet.first.gains
     let s := awaiting (printing .strip .outstanding) cmd .attempt
     EngineCounted s ∧ s.holder = .attempt (trial .strip .outstanding) ∧ Awaits s cmd .attempt 9) :=
  ⟨⟨⟨by decide, .inr rfl⟩, rfl, ⟨⟨rfl, rfl⟩, _, _, rfl⟩, rfl⟩, ⟨by decide, .inr rfl⟩, rfl, ⟨rfl, rfl⟩, _, _, rfl⟩

theorem witness_StripDoneIsJudged :
    let cmd : EngineCommand := .strip 7001 1 40 GainSet.first.gains
    let s := awaiting (printing .strip .outstanding) cmd .attempt
    EngineCounted s ∧ s.holder = .attempt (trial .strip .outstanding) ∧
      s.orders.slots[(trial .strip .outstanding).slot] = some (job .active 1) ∧ (job .active 1).state = .active ∧
      Awaits s cmd .attempt 9 ∧ (trial .strip .outstanding).phase = .strip :=
  ⟨⟨by decide, .inr rfl⟩, rfl, by decide +kernel, rfl, ⟨⟨rfl, rfl⟩, _, _, rfl⟩, rfl⟩

/-- Readings equal on every patch. -/
def read (L : BitVec 16) : Vector RawReading 16 := Vector.replicate 16 { L := L, a := 0, b := 0, valid := 1 }

/-- A strip that passes and one that fails by its mean; none is judged without a valid patch. -/
theorem witness_JudgedStripCorrectsAndRecords :
    let cmd : EngineCommand := .strip 7001 1 40 GainSet.first.gains
    let s := awaiting (printing .strip .outstanding) cmd .attempt
    EngineCounted s ∧ s.holder = .attempt (trial .strip .outstanding) ∧
      s.orders.slots[(trial .strip .outstanding).slot] = some (job .active 1) ∧ (job .active 1).state = .active ∧
      Awaits s cmd .attempt 9 ∧ (trial .strip .outstanding).phase = .strip ∧
      s.judgement (job .active 1) (clampedReadings (read 5150)) = some
        { settings := checking, reference := patches 5000, mean := 150, max := 150, worst := 0, passed := true } ∧
      s.judgement (job .active 1) (clampedReadings (read 5151)) = some
        { settings := checking, reference := patches 5000, mean := 151, max := 151, worst := 0, passed := false } ∧
      s.judgement (job .active 1) (Vector.replicate 16 { lab := { L := 0, a := 0, b := 0 }, valid := false }) = none ∧
      s.colour.gainSets[(trial .strip .outstanding).gainSet] = some GainSet.first :=
  ⟨⟨by decide, .inr rfl⟩, rfl, by decide +kernel, rfl, ⟨⟨rfl, rfl⟩, _, _, rfl⟩, rfl, by decide +kernel, by decide +kernel,
    by decide +kernel, by decide +kernel⟩

/-- Section 7.2 and R132 to R134: a strip 1.51 lighter on every patch lowers nothing it should raise: each gain rises by
(151 × 6) div 100 = 9; a second failure in a row asks for level 2 only over the maximum, and suspends the set. -/
theorem test_failed_strip :
    let s := printing .strip .outstanding
    let t := (s.judgeStrip (trial .strip .outstanding) (clampedReadings (read 5151))).1
    let u := (t.judgeStrip (trial .strip .outstanding) (clampedReadings (read 5301))).1
    (t.colour.gainSets[(3 : Fin 24)]).map (fun x => x.gains[(0 : Fin 12)]) = some 1009 ∧
      t.colour.checks[(3 : Fin 24)].failRun = 1 ∧ t.ink.channels[(0 : Fin 12)].cleaning = 0 ∧
      (u.colour.gainSets[(3 : Fin 24)]).map (·.suspended) = some true ∧ u.ink.channels[(0 : Fin 12)].cleaning = 2 ∧
      u.notices.pending &&& 8#8 = 8#8 := by decide +kernel

/-- A READY step with the cover open and closed, at a boundary with and without an outcome; a dwell at 2 and at 1. -/
theorem witness_AttemptStepsAndDwell :
    (∀ p : Phase, (printing p .ready).quiet = none ∧ (printing p .ready).engine.outstanding = none ∧
      (printing p .ready).holder = .attempt (trial p .ready) ∧ (trial p .ready).step = .ready ∧
      (trial p .ready).pendingOutcome = none) ∧
    (printing .bands .ready).orders.slots[(trial .bands .ready).slot] = some (job .active 1) ∧
    (printing .bands .ready).engine.coverClosed = true ∧ 0 < (trial .bands .ready).tail ∧
    Works (printing .dwell .timing) ∧ (trial .dwell .timing).phase = .dwell ∧ (trial .dwell .timing).step = .timing ∧
    (trial .dwell .timing).dwellRemaining ≤ 1 ∧ 1 < ({ trial .dwell .timing with dwellRemaining := 2 } : Attempt).dwellRemaining :=
  ⟨fun _ => ⟨rfl, rfl, rfl, rfl, rfl⟩, by decide +kernel, rfl, by decide, ⟨rfl, rfl⟩, rfl, rfl, by decide, by decide⟩

/-- The CUT of both phases outstanding; an edition that numbers the print. -/
theorem witness_AttemptCutDone :
    (∀ p : Phase, EngineCounted (awaiting (printing p .outstanding) .cut .attempt) ∧
      (awaiting (printing p .outstanding) .cut .attempt).holder = .attempt (trial p .outstanding) ∧
      Awaits (awaiting (printing p .outstanding) .cut .attempt) .cut .attempt 9) ∧
    (printing .cut .outstanding).orders.slots[(trial .cut .outstanding).slot] = some (job .active 1) ∧
    (job .active 1).state = .active ∧
    ({ job .active 1 with edition := some 5012 } : Order).edition = some 5012 ∧ idle.findEdition 5012 = some 0 ∧
    idle.editions[(0 : Fin 16)] = some (series .opened 3) :=
  ⟨fun _ => ⟨⟨Nat.zero_le _, .inr rfl⟩, rfl, ⟨rfl, rfl⟩, _, _, rfl⟩, by decide +kernel, rfl, rfl, by decide +kernel,
    by decide +kernel⟩

/-! ### Witnesses: engine events -/

/-- The roll present and declared; a roll loaded at the start, in STARTING and after READY (log entry 21). -/
theorem witness_RollAndCoverEvents :
    (let loaded (st : EngineState) : State := { idle with
       media := { idle.media with present := false }, engine := { idle.engine with state := st } }
     Works (loaded .ok) ∧ (loaded .ok).media.roll.declared = true ∧ (loaded .ok).engine.state ≠ .starting ∧
      ¬((loaded .starting).media.roll.declared = true ∧
        ((loaded .starting).media.present = true ∨ (loaded .starting).engine.state ≠ .starting))) ∧
    Works idle ∧ idle.media.present = true ∧ idle.media.roll.declared = true ∧ State.reset.media.present = false ∧
      (2 : Byte) ≠ 0 ∧ (2 : Byte) ≠ 1 ∧ (printing .lead .ready).holder = .attempt (trial .lead .ready) ∧
      (printing .lead .ready).orders.slots[(trial .lead .ready).slot] = some (job .active 1) := by
  refine ⟨⟨⟨rfl, rfl⟩, rfl, by decide, by decide⟩, ⟨rfl, rfl⟩, rfl, rfl, rfl, by decide, by decide, rfl, by decide +kernel⟩

/-- R67 and R219: an absent ROLL_EVENT after READY undeclares a loaded roll, clears the clear-out and holds the orders. -/
theorem test_loaded_roll_absent_after_ready :
    let s : State := { idle with media := { idle.media with
      present := false, roll := { idle.media.roll with clearOutPending := true } } }
    let t := s.takeRollEvent 0
    t.media.roll.declared = false ∧ t.media.roll.clearOutPending = false ∧ t.notices.pending &&& 16#8 = 16#8 ∧
      (t.orders.slots[(0 : Fin 40)]).map (·.state) = some .held := by decide +kernel

/-- A channel whose next sample is its last, with an active bay of one nanolitre. -/
def sampling (st : SupplyState) (low empty full : Nat) : State :=
  let b : Bay := { Bay.factory with present := true, fill := 100000000, remaining := 1 }
  let c : Channel :=
    { RetainedChannel.factory.loaded with
      supply := st, lowRun := low, emptyRun := empty, fullRun := full, refillBay := some .first }
  { idle with ink := { idle.ink with bays := Vector.replicate 24 b, channels := Vector.replicate 12 c } }

/-- A sample byte 4 and all at 3; runs one short of acting (6, 6, 30) and acting (7, 7, 31), for each action. -/
theorem witness_LevelSamples :
    (∃ c : Fin 12, 3 < (((Vector.replicate 12 3).set 11 4 : Vector Byte 12)[c]).toNat) ∧
    (∀ b : Byte, b ∈ [0, 1, 2, 3] → ∀ c : Fin 12, ((Vector.replicate 12 b : Vector Byte 12)[c]).toNat ≤ 3) ∧
    (∀ st : SupplyState, ∀ l e f : Nat, Works (sampling st l e f)) ∧
    (let b : Bay := { Bay.factory with present := true, fill := 100000000, remaining := 1 }
     (sampling .low 7 0 0).ink.bays[bayOf 0 (sampling .low 7 0 0).ink.channels[(0 : Fin 12)].active] = b ∧ b.present = true ∧
      0 < b.remaining ∧ min 8 (7 + 1) = 8 ∧ min 8 (6 + 1) ≠ 8 ∧ min 32 (31 + 1) = 32 ∧ min 32 (30 + 1) ≠ 32) ∧
    SupplyState.low ∈ [SupplyState.supplied, .low] ∧ SupplyState.reserve ∈ [SupplyState.supplied, .low, .reserve] ∧
    (sampling .refilling 0 0 31).ink.channels[(0 : Fin 12)].supply = .refilling := by
  refine ⟨by decide, by decide, fun _ _ _ _ => ⟨rfl, rfl⟩, by decide +kernel, by decide, by decide, by decide +kernel⟩

/-- R100, R101, R107: the eighth LOW, the eighth EMPTY and the thirty-second FULL sample act, and those before do not. -/
theorem test_level_samples_act :
    let after (s : State) (b : Byte) : Channel := (s.takeLevels (Vector.replicate 12 b)).ink.channels[(0 : Fin 12)]
    (after (sampling .low 7 0 0) 2).active = .second ∧ (after (sampling .low 6 0 0) 2).active = .first ∧
      (after (sampling .reserve 0 7 0) 3).supply = .dry ∧ (after (sampling .reserve 0 6 0) 3).supply = .reserve ∧
      (after (sampling .refilling 0 0 31) 0).reserve = 25000000 ∧ (after (sampling .refilling 0 0 31) 0).supply = .low ∧
      (after (sampling .refilling 0 0 30) 0).supply = .refilling := by decide +kernel

/-- Bays 23 and 24, a present byte of 2; a new cartridge and a known one, of a DRY, a SUPPLIED and a LOW channel; a bay that is
present and leaves, active or not; a refill that loses its bay, with and without another, and one that loses the other. -/
theorem witness_BayEvents :
    Works idle ∧ (23 : Byte).toNat = (23 : Fin 24).val ∧ (23 : Fin 24) = bayOf 11 .second ∧ 23 < (24 : Byte).toNat ∧
      1 < (2 : Byte).toNat ∧ (Vector.replicate 12 1 : Vector Byte 12) ≠ idle.ink.bays[(23 : Fin 24)].serial ∧
      (Vector.replicate 12 0 : Vector Byte 12) = idle.ink.bays[(23 : Fin 24)].serial ∧
      idle.ink.channels[(11 : Fin 12)].supply ∈ [.reserve, .dry] ∧ idle.ink.bays[(23 : Fin 24)].present = false ∧
      (∀ st : SupplyState, Works (sampling st 0 0 0) ∧
        (sampling st 0 0 0).ink.bays[bayOf 0 .first].present = true ∧
        (sampling st 0 0 0).ink.bays[bayOf 0 .second].present = true ∧
        (sampling st 0 0 0).ink.channels[(0 : Fin 12)].supply = st ∧
        (sampling st 0 0 0).ink.channels[(0 : Fin 12)].active = .first ∧
        (sampling st 0 0 0).ink.channels[(0 : Fin 12)].refillBay = some .first) ∧
      (refilling .refilling 0).ink.channels[(0 : Fin 12)].refillBay = some .first ∧
      (refilling .refilling 0).ink.bays[bayOf 0 BaySide.first.other].remaining = 0 := by
  unfold Works; refine ⟨by decide, by decide, by decide, by decide, by decide, by decide +kernel, by decide +kernel,
    by decide +kernel, by decide +kernel, ?_, by decide +kernel, by decide +kernel⟩
  intro st
  cases st <;> decide +kernel

/-- R102 to R104: a new cartridge of 100 mL in the active bay of a SUPPLIED channel keeps it active; the removal of the active
bay of a SUPPLIED channel switches to the other and leaves it LOW; the removal of both bays in turn leaves the reserve; a
refill that loses its bay goes on from the other, and one that loses the other goes on as it was. -/
theorem test_bay_events :
    let new : Vector Byte 12 := Vector.replicate 12 1
    let lot : Vector Byte 8 := Vector.replicate 8 0
    let put (s : State) (b : Byte) : State := s.takeBayEvent b 1 new lot 100000000
    let out (s : State) (b : Byte) : State := s.takeBayEvent b 0 new lot 0
    let at0 (s : State) : SupplyState × BaySide × Option BaySide :=
      let c := s.ink.channels[(0 : Fin 12)]
      (c.supply, c.active, c.refillBay)
    let c (st : SupplyState) : Channel :=
      { RetainedChannel.factory.loaded with
        supply := st, reserve := 5, lowThreshold := 1000, refillBay := if st = .refilling then some .first else none }
    let s (st : SupplyState) : State :=
      { sampling st 0 0 0 with ink := { (sampling st 0 0 0).ink with channels := Vector.replicate 12 (c st) } }
    at0 (put (s .supplied) 0) = (.supplied, .first, none) ∧ at0 (out (s .supplied) 0) = (.low, .second, none) ∧
      at0 (out (out (s .supplied) 0) 1) = (.reserve, .first, none) ∧
      at0 (out (s .refilling) 0) = (.refilling, .second, some .second) ∧
      at0 (out (s .refilling) 1) = (.refilling, .first, some .first) ∧
      at0 (out (out (s .refilling) 1) 0) = (.fault, .second, none) := by decide +kernel

/-! ### Witnesses: numbers and invariants -/

/-- An active zone of one millimetre; a print of 50 mm in bands of 10. -/
theorem witness_PlacementAndBands :
    ({ start := 13050, stop := 13050 } : Zone).start ≤ ({ start := 13050, stop := 13050 } : Zone).stop ∧ 0 < 50 ∧
      0 < effectiveBand 10 := by decide

/-- Coordinates at the ends of their ranges; a patch selected and valid, one not selected and one not valid. -/
theorem witness_DeltaEIsRoundedDownRoot :
    (let x : Lab := { L := 10000, a := -12800, b := 12700 }
     0 ≤ x.L ∧ x.L ≤ 10000 ∧ -12800 ≤ x.a ∧ x.a ≤ 12700 ∧ -12800 ≤ x.b ∧ x.b ≤ 12700) ∧
    checking.patches.getLsbD 0 = true ∧ ({ checking with patches := 2 } : VerdictSettings).patches.getLsbD 0 = false ∧
    ((clampedReadings (read 5000))[(0 : Fin 16)]).valid = true ∧
    (({ lab := { L := 0, a := 0, b := 0 }, valid := false } : Reading)).valid = false := by decide +kernel

/-- A draw of one tenth of a picolitre. -/
theorem witness_DrawTakesFromEstimates : 0 < 1 := Nat.one_pos

/-- The draw of section 5.3's example: 4,200,000,000 tenths of a picolitre over 300,000 nL and 180,000,000 nL. -/
theorem test_draw_crosses_to_the_second_bay :
    let one : Bay := { Bay.factory with present := true, fill := 200000000, remaining := 300000 }
    let two : Bay := { Bay.factory with present := true, fill := 200000000, remaining := 180000000 }
    let c : Channel := { RetainedChannel.factory.loaded with supply := .supplied, reserve := 25000000, residue := 6500 }
    let s : State := { idle with ink := { idle.ink with
      bays := (idle.ink.bays.set 4 one).set 5 two, channels := idle.ink.channels.set 2 c } }
    let t := s.draw 2 4200000000
    t.ink.bays[(4 : Fin 24)].remaining = 0 ∧ t.ink.bays[(5 : Fin 24)].remaining = 179880000 ∧
      t.ink.channels[(2 : Fin 12)].residue = 6500 ∧ t.ink.channels[(2 : Fin 12)].reserve = 25000000 ∧
      t.ink.channels[(2 : Fin 12)].active = .second ∧ t.ink.channels[(2 : Fin 12)].supply = .supplied ∧
      t.ink.channels[(2 : Fin 12)].lifetime = 420000 := by decide +kernel

/-- A part about to tick meets every invariant, and steps. -/
theorem witness_Invariants :
    let s : State := { idle with pending := [.clockTick] }
    (∃ t, step s = .next t) ∧ EngineCounted s ∧ LinkBounded s ∧ RetainedAll Retained.accountsBalanced s ∧
      RetainedAll Retained.gainsInRange s ∧ RetainedAll Retained.measuresInRange s := by
  have hi : ∀ (P : Retained → Prop) (r : Retained), P Retained.factory →
      ({ idle with pending := [.clockTick] } : State).store.image = .intact r → P r := by
    intro P r h0 h
    have h' : Image.intact Retained.factory = .intact r := h
    cases h'
    exact h0
  have hw : ∀ (P : Retained → Prop) (r : Retained),
      ({ idle with pending := [.clockTick] } : State).store.writing = some r → P r := by
    intro P r h
    have h' : (none : Option Retained) = some r := h
    cases h'
  have hg : ∀ (i : Fin 24), (Retained.factory.gainSets[i]).isNone = true := by decide +kernel
  have hs : ∀ (i : Fin 24), (idle.colour.gainSets[i]).all (fun g => decide (g = GainSet.first)) = true := by decide +kernel
  refine ⟨⟨_, rfl⟩, ⟨by decide, .inr rfl⟩, by unfold LinkBounded; decide +kernel,
    ⟨by unfold Retained.accountsBalanced Account.balanced; decide +kernel,
      fun r => hi _ r (by unfold Retained.accountsBalanced Account.balanced; decide +kernel), fun r => hw _ r⟩,
    ⟨?_, fun r => hi _ r ?_, fun r => hw _ r⟩,
    ⟨by unfold Retained.measuresInRange; decide +kernel,
      fun r => hi _ r (by unfold Retained.measuresInRange; decide +kernel), fun r => hw _ r⟩⟩
  · intro i g h
    have h' := hs i
    have e : idle.colour.gainSets[i] = some g := h
    rw [e] at h'
    have e' : g = GainSet.first := by simpa using h'
    rw [e']
    unfold GainSet.inRange
    decide +kernel
  · intro i g h
    have h' := hg i
    rw [h] at h'
    cases h'

end Sys2Proof.Tests
end

/-! PAUSE, RESUME, SET_CLOCK and the clock tick with its lateness scan (O22; R15, R20, R21). -/

namespace Sys2Proof.Machine

/-! ### What the commands run -/

theorem exec_pause (tag : Byte) (p : List Byte) (s : State) :
    exec (.pause tag p) s = s.runRequest 0x16 tag p takePause := rfl

theorem exec_resume (tag : Byte) (p : List Byte) (s : State) :
    exec (.resume tag p) s = s.runRequest 0x17 tag p takeResume := rfl

theorem exec_setClock (tag : Byte) (p : List Byte) (s : State) :
    exec (.setClock tag p) s = s.runRequest 0x18 tag p takeSetClock := rfl

theorem exec_clockTick (s : State) : exec .clockTick s = s.run State.tick := rfl

theorem takePause_nil (s : State) :
    takePause [] s = (s.setOrders { s.orders with paused := true }).accept [] := rfl

theorem takeResume_nil (s : State) :
    takeResume [] s = ((s.setOrders { s.orders with paused := false }).serveSlot).accept [] := rfl

theorem takeSetClock_of_length (p : List Byte) (s : State) (h : p.length = 4) :
    takeSetClock p s = (s.setClockTo (word32At p 0)).accept [] := by
  simp [takeSetClock, wrongLength, h]

/-- Outside the quiet time of R220 a tick is a clock write like that of SET_CLOCK. -/
theorem tick_of_working (s : State) (h : s.quiet = none) : s.tick = s.setClockTo (s.orders.clock + 1) := by
  simp [State.tick, State.working, State.clock, h]

/-- An event in a part that works, whose effect is `u`: closing the step moves nothing outside the link. -/
theorem run_closed (s u : State) (h : Works s) (f : State → State) (hf : f s = u) (hq : u.quiet = none) :
    ∃ t, s.run f = .next t ∧ Keeps linkBlocks u t ∧ NoticesKept u t ∧ StoreUnmarked u t := by
  obtain ⟨-, -, -, hn, hr⟩ := closeStep_link u
  exact ⟨u.closeStep, by simp [State.run, h.1, hf], keeps_closeStep_working u hq, hn, hr, closeStep_unmarked u⟩

/-- Only the store at the start of the step counts for whether the step marked it. -/
theorem StoreUnmarked.of_store_eq {s u t : State} (h : StoreUnmarked u t) (e : u.store = s.store) :
    StoreUnmarked s t := by
  simpa only [StoreUnmarked, StoreRecordKept, e] using h

/-! ### The lateness scan (R21) -/

/-- The scan raises an order's late flag and touches no other field: the flag is set afterwards when it stood before, or
when the order is unfinished and its deadline is reached. -/
theorem scannedSlot_eq_map (clock : Word32) (x : Option Order) :
    scannedSlot clock x =
      x.map fun o => { o with late := o.late || (o.state.unfinished && o.pastDeadline clock) } := by
  cases x with
  | none => rfl
  | some o =>
    cases hl : o.late with
    | true =>
      have stays : o = { o with late := true } := hl ▸ rfl
      simpa [scannedSlot, Order.becomesLate, hl] using stays
    | false =>
      have stays : o = { o with late := false } := hl ▸ rfl
      cases hd : o.state.unfinished && o.pastDeadline clock with
      | true => simp [scannedSlot, Order.becomesLate, hl, hd]
      | false => simpa [scannedSlot, Order.becomesLate, hl, hd] using stays

/-- The scan marks exactly the orders whose record it changes. -/
theorem marksSlot_iff (clock : Word32) (x : Option Order) : marksSlot clock x = true ↔ scannedSlot clock x ≠ x := by
  cases x with
  | none => simp [marksSlot, scannedSlot]
  | some o =>
    cases hb : o.becomesLate clock with
    | false => simp [marksSlot, scannedSlot, hb]
    | true =>
      have hl : o.late = false := by
        simp only [Order.becomesLate, Bool.and_eq_true, Bool.not_eq_true'] at hb
        obtain ⟨⟨-, notLate⟩, -⟩ := hb
        exact notLate
      have changed : ({ o with late := true } : Order) ≠ o := fun e => by
        have := congrArg Order.late e
        simp [hl] at this
      simpa [marksSlot, scannedSlot, hb] using changed

theorem latenessScan_orders (s : State) : s.latenessScan.orders =
    { s.orders with slots := Vector.ofFn fun i => scannedSlot s.clock s.orders.slots[i] } :=
  (keeps_raiseIf _ _ _).at .orders

/-- Some slot is marked exactly when the scan changes the table. -/
theorem any_marksSlot_iff (s : State) :
    ((List.finRange 40).any fun i => marksSlot s.clock s.orders.slots[i]) = true ↔
      s.latenessScan.orders.slots ≠ s.orders.slots := by
  simp only [List.any_eq_true, List.mem_finRange, true_and, marksSlot_iff, latenessScan_orders, ne_eq,
    Vector.ext_iff, Vector.getElem_ofFn, not_forall]
  exact ⟨fun ⟨i, h⟩ => ⟨i.val, i.isLt, h⟩, fun ⟨i, hi, h⟩ => ⟨⟨i, hi⟩, h⟩⟩

/-- LATE goes pending exactly when the scan changes the table. -/
theorem latenessScan_pending (s : State) : s.latenessScan.notices.pending =
    if s.latenessScan.orders.slots = s.orders.slots then s.notices.pending else s.notices.pending ||| 2#8 := by
  have raised : s.latenessScan.notices.pending =
      if (List.finRange 40).any fun i => marksSlot s.clock s.orders.slots[i]
      then s.notices.pending ||| 2#8 else s.notices.pending := raiseIf_pending _ _ .late
  rw [raised, ← ite_not (p := s.latenessScan.orders.slots = s.orders.slots)]
  exact if_congr (any_marksSlot_iff s) rfl rfl

/-! ### A clock write and its scan (R20, R21) -/

theorem keeps_setClockTo (s : State) (w : Word32) : Keeps [.orders, .notices, .server] s (s.setClockTo w) :=
  ((Keeps.refl _ s).then (keeps_setOrders s _)).then (keeps_latenessScan _)

theorem link_setClockTo (s : State) (w : Word32) : LinkKept s (s.setClockTo w) :=
  (link_setOrders s _).trans (link_latenessScan _)

theorem setClockTo_orders (s : State) (w : Word32) : (s.setClockTo w).orders =
    { s.orders with clock := w, slots := Vector.ofFn fun i => scannedSlot w s.orders.slots[i] } :=
  latenessScan_orders _

theorem setClockTo_pending (s : State) (w : Word32) : (s.setClockTo w).notices.pending =
    if (s.setClockTo w).orders.slots = s.orders.slots then s.notices.pending else s.notices.pending ||| 2#8 :=
  latenessScan_pending _

/-- From `s` to `t` the clock was written with `w` and scanned against, and nothing else outside the link moved. -/
def ClockScanned (w : Word32) (s t : State) : Prop :=
  Keeps (.orders :: linkBlocks) s t ∧ StoreUnmarked s t ∧
    t.orders = { s.orders with clock := w, slots := Vector.ofFn fun i => scannedSlot w s.orders.slots[i] } ∧
    t.notices.pending = if t.orders.slots = s.orders.slots then s.notices.pending else s.notices.pending ||| 2#8

/-- A clock write, after at most a change to the server link and before the end of the step. -/
theorem clockScanned_of_setClockTo {w : Word32} {s v t : State} (hv : Keeps [.server] s v)
    (ht : Keeps linkBlocks (v.setClockTo w) t) (hn : NoticesKept (v.setClockTo w) t)
    (hst : StoreUnmarked (v.setClockTo w) t) : ClockScanned w s t := by
  have vo : v.orders = s.orders := hv.at .orders
  have vn : v.notices = s.notices := hv.at .notices
  have vs : (v.setClockTo w).store = s.store := ((keeps_setClockTo v w).at .store).trans (hv.at .store)
  have te : t.orders = (v.setClockTo w).orders := ht.at .orders
  refine ⟨(hv.mono.then (keeps_setClockTo v w)).then ht, hst.of_store_eq vs, ?_, ?_⟩
  · rw [te, setClockTo_orders, vo]
  · rw [hn.1, setClockTo_pending, te, vo, vn]

/-! ### The four commands -/

theorem pause_sets_flag (tag : Byte) (s : State) (h : Takes s) :
    ∃ t, exec (.pause tag []) s = .next t ∧ Answered [.orders] s t 0x16 tag .ok [] ∧
      t.orders = { s.orders with paused := true } := by
  obtain ⟨t, ht, hk, hr, hn, -, -, hu, hks⟩ := runRequest_quietly s h 0x16 tag [] takePause _ [.orders]
    (takePause_nil _) (keeps_setOrders _ _)
  exact ⟨t, ht, ⟨hr, hn, hu.of_store_eq rfl, hks⟩, hk.at .orders⟩

theorem resume_clears_flag (tag : Byte) (s : State) (h : Takes s) :
    ∃ t, exec (.resume tag []) s = .next t ∧ Replied s t 0x17 tag .ok [] ∧ StoreUnmarked s t ∧
      Served [.orders] s t fun u =>
        u.orders = { s.orders with paused := false } ∧ u.notices.pending = s.notices.pending := by
  obtain ⟨t, ht, hr, hs, -, hu⟩ := runRequest_served s h 0x17 tag [] takeResume .ok []
    (s.countTaken.setOrders { s.orders with paused := false }) [.orders]
    (fun u => u.orders = { s.orders with paused := false } ∧ u.notices.pending = s.notices.pending)
    (takeResume_nil _) ⟨rfl, rfl⟩ (keeps_setOrders _ _).mono (link_setOrders _ _) ⟨rfl, rfl, rfl, rfl, rfl⟩ rfl
  exact ⟨t, ht, hr, hu rfl, hs⟩

theorem setClock_scans (tag : Byte) (p : List Byte) (s : State) (h : Takes s) (hp : p.length = 4) :
    ∃ t, exec (.setClock tag p) s = .next t ∧ Replied s t 0x18 tag .ok [] ∧ ClockScanned (word32At p 0) s t := by
  obtain ⟨-, unquiet, nothingHeld, -⟩ := id h
  have link := link_setClockTo s.countTaken (word32At p 0)
  have quiet : (s.countTaken.setClockTo (word32At p 0)).quiet = none :=
    ((keeps_setClockTo s.countTaken _).at .quiet).trans unquiet
  obtain ⟨t, ht, hk, hr, hn, -, -, hu⟩ := runRequest_answered s h 0x18 tag p takeSetClock _
    (takeSetClock_of_length p _ hp) quiet link.receiver (link.holding.trans nothingHeld) link.counters
    fun _ => ⟨link.sending, link.queue.imp_left fun q => ⟨q.1, q.2.trans (List.append_nil _).symm⟩⟩
  exact ⟨t, ht, hr, clockScanned_of_setClockTo (keeps_countTaken s) hk hn hu⟩

theorem clockTick_scans (s : State) (h : Works s) :
    ∃ t, exec .clockTick s = .next t ∧ ClockScanned (s.orders.clock + 1) s t := by
  have quiet : (s.setClockTo (s.orders.clock + 1)).quiet = none := ((keeps_setClockTo s _).at .quiet).trans h.2
  obtain ⟨t, ht, hk, hn, hu⟩ := run_closed s _ h State.tick (tick_of_working s h.2) quiet
  exact ⟨t, ht, clockScanned_of_setClockTo (Keeps.refl _ s) hk hn hu⟩

/-- Settles O22: PAUSE and RESUME by the laws of taken requests, both clock writes by the one law of the scan. -/
theorem pauseResumeAndClock : Obligations.PauseResumeAndClock := by
  refine ⟨fun tag s h => ⟨pause_sets_flag tag s h, resume_clears_flag tag s h⟩, ?_⟩
  intro scanned after
  have slot (w : Word32) : scannedSlot w = scanned w := by
    funext x
    rw [scannedSlot_eq_map]
    cases x with
    | none => rfl
    | some o => cases hd : o.deadline <;> simp [scanned, Order.pastDeadline, hd, BitVec.le_def]
  have after_of_scanned (w : Word32) (s t : State) (h : ClockScanned w s t) : after w s t := by
    obtain ⟨hk, hu, ho, hn⟩ := h
    rw [slot w] at ho
    exact ⟨hk, hu, ho, hn⟩
  refine ⟨fun tag p s h hp => ?_, fun s h => ?_⟩
  · obtain ⟨t, ht, hr, hc⟩ := setClock_scans tag p s h hp
    exact ⟨t, ht, hr, after_of_scanned _ s t hc⟩
  · obtain ⟨t, ht, hc⟩ := clockTick_scans s h
    exact ⟨t, ht, after_of_scanned _ s t hc⟩

end Sys2Proof.Machine

/-! The draw and the evaluation after it (O54; R94, R96 to R98). -/

namespace Sys2Proof.Machine

/-! ### The writes of the ink supply unit -/

theorem setChannel_ink (s : State) (c : Fin 12) (x : Channel) :
    (s.setChannel c x).ink = { s.ink with channels := s.ink.channels.set c x } := (keeps_markDirtyIf _ _).at .ink

theorem setBay_ink (s : State) (b : Fin 24) (x : Bay) :
    (s.setBay b x).ink = { s.ink with bays := s.ink.bays.set b x } := (keeps_markDirtyIf _ _).at .ink

/-- A channel record written as it stands changes nothing, the store's flag included. -/
theorem setChannel_self (s : State) (c : Fin 12) : s.setChannel c (s.channel c) = s := by
  simp [State.setChannel, State.channel, State.setInk, State.markDirtyIf]

theorem writeSupply_self (s : State) (c : Fin 12) : s.writeSupply c (s.channel c) = s := by
  simp [State.writeSupply, setChannel_self]

theorem writeSupply_ink (s : State) (c : Fin 12) (x : Channel) :
    (s.writeSupply c x).ink = { s.ink with channels := s.ink.channels.set c x } := by
  rw [← setChannel_ink]
  unfold State.writeSupply
  split
  · rfl
  · exact ((keeps_reevaluate _).at .ink).trans ((keeps_raise _ _).at .ink)

/-- A category raised is still pending after an operation that clears none. -/
theorem LinkKept.raised {s t : State} {c : Category} (h : LinkKept (s.raise c) t) :
    t.notices.pending &&& c.mask = c.mask := by
  have raised : (s.raise c).notices.pending &&& c.mask = c.mask := by
    rw [raise_pending]
    ext i
    simpa using Or.inr
  calc t.notices.pending &&& c.mask
      = ((s.raise c).notices.pending &&& t.notices.pending) &&& c.mask := by
        rw [BitVec.and_comm (s.raise c).notices.pending, BitVec.and_assoc, raised]
    _ = c.mask := by rw [h.pending, raised]

/-- R98: a change of supply state raises SUPPLY, and the re-evaluation leaves it pending. -/
theorem writeSupply_pending (s : State) (c : Fin 12) (x : Channel) (h : x.supply ≠ (s.channel c).supply) :
    (s.writeSupply c x).notices.pending &&& Category.supply.mask = Category.supply.mask := by
  unfold State.writeSupply
  rw [if_neg h]
  exact (link_reevaluate _).raised

/-! ### The two bays of a channel -/

/-- The two bays of a channel are its active bay and the other one. -/
theorem both_sides_iff (active : BaySide) (P : BaySide → Prop) :
    (P .first ∧ P .second) ↔ (P active ∧ P active.other) := by
  cases active with
  | first => rfl
  | second => exact And.comm

theorem bayOf_other_ne (c : Fin 12) (side : BaySide) : (bayOf c side.other).val ≠ (bayOf c side).val := by
  cases side <;> simp [bayOf, BaySide.other]

/-- The bay sum reads the bay records alone, not the channel's. -/
theorem baySum_of_bays_eq {s t : State} (h : t.ink.bays = s.ink.bays) (c : Fin 12) : t.baySum c = s.baySum c := by
  unfold State.baySum State.bay
  rw [h]

theorem anySupplying_of_bays_eq {s t : State} (h : t.ink.bays = s.ink.bays) (c : Fin 12) :
    t.anySupplying c = s.anySupplying c := by
  unfold State.anySupplying State.bay
  rw [h]

theorem Bay.usable_iff (b : Bay) : b.usable = true ↔ b.present = true ∧ b.declaredEmpty = false := by
  simp [Bay.usable]

theorem Bay.supplying_iff (b : Bay) :
    b.supplying = true ↔ b.present = true ∧ b.declaredEmpty = false ∧ 0 < b.remaining := by
  simp [Bay.supplying, Bay.usable_iff, and_assoc]

/-! ### Steps 1 to 6 of R94 -/

/-- The whole nanolitres a draw is to take (step 1). -/
def State.drawWhole (s : State) (c : Fin 12) (v : Nat) : Nat := ((s.channel c).residue + v) / 10000

/-- What it takes from the active bay (step 2). -/
def State.drawFirst (s : State) (c : Fin 12) (v : Nat) : Nat :=
  (s.bay c (s.channel c).active).firstTake (s.drawWhole c v)

/-- What it takes from the other bay (step 3). -/
def State.drawOther (s : State) (c : Fin 12) (v : Nat) : Nat :=
  (s.bay c (s.channel c).active.other).otherTake (s.drawWhole c v - s.drawFirst c v)

/-- What it takes from the reserve (step 4). -/
def State.drawReserve (s : State) (c : Fin 12) (v : Nat) : Nat :=
  min (s.drawWhole c v - s.drawFirst c v - s.drawOther c v) (s.channel c).reserve

/-- The channel record the six steps leave. -/
def State.drawnChannel (s : State) (c : Fin 12) (v : Nat) : Channel :=
  { s.channel c with
    residue := ((s.channel c).residue + v) % 10000
    reserve := (s.channel c).reserve - s.drawReserve c v
    active := if 0 < s.drawWhole c v - s.drawFirst c v ∧ (s.bay c (s.channel c).active.other).supplying
      then (s.channel c).active.other else (s.channel c).active
    lifetime := satAdd max64 (s.channel c).lifetime (s.drawWhole c v) }

/-- A bay whose estimate has fallen. -/
def Bay.less (b : Bay) (n : Nat) : Bay := { b with remaining := b.remaining - n }

theorem drawn_ink (s : State) (c : Fin 12) (v : Nat) : (s.drawn c v).ink =
    { s.ink with
      channels := s.ink.channels.set c (s.drawnChannel c v)
      bays := (s.ink.bays.set (bayOf c (s.channel c).active)
          ((s.bay c (s.channel c).active).less (s.drawFirst c v))).set
        (bayOf c (s.channel c).active.other) ((s.bay c (s.channel c).active.other).less (s.drawOther c v)) } := by
  unfold State.drawn
  simp only [setChannel_ink, setBay_ink]
  rfl

theorem drawn_channel (s : State) (c : Fin 12) (v : Nat) : (s.drawn c v).channel c = s.drawnChannel c v := by
  simp [State.channel, drawn_ink]

/-! ### The evaluation after the draw (R96, R97) -/

/-- The supply state the evaluation after a draw gives, in whatever state it finds the channel. -/
def State.settledSupply (s : State) (c : Fin 12) : SupplyState :=
  if (s.channel c).supply ∈ [.supplied, .low] then s.suppliedState c
  else if (s.channel c).supply = .reserve ∧ (s.channel c).reserve = 0 then .dry
  else (s.channel c).supply

/-- The evaluation writes that supply state; where R96 and R97 do not apply it is the one the channel has. -/
theorem afterDraw_eq_writeSupply (s : State) (c : Fin 12) :
    s.afterDraw c = s.writeSupply c { s.channel c with supply := s.settledSupply c } := by
  have unmoved (h : s.settledSupply c = (s.channel c).supply) :
      s.writeSupply c { s.channel c with supply := s.settledSupply c } = s := by
    rw [h]; exact writeSupply_self s c
  unfold State.afterDraw
  by_cases inReserve : (s.channel c).supply = .reserve
  · rw [if_pos inReserve]
    by_cases out : (s.channel c).reserve = 0
    · simp [State.dryAtZero, State.settledSupply, inReserve, out]
    · rw [unmoved (by simp [State.settledSupply, inReserve, out])]
      simp [State.dryAtZero, out]
  · rw [if_neg inReserve]
    by_cases evaluated : (s.channel c).supply = .supplied ∨ (s.channel c).supply = .low
    · simp [State.evaluateSupply, State.settledSupply, evaluated]
    · rw [unmoved (by simp [State.settledSupply, inReserve, evaluated])]
      simp [State.evaluateSupply, evaluated]

/-! ### The draw -/

/-- The supply state after a draw. -/
def State.drawnSupply (s : State) (c : Fin 12) (v : Nat) : SupplyState := (s.drawn c v).settledSupply c

theorem draw_eq_writeSupply (s : State) (c : Fin 12) (v : Nat) (h : 0 < v) : s.draw c v =
    (s.drawn c v).writeSupply c { s.drawnChannel c v with supply := s.drawnSupply c v } := by
  rw [State.draw, if_neg (Nat.ne_of_gt h), afterDraw_eq_writeSupply, drawn_channel]
  rfl

/-- The evaluation leaves what the six steps made of the bays, and writes the supply state into the channel record. -/
theorem draw_ink (s : State) (c : Fin 12) (v : Nat) (h : 0 < v) : (s.draw c v).ink =
    { (s.drawn c v).ink with
      channels := s.ink.channels.set c { s.drawnChannel c v with supply := s.drawnSupply c v } } := by
  rw [draw_eq_writeSupply s c v h, writeSupply_ink]
  simp [drawn_ink]

theorem draw_bay_active (s : State) (c : Fin 12) (v : Nat) (h : 0 < v) :
    (s.draw c v).bay c (s.channel c).active = (s.bay c (s.channel c).active).less (s.drawFirst c v) := by
  simp [State.bay, draw_ink s c v h, drawn_ink, Vector.getElem_set_ne, bayOf_other_ne]

theorem draw_bay_other (s : State) (c : Fin 12) (v : Nat) (h : 0 < v) :
    (s.draw c v).bay c (s.channel c).active.other =
      (s.bay c (s.channel c).active.other).less (s.drawOther c v) := by
  simp [State.bay, draw_ink s c v h, drawn_ink]

theorem draw_bay_elsewhere (s : State) (c : Fin 12) (v : Nat) (h : 0 < v) (b : Fin 24)
    (first : b ≠ bayOf c .first) (second : b ≠ bayOf c .second) : (s.draw c v).ink.bays[b] = s.ink.bays[b] := by
  obtain ⟨active, other⟩ := (both_sides_iff (s.channel c).active (b ≠ bayOf c ·)).mp ⟨first, second⟩
  simp [draw_ink s c v h, drawn_ink, Vector.getElem_set_ne, Fin.val_ne_of_ne active.symm, Fin.val_ne_of_ne other.symm]

theorem draw_channel_same (s : State) (c : Fin 12) (v : Nat) (h : 0 < v) :
    (s.draw c v).channel c = { s.drawnChannel c v with supply := s.drawnSupply c v } := by
  simp [State.channel, draw_ink s c v h]

theorem draw_channel_elsewhere (s : State) (c : Fin 12) (v : Nat) (h : 0 < v) (j : Fin 12) (hj : j ≠ c) :
    (s.draw c v).ink.channels[j] = s.ink.channels[j] := by
  simp [draw_ink s c v h, Vector.getElem_set_ne, Fin.val_ne_of_ne hj.symm]

/-- The supply state after a draw, read from the bays as the draw leaves them. -/
theorem drawnSupply_eq (s : State) (c : Fin 12) (v : Nat) (h : 0 < v) : s.drawnSupply c v =
    if (s.channel c).supply ∈ [.supplied, .low] then
      (if (s.draw c v).anySupplying c then
        (if (s.draw c v).baySum c < (s.channel c).lowThreshold then .low else .supplied)
      else if 0 < (s.channel c).reserve - s.drawReserve c v then .reserve else .dry)
    else if (s.channel c).supply = .reserve ∧ (s.channel c).reserve - s.drawReserve c v = 0 then .dry
    else (s.channel c).supply := by
  have bays : (s.draw c v).ink.bays = (s.drawn c v).ink.bays := by rw [draw_ink s c v h]
  rw [baySum_of_bays_eq bays, anySupplying_of_bays_eq bays]
  simp only [State.drawnSupply, State.settledSupply, State.suppliedState, drawn_channel]
  rfl

theorem draw_pending (s : State) (c : Fin 12) (v : Nat) (h : 0 < v)
    (moved : s.drawnSupply c v ≠ (s.channel c).supply) : (s.draw c v).notices.pending &&& 4#8 = 4#8 := by
  rw [draw_eq_writeSupply s c v h]
  exact writeSupply_pending _ c _ (by rw [drawn_channel]; exact moved)

/-- Settles O54, from what a draw leaves of each bay and channel. The statement writes `usable`, `supplying` and the
takes out over the bay records' fields. -/
theorem drawTakesFromEstimates : Obligations.DrawTakesFromEstimates := by
  intro s k v h c one two n t1 supplies t2 t3 t x
  have first : s.drawFirst k v = t1 := if_congr (Bay.usable_iff one) rfl rfl
  have other : s.drawOther k v = t2 := by
    unfold State.drawOther
    rw [first]
    exact if_congr (and_congr_right fun _ => Bay.supplying_iff two) rfl rfl
  have reserve : s.drawReserve k v = t3 := by
    unfold State.drawReserve
    rw [first, other]
    rfl
  have supply := drawnSupply_eq s k v h
  have same : x = { s.drawnChannel k v with supply := s.drawnSupply k v } := draw_channel_same s k v h
  refine ⟨?_, ?_, draw_bay_elsewhere s k v h, draw_channel_elsewhere s k v h, ?_, ?_, ?_⟩
  · rw [← first]
    exact draw_bay_active s k v h
  · rw [← other]
    exact draw_bay_other s k v h
  · change (s.draw k v).ink.sizes = _
    rw [draw_ink s k v h, drawn_ink]
  · have active : (s.drawnChannel k v).active = if 0 < n - t1 ∧ supplies then c.active.other else c.active := by
      unfold State.drawnChannel
      rw [first]
      exact if_congr (and_congr_right fun _ => Bay.supplying_iff two) rfl rfl
    rw [reserve] at supply
    rw [same, supply, ← active, ← reserve]
    rfl
  · intro moved
    rw [same] at moved
    exact draw_pending s k v h moved

end Sys2Proof.Machine

/-! ΔE and the patches that take part (O53; R123). -/

namespace Sys2Proof.Machine

/-! ### The integer square root -/

/-- The bits still to be settled keep the root between `r` and `r + 2 ^ k`. -/
theorem sqrtBits_eq_sqrt (n k r : Nat) (reached : r * r ≤ n) (bounded : n < (r + 2 ^ k) * (r + 2 ^ k)) :
    sqrtBits n k r = Nat.sqrt n := by
  induction k generalizing r with
  | zero => exact Nat.eq_sqrt.mpr ⟨reached, bounded⟩
  | succ k ih =>
    rw [sqrtBits]
    split
    next bitFits => exact ih _ bitFits (by rwa [add_assoc, ← Nat.two_pow_succ])
    next bitOver => exact ih r reached (not_le.mp bitOver)

/-- The root of `n` has no bit above half of the highest bit of `n`. -/
theorem isqrt_eq_sqrt (n : Nat) : isqrt n = Nat.sqrt n := by
  refine sqrtBits_eq_sqrt n _ 0 (Nat.zero_le n) ?_
  calc n < 2 ^ (Nat.log2 n + 1) := Nat.lt_log2_self
    _ ≤ 2 ^ ((Nat.log2 n / 2 + 1) + (Nat.log2 n / 2 + 1)) := Nat.pow_le_pow_right Nat.two_pos (by omega)
    _ = (0 + 2 ^ (Nat.log2 n / 2 + 1)) * (0 + 2 ^ (Nat.log2 n / 2 + 1)) := by rw [pow_add, zero_add]

/-! ### ΔE of two triples of coordinates -/

/-- The sum of the three squared differences (R123). -/
def Lab.squaredDistance (x y : Lab) : Int := (x.L - y.L) ^ 2 + (x.a - y.a) ^ 2 + (x.b - y.b) ^ 2

/-- Coordinates within the ranges of R117. -/
def Lab.InRange (z : Lab) : Prop :=
  0 ≤ z.L ∧ z.L ≤ 10000 ∧ -12800 ≤ z.a ∧ z.a ≤ 12700 ∧ -12800 ≤ z.b ∧ z.b ≤ 12700

theorem Lab.squaredDistance_nonneg (x y : Lab) : 0 ≤ x.squaredDistance y := by
  unfold Lab.squaredDistance
  positivity

theorem deltaE_eq_sqrt (x y : Lab) : deltaE x y = Nat.sqrt (x.squaredDistance y).toNat := by
  simp only [deltaE, isqrt_eq_sqrt, Lab.squaredDistance, sq]

theorem deltaE_sq_le (x y : Lab) : (deltaE x y : Int) ^ 2 ≤ x.squaredDistance y := by
  rw [deltaE_eq_sqrt, ← Int.toNat_of_nonneg (x.squaredDistance_nonneg y)]
  exact_mod_cast Nat.sqrt_le' _

theorem lt_succ_deltaE_sq (x y : Lab) : x.squaredDistance y < ((deltaE x y : Int) + 1) ^ 2 := by
  rw [deltaE_eq_sqrt, ← Int.toNat_of_nonneg (x.squaredDistance_nonneg y)]
  exact_mod_cast Nat.lt_succ_sqrt' _

/-- The ranges are 10,000 wide in L and 25,500 in a and b. -/
theorem Lab.squaredDistance_le (x y : Lab) (hx : x.InRange) (hy : y.InRange) :
    x.squaredDistance y ≤ 1400500000 := by
  obtain ⟨xL, xL', xa, xa', xb, xb'⟩ := hx
  obtain ⟨yL, yL', ya, ya', yb, yb'⟩ := hy
  have squareL : (x.L - y.L) ^ 2 ≤ 10000 ^ 2 := sq_le_sq' (by omega) (by omega)
  have squareA : (x.a - y.a) ^ 2 ≤ 25500 ^ 2 := sq_le_sq' (by omega) (by omega)
  have squareB : (x.b - y.b) ^ 2 ≤ 25500 ^ 2 := sq_le_sq' (by omega) (by omega)
  unfold Lab.squaredDistance
  omega

/-- 37,424 squared is above the largest sum. -/
theorem deltaE_le (x y : Lab) (hx : x.InRange) (hy : y.InRange) : deltaE x y ≤ 37423 := by
  have sum := x.squaredDistance_le y hx hy
  rw [deltaE_eq_sqrt]
  have root : Nat.sqrt (x.squaredDistance y).toNat < 37424 := Nat.sqrt_lt'.mpr (by omega)
  exact Nat.le_of_lt_succ root

/-! ### A patch without a ΔE -/

section
variable (patches : BitVec 16) (readings : Vector Reading 16) (reference : Vector Lab 16) (p : Fin 16)
  (other : Reading) (z : Lab)

theorem patchDelta_eq_ite : patchDelta patches readings reference p =
    if patches.getLsbD p.val = true ∧ readings[p].valid = true then some (deltaE readings[p].lab reference[p])
    else none := by
  simp [patchDelta]

theorem patchDelta_eq_none (out : patches.getLsbD p.val = false ∨ readings[p].valid = false) :
    patchDelta patches readings reference p = none := by
  rw [patchDelta_eq_ite, if_neg]
  rintro ⟨selected, valid⟩
  rw [selected, valid] at out
  simp at out

theorem patchDelta_set_ne (q : Fin 16) (h : q ≠ p) :
    patchDelta patches (readings.set p other) (reference.set p z) q = patchDelta patches readings reference q := by
  simp [patchDelta, Vector.getElem_set_ne, Fin.val_ne_of_ne h.symm]

/-- No patch's ΔE changes with what stands at a patch that has none before and after. -/
theorem patchDelta_set_of_out
    (out : patches.getLsbD p.val = false ∨ (readings[p].valid = false ∧ other.valid = false)) :
    patchDelta patches (readings.set p other) (reference.set p z) = patchDelta patches readings reference := by
  funext q
  by_cases h : q = p
  · subst h
    rw [patchDelta_eq_none patches readings reference q (out.imp_right And.left), patchDelta_eq_none]
    simpa using out.imp_right And.right
  · exact patchDelta_set_ne patches readings reference p other z q h

end

/-- The figures read a strip through the ΔE of its patches alone. -/
theorem patchDeltas_congr {patches : BitVec 16} {readings readings' : Vector Reading 16}
    {reference reference' : Vector Lab 16}
    (h : patchDelta patches readings reference = patchDelta patches readings' reference') :
    patchDeltas patches readings reference = patchDeltas patches readings' reference' := by
  simp only [patchDeltas, h]

/-- The cleaning levels read a strip through the ΔE of its patches alone. -/
theorem failCleanings_congr {v : VerdictSettings} {readings readings' : Vector Reading 16}
    {reference reference' : Vector Lab 16}
    (h : patchDelta v.patches readings reference = patchDelta v.patches readings' reference') (failRun : Nat) :
    failCleanings v readings reference failRun = failCleanings v readings' reference' failRun := by
  simp only [failCleanings, h]

/-- Settles O53: ΔE is the library's root of the squared distance, and what a strip is judged by reads nothing of a patch
but its ΔE. -/
theorem deltaEIsRoundedDownRoot : Obligations.DeltaEIsRoundedDownRoot := by
  refine ⟨fun x y => ⟨deltaE_sq_le x y, lt_succ_deltaE_sq x y, fun hx hy =>
    ⟨x.squaredDistance_le y hx hy, deltaE_le x y hx hy⟩⟩, ?_⟩
  refine fun v readings reference p => ⟨patchDelta_eq_ite v.patches readings reference p, fun other z out => ?_⟩
  have same := patchDelta_set_of_out v.patches readings reference p other z out
  exact ⟨congrArg stripFigures (patchDeltas_congr same), failCleanings_congr same⟩

end Sys2Proof.Machine

/-! What every operation of the blocks keeps of the invariants: the error count that decides the engine state, the
accounts, the gain sets, the roll position and the ink estimates (O56, O58, O59). -/

namespace Sys2Proof.Machine

/-! ### The invariants, block by block -/

/-- The roll position lies on the roll (R29, R38). -/
def Roll.onRoll (r : Roll) : Prop := r.position ≤ r.length * 40

/-- No bay holds more than its fill, and no reserve more than a full one (R90, R91). -/
def InkUnit.inRange (u : InkUnit) : Prop :=
  (∀ b : Fin 24, u.bays[b].remaining ≤ u.bays[b].fill) ∧ ∀ c : Fin 12, u.channels[c].reserve ≤ reserveFull

/-- Every gain set in use lies in the ranges of R138. -/
def ColourUnit.gainsInRange (u : ColourUnit) : Prop :=
  ∀ (i : Fin 24) (g : GainSet), u.gainSets[i] = some g → g.inRange

/-- Every account is balanced (R175). -/
def CostUnit.balanced (u : CostUnit) : Prop := ∀ i : Fin 64, u.accounts[i].balanced

/-- The error count is 0 to 255 and, outside STARTING, decides the engine state (R81, R82). -/
def EngineLink.counted (e : EngineLink) : Prop :=
  e.errorCount ≤ 255 ∧ (e.state = .starting ∨ e.state = stateOfCount e.errorCount)

/-- From `s` to `t` no write began or ended, and what the invariants say of each block still holds. -/
structure InvariantsKept (s t : State) : Prop where
  image : t.store.image = s.store.image
  writing : t.store.writing = s.store.writing
  engine : s.engine.counted → t.engine.counted
  roll : s.media.roll.onRoll → t.media.roll.onRoll
  ink : s.ink.inRange → t.ink.inRange
  gains : s.colour.gainsInRange → t.colour.gainsInRange
  accounts : s.costs.balanced → t.costs.balanced

theorem retained_accountsBalanced (s : State) : s.retained.accountsBalanced ↔ s.costs.balanced := Iff.rfl

theorem retained_gainsInRange (s : State) : s.retained.gainsInRange ↔ s.colour.gainsInRange := Iff.rfl

theorem retained_measuresInRange (s : State) :
    s.retained.measuresInRange ↔ s.media.roll.onRoll ∧ s.ink.inRange := by
  simp [Retained.measuresInRange, State.retained, Roll.onRoll, InkUnit.inRange, Channel.retained]

theorem InvariantsKept.refl (s : State) : InvariantsKept s s := ⟨rfl, rfl, id, id, id, id, id⟩

theorem InvariantsKept.trans {s t u : State} (h : InvariantsKept s t) (k : InvariantsKept t u) : InvariantsKept s u :=
  ⟨k.image.trans h.image, k.writing.trans h.writing, fun x => k.engine (h.engine x), fun x => k.roll (h.roll x),
    fun x => k.ink (h.ink x), fun x => k.gains (h.gains x), fun x => k.accounts (h.accounts x)⟩

theorem InvariantsKept.foldl {α : Type} (f : State → α → State) (h : ∀ s a, InvariantsKept s (f s a)) (xs : List α) :
    ∀ s, InvariantsKept s (xs.foldl f s) := by
  induction xs with
  | nil => exact fun s => InvariantsKept.refl s
  | cons x xs ih => exact fun s => (h s x).trans (ih (f s x))

theorem inv_ite {s t u : State} (c : Prop) [Decidable c] (h : InvariantsKept s t) (k : InvariantsKept s u) :
    InvariantsKept s (if c then t else u) := by split <;> assumption

/-- A step of an operation that leaves every block the invariants read. -/
theorem InvariantsKept.of_keeps {l : List Block} {s t : State} (h : Keeps l s t)
    (out : (l.all fun b =>
      !([Block.engine, .media, .ink, .colour, .costs, .store] : List Block).contains b) = true := by decide) :
    InvariantsKept s t := by
  have free : ∀ b ∈ [Block.engine, .media, .ink, .colour, .costs, .store], b ∉ l := by
    intro b hb hbl
    have := List.all_eq_true.mp out b hbl
    simp_all
  have he : t.engine = s.engine := h.at .engine (free _ (by simp))
  have hm : t.media = s.media := h.at .media (free _ (by simp))
  have hi : t.ink = s.ink := h.at .ink (free _ (by simp))
  have hc : t.colour = s.colour := h.at .colour (free _ (by simp))
  have ha : t.costs = s.costs := h.at .costs (free _ (by simp))
  have hs : t.store = s.store := h.at .store (free _ (by simp))
  exact ⟨by rw [hs], by rw [hs], by rw [he]; exact id, by rw [hm]; exact id, by rw [hi]; exact id,
    by rw [hc]; exact id, by rw [ha]; exact id⟩

/-! ### The writes of the blocks -/

theorem inv_markDirty (s : State) : InvariantsKept s s.markDirty := ⟨rfl, rfl, id, id, id, id, id⟩

theorem inv_markDirtyIf (p : Bool) (s : State) : InvariantsKept s (s.markDirtyIf p) :=
  inv_ite _ (inv_markDirty s) (.refl _)

theorem inv_setServer (s : State) (x : ServerLink) : InvariantsKept s (s.setServer x) := .of_keeps (keeps_setServer s x)

theorem inv_setNotices (s : State) (x : NoticeUnit) : InvariantsKept s (s.setNotices x) :=
  .of_keeps (keeps_setNotices s x)

theorem inv_setOrders (s : State) (x : OrderBlock) : InvariantsKept s (s.setOrders x) := .of_keeps (keeps_setOrders s x)

theorem inv_setHolder (s : State) (x : Holder) : InvariantsKept s (s.setHolder x) := .of_keeps (keeps_setHolder s x)

theorem inv_setUncut (s : State) (x : Bool) : InvariantsKept s (s.setUncut x) := .of_keeps (keeps_setUncut s x)

theorem inv_setQuiet (s : State) (x : Option Quiet) : InvariantsKept s (s.setQuiet x) := .of_keeps (keeps_setQuiet s x)

theorem inv_setEditions (s : State) (x : Vector (Option Edition) 16) : InvariantsKept s (s.setEditions x) :=
  .of_keeps (keeps_setEditions s x)

theorem inv_raise (s : State) (c : Category) : InvariantsKept s (s.raise c) := .of_keeps (keeps_raise s c)

theorem inv_raiseIf (s : State) (p : Bool) (c : Category) : InvariantsKept s (s.raiseIf p c) :=
  .of_keeps (keeps_raiseIf s p c)

theorem inv_setEngine (s : State) (x : EngineLink) (h : s.engine.counted → x.counted) :
    InvariantsKept s (s.setEngine x) := ⟨rfl, rfl, h, id, id, id, id⟩

/-- An engine link write that leaves the count and the state. -/
theorem inv_setEngine_same (s : State) (x : EngineLink) (hc : x.errorCount = s.engine.errorCount)
    (hs : x.state = s.engine.state) : InvariantsKept s (s.setEngine x) :=
  inv_setEngine s x (by simp only [EngineLink.counted, hc, hs]; exact id)

theorem inv_setMedia (s : State) (x : MediaUnit) (h : s.media.roll.onRoll → x.roll.onRoll) :
    InvariantsKept s (s.setMedia x) := ⟨rfl, rfl, id, h, id, id, id⟩

theorem inv_setRoll (s : State) (r : Roll) (h : s.media.roll.onRoll → r.onRoll) : InvariantsKept s (s.setRoll r) :=
  (inv_setMedia s { s.media with roll := r } h).trans (inv_markDirtyIf _ _)

theorem inv_writeUncut (s : State) (b : Bool) : InvariantsKept s (s.writeUncut b) :=
  (inv_setUncut s b).trans (inv_markDirtyIf _ _)

theorem inv_setInk (s : State) (x : InkUnit) (h : s.ink.inRange → x.inRange) : InvariantsKept s (s.setInk x) :=
  ⟨rfl, rfl, id, id, h, id, id⟩

theorem inv_setColour (s : State) (x : ColourUnit) (h : s.colour.gainsInRange → x.gainsInRange) :
    InvariantsKept s (s.setColour x) := ⟨rfl, rfl, id, id, id, h, id⟩

theorem inv_setCosts (s : State) (x : CostUnit) (h : s.costs.balanced → x.balanced) :
    InvariantsKept s (s.setCosts x) := ⟨rfl, rfl, id, id, id, id, h⟩

/-! ### Orders and media -/

theorem inv_modifyOrder (s : State) (i : Fin 40) (f : Order → Order) : InvariantsKept s (s.modifyOrder i f) :=
  .of_keeps (keeps_modifyOrder s i f)

theorem inv_noteMedia (s : State) (e : MediaEvent) (o : Option Word32) : InvariantsKept s (s.noteMedia e o) :=
  (inv_setMedia s { s.media with condition := some { event := e, clock := s.clock, order := o } } id).trans
    (inv_raise _ _)

theorem inv_reevaluate (s : State) : InvariantsKept s s.reevaluate := .of_keeps (keeps_reevaluate s)

theorem inv_setClockTo (s : State) (w : Word32) : InvariantsKept s (s.setClockTo w) := .of_keeps (keeps_setClockTo s w)

theorem inv_finishOrder (s : State) (i : Fin 40) (o : Order) (f : OrderState) : InvariantsKept s (s.finishOrder i o f) :=
  .of_keeps (keeps_finishOrder s i o f)

theorem inv_advancePosition (s : State) (n : Nat) (o : Option Word32) : InvariantsKept s (s.advancePosition n o) := by
  have moved : InvariantsKept s (s.setRoll { s.media.roll with
      position := min (s.media.roll.length * 40) (s.media.roll.position + n) }) :=
    inv_setRoll s _ fun _ => Nat.min_le_left _ _
  unfold State.advancePosition
  refine inv_ite _ (inv_ite _ (.refl _) ?_) (.refl _)
  exact (inv_ite _ (moved.trans (inv_noteMedia _ _ _)) moved).trans (inv_reevaluate _)

theorem inv_setClearOut (s : State) : InvariantsKept s s.setClearOut := inv_ite _ (inv_setRoll s _ id) (.refl _)

/-! ### Costs (R175, R176) -/

theorem balanced_posted (a : Account) (p : Posting) : (a.posted p).balanced := by
  refine ⟨?_, ?_, ?_, ?_, rfl, ?_, ?_⟩ <;> exact Nat.min_le_left _ _

theorem inv_setAccount (s : State) (i : Fin 64) (a : Account) (h : a.balanced) :
    InvariantsKept s (s.setAccount i a) := by
  refine (inv_setCosts s _ fun all j => ?_).trans (inv_markDirty _)
  by_cases e : i = j
  · subst e; simpa using h
  · simpa [Vector.getElem_set, Fin.val_ne_of_ne e] using all j

theorem inv_post (s : State) (i : Fin 64) (p : Posting) : InvariantsKept s (s.post i p) :=
  (inv_setAccount s i _ (balanced_posted _ p)).trans (inv_raiseIf _ _ _)

theorem inv_postAttempt (s : State) (a : Attempt) (o : AttemptOutcome) (own : Bool) :
    InvariantsKept s (s.postAttempt a o own) := by
  unfold State.postAttempt
  dsimp only
  split
  · exact inv_post _ _ _
  · exact inv_ite _ ((inv_setOrders s _).trans (inv_post _ _ _)) ((inv_setOrders s _).trans (inv_post _ _ _))

theorem inv_postWaste (s : State) (a : Attempt) (mm : Nat) (cut : Bool) : InvariantsKept s (s.postWaste a mm cut) :=
  (inv_modifyOrder s _ _).trans (inv_post _ _ _)

theorem inv_postTask (s : State) (p : Option Nat) (cut : Bool) : InvariantsKept s (s.postTask p cut) := inv_post _ _ _

theorem inv_postCleaning (s : State) (v : Vector Nat 12) : InvariantsKept s (s.postCleaning v) := inv_post _ _ _

theorem inv_postLateInk (s : State) (v : Vector Nat 12) : InvariantsKept s (s.postLateInk v) :=
  inv_ite _ (inv_post _ _ _) (.refl _)

/-! ### Ink (R90, R91) -/

theorem inRange_set_bay {u : InkUnit} (h : u.inRange) (b : Fin 24) (x : Bay) (hx : x.remaining ≤ x.fill) :
    InkUnit.inRange { u with bays := u.bays.set b x } := by
  refine ⟨fun j => ?_, h.2⟩
  by_cases e : b = j
  · subst e; simpa using hx
  · simpa [Vector.getElem_set, Fin.val_ne_of_ne e] using h.1 j

theorem inRange_set_channel {u : InkUnit} (h : u.inRange) (c : Fin 12) (x : Channel) (hx : x.reserve ≤ reserveFull) :
    InkUnit.inRange { u with channels := u.channels.set c x } := by
  refine ⟨h.1, fun j => ?_⟩
  by_cases e : c = j
  · subst e; simpa using hx
  · simpa [Vector.getElem_set, Fin.val_ne_of_ne e] using h.2 j

/-- A rewriting of every channel that leaves the reserves. -/
theorem inRange_ofFn_channels {u : InkUnit} (h : u.inRange) (f : Fin 12 → Channel)
    (hf : ∀ c, (f c).reserve = u.channels[c].reserve) : InkUnit.inRange { u with channels := Vector.ofFn f } :=
  ⟨h.1, fun c => by simpa [hf] using h.2 c⟩

theorem inv_setChannel (s : State) (c : Fin 12) (x : Channel) (h : s.ink.inRange → x.reserve ≤ reserveFull) :
    InvariantsKept s (s.setChannel c x) :=
  (inv_setInk s _ fun r => inRange_set_channel r c x (h r)).trans (inv_markDirtyIf _ _)

theorem inv_setBay (s : State) (b : Fin 24) (x : Bay) (h : s.ink.inRange → x.remaining ≤ x.fill) :
    InvariantsKept s (s.setBay b x) :=
  (inv_setInk s _ fun r => inRange_set_bay r b x (h r)).trans (inv_markDirtyIf _ _)

theorem inv_writeSupply (s : State) (c : Fin 12) (x : Channel) (h : s.ink.inRange → x.reserve ≤ reserveFull) :
    InvariantsKept s (s.writeSupply c x) := by
  have written := inv_setChannel s c x h
  exact inv_ite _ written ((written.trans (inv_raise _ _)).trans (inv_reevaluate _))

/-- A channel record written with its own reserve. -/
theorem inv_writeSupply_same (s : State) (c : Fin 12) (x : Channel) (h : x.reserve = (s.channel c).reserve) :
    InvariantsKept s (s.writeSupply c x) := inv_writeSupply s c x fun r => h ▸ r.2 c

theorem inv_setChannel_same (s : State) (c : Fin 12) (x : Channel) (h : x.reserve = (s.channel c).reserve) :
    InvariantsKept s (s.setChannel c x) := inv_setChannel s c x fun r => h ▸ r.2 c

theorem inv_evaluateSupply (s : State) (c : Fin 12) : InvariantsKept s (s.evaluateSupply c) :=
  inv_ite _ (inv_writeSupply_same s c _ rfl) (.refl _)

theorem setBay_channel (s : State) (b : Fin 24) (x : Bay) (c : Fin 12) : (s.setBay b x).channel c = s.channel c := by
  simp only [State.setBay, State.markDirtyIf]
  split <;> rfl

/-- An operation of the ink supply unit alone, over which no write begins or ends. -/
theorem InvariantsKept.of_ink {s t : State} (h : Keeps [.ink, .store] s t) (hi : t.store.image = s.store.image)
    (hw : t.store.writing = s.store.writing) (hr : s.ink.inRange → t.ink.inRange) : InvariantsKept s t := by
  have he : t.engine = s.engine := h.at .engine
  have hm : t.media = s.media := h.at .media
  have hc : t.colour = s.colour := h.at .colour
  have ha : t.costs = s.costs := h.at .costs
  exact ⟨hi, hw, by rw [he]; exact id, by rw [hm]; exact id, hr, by rw [hc]; exact id, by rw [ha]; exact id⟩

theorem inv_drawn (s : State) (c : Fin 12) (v : Nat) : InvariantsKept s (s.drawn c v) := by
  have image : (s.drawn c v).store.image = s.store.image :=
    (inv_markDirtyIf _ _).image.trans ((inv_markDirtyIf _ _).image.trans (inv_markDirtyIf _ _).image)
  have writing : (s.drawn c v).store.writing = s.store.writing :=
    (inv_markDirtyIf _ _).writing.trans ((inv_markDirtyIf _ _).writing.trans (inv_markDirtyIf _ _).writing)
  refine .of_ink (keeps_drawn s c v) image writing fun r => ?_
  have less (side : BaySide) (n : Nat) : (s.bay c side).remaining - n ≤ (s.bay c side).fill :=
    (Nat.sub_le _ _).trans (r.1 _)
  refine (inv_setChannel _ c _ fun _ => (Nat.sub_le _ _).trans (r.2 c)).ink ?_
  exact (inv_setBay _ _ _ fun _ => less _ _).ink ((inv_setBay s _ _ fun _ => less _ _).ink r)

theorem inv_draw (s : State) (c : Fin 12) (v : Nat) : InvariantsKept s (s.draw c v) := by
  have after (u : State) : InvariantsKept u (u.afterDraw c) :=
    inv_ite _ (inv_ite _ (inv_writeSupply_same u c _ rfl) (.refl _)) (inv_evaluateSupply u c)
  exact inv_ite _ (.refl _) ((inv_drawn s c v).trans (after _))

theorem inv_drawAll (s : State) (v : Vector Nat 12) : InvariantsKept s (s.drawAll v) :=
  InvariantsKept.foldl _ (fun s c => inv_draw s c _) _ s

theorem inv_requestCleaning (s : State) (c : Fin 12) (n : Nat) : InvariantsKept s (s.requestCleaning c n) :=
  inv_setChannel_same s c _ rfl

theorem inv_requestCleanings (s : State) (v : Vector Nat 12) : InvariantsKept s (s.requestCleanings v) :=
  inv_setInk s _ fun r => inRange_ofFn_channels r _ fun _ => rfl

theorem inv_enterRefill (s : State) (c : Fin 12) (b : BaySide) : InvariantsKept s (s.enterRefill c b) :=
  inv_writeSupply_same s c _ rfl

theorem inv_declareEmpty (s : State) (c : Fin 12) : InvariantsKept s (s.declareEmpty c) := by
  unfold State.declareEmpty
  dsimp only
  have emptied := inv_setBay s (bayOf c (s.channel c).active) { s.bay c (s.channel c).active with
    unaccounted := (s.bay c (s.channel c).active).remaining, remaining := 0, declaredEmpty := true }
    fun _ => Nat.zero_le _
  refine ((emptied.trans (inv_setChannel_same _ c _ ?_)).trans (inv_raise _ _)).trans (inv_evaluateSupply _ _)
  rw [setBay_channel]

theorem inv_completeRefill (s : State) (c : Fin 12) : InvariantsKept s (s.completeRefill c) := by
  have topUp : InvariantsKept s (s.topUp c) := by
    unfold State.topUp
    split
    · exact .refl _
    · exact inv_setBay s _ _ fun r => (Nat.sub_le _ _).trans (r.1 _)
  unfold State.completeRefill
  dsimp only
  exact ((topUp.trans (inv_setChannel _ c _ fun _ => le_rfl)).trans (inv_writeSupply _ c _ fun _ => le_rfl)).trans
    (inv_requestCleaning _ _ _)

theorem inv_actOnSample (s : State) (c : Fin 12) (l : Level) : InvariantsKept s (s.actOnSample c l) := by
  cases l with
  | full => exact inv_ite _ (inv_completeRefill s c) (.refl _)
  | normal => exact .refl _
  | low => exact inv_ite _ (inv_declareEmpty s c) (.refl _)
  | empty => exact inv_ite _ (inv_writeSupply s c _ fun _ => Nat.zero_le _) (.refl _)

theorem inv_takeLevels (s : State) (v : Vector Byte 12) : InvariantsKept s (s.takeLevels v) := by
  unfold State.takeLevels
  split
  · exact .refl _
  · next levels _ =>
    exact (inv_setInk s (s.ink.sampled levels) fun r => inRange_ofFn_channels r _ fun _ => rfl).trans
      (InvariantsKept.foldl _ (fun s c => inv_actOnSample s c _) _ _)

theorem inv_afterPresent (s : State) (b : Fin 24) : InvariantsKept s (s.afterPresent b) := by
  unfold State.afterPresent
  dsimp only
  split
  · exact inv_evaluateSupply _ _
  · exact inv_evaluateSupply _ _
  · exact inv_ite _ (inv_enterRefill _ _ _) (.refl _)
  · exact inv_ite _ (inv_enterRefill _ _ _) (.refl _)
  · exact .refl _
  · exact .refl _

theorem inv_bayAbsent (s : State) (b : Fin 24) : InvariantsKept s (s.bayAbsent b) := by
  unfold State.bayAbsent
  refine inv_ite _ (.refl _) ?_
  have gone : InvariantsKept s (s.setBay b { s.ink.bays[b] with present := false }) := inv_setBay s b _ fun r => r.1 b
  have switched := inv_ite ((State.channel (s.setBay b { s.ink.bays[b] with present := false })
    (bayChannel b)).active = baySide b) (gone.trans (inv_setChannel_same _ (bayChannel b)
      { State.channel (s.setBay b { s.ink.bays[b] with present := false }) (bayChannel b) with
        active := (baySide b).other } rfl)) gone
  dsimp only
  revert switched
  generalize (if (State.channel (s.setBay b { s.ink.bays[b] with present := false }) (bayChannel b)).active = baySide b
    then _ else _) = u
  intro switched
  split
  · exact switched.trans (inv_evaluateSupply _ _)
  · exact switched.trans (inv_evaluateSupply _ _)
  · exact inv_ite _ (switched.trans (inv_ite _ (inv_setChannel_same _ _ _ rfl) (inv_writeSupply_same _ _ _ rfl)))
      switched
  all_goals exact switched

theorem inv_takeBayEvent (s : State) (bay present : Byte) (x : Vector Byte 12) (y : Vector Byte 8) (n : Nat) :
    InvariantsKept s (s.takeBayEvent bay present x y n) := by
  have known (b : Fin 24) : InvariantsKept s (s.knownCartridge b) :=
    (inv_setBay s b { s.ink.bays[b] with present := true } fun r => r.1 b).trans (inv_afterPresent _ _)
  have new (b : Fin 24) : InvariantsKept s (s.newCartridge b x y n) :=
    ((inv_setBay s b _ fun _ => le_rfl).trans (inv_raiseIf _ _ _)).trans (inv_afterPresent _ _)
  unfold State.takeBayEvent
  split
  · exact inv_ite _ (inv_bayAbsent _ _) (inv_ite _ (inv_ite _ (known _) (new _)) (.refl _))
  · exact .refl _

theorem inv_refillExpires (s : State) (c : Fin 12) : InvariantsKept s (s.refillExpires c) :=
  inv_writeSupply_same s c _ rfl

theorem inv_refillSecond (s : State) (c : Fin 12) : InvariantsKept s (s.refillSecond c) :=
  inv_ite _ (inv_ite _ (inv_setChannel_same s c _ rfl) (inv_refillExpires s c)) (.refl _)

theorem inv_refillTimeout (s : State) (c : Fin 12) : InvariantsKept s (s.refillTimeout c) :=
  inv_ite _ (inv_refillExpires s c) (.refl _)

/-! ### Colour and editions (R138) -/

theorem clampGain_bounds (g : Int) : 850 ≤ clampGain g ∧ clampGain g ≤ 1150 := by
  unfold clampGain; omega

theorem inRange_first : GainSet.first.inRange := by
  refine ⟨fun c => ?_, by decide, by decide, by decide, by decide⟩
  simp [GainSet.first]

theorem inRange_corrected {g : GainSet} (h : g.inRange) (p : BitVec 16) (r : Vector Reading 16) (f : Vector Lab 16) :
    (g.corrected p r f).inRange := by
  unfold GainSet.corrected
  split
  · refine ⟨fun c => ?_, h.2⟩
    simp only [Fin.getElem_fin, Vector.getElem_ofFn]
    split
    · exact h.1 c
    · exact clampGain_bounds _
  · exact h

theorem gainsInRange_set {u : ColourUnit} (h : u.gainsInRange) (g : Fin 24) (x : Option GainSet)
    (hx : ∀ y, x = some y → y.inRange) : ColourUnit.gainsInRange { u with gainSets := u.gainSets.set g x } := by
  intro j y hy
  by_cases e : g = j
  · subst e; exact hx y (by simpa using hy)
  · exact h j y (by simpa [Vector.getElem_set, Fin.val_ne_of_ne e] using hy)

theorem inv_setGainSet (s : State) (g : Fin 24) (x : GainSet) (h : s.colour.gainsInRange → x.inRange) :
    InvariantsKept s (s.setGainSet g x) := by
  refine (inv_setColour s _ fun r => ?_).trans (inv_markDirtyIf _ _)
  exact gainsInRange_set r g (some x) fun y e => Option.some.inj e ▸ h r

theorem inv_setCheck (s : State) (g : Fin 24) (x : CheckState) : InvariantsKept s (s.setCheck g x) :=
  inv_setColour s _ id

theorem inv_suspendIfDue (s : State) (g : Fin 24) : InvariantsKept s (s.suspendIfDue g) := by
  unfold State.suspendIfDue
  split
  · exact .refl _
  · next x hx =>
    exact inv_ite _ (((inv_setGainSet s g { x with suspended := true } fun r => r g x hx).trans (inv_raise _ _)).trans
      (inv_reevaluate _)) (.refl _)

theorem inv_correctGains (s : State) (g : Fin 24) (p : BitVec 16) (r : Vector Reading 16) (f : Vector Lab 16) :
    InvariantsKept s (s.correctGains g p r f) := by
  unfold State.correctGains
  split
  · exact .refl _
  · next x hx =>
    exact (inv_setGainSet s g _ fun k => inRange_corrected (k g x hx) p r f).trans (inv_raiseIf _ _ _)

theorem inv_recordStrip (s : State) (g : Fin 24) (e : HistoryEntry) (n : Nat) :
    InvariantsKept s (s.recordStrip g e n) := (inv_setCheck s g _).trans (inv_raiseIf _ _ _)

theorem inv_countFailure (s : State) (g : Fin 24) (v : VerdictSettings) (r : Vector Reading 16) (f : Vector Lab 16)
    (p : Bool) : InvariantsKept s (s.countFailure g v r f p) :=
  inv_ite _ (inv_setCheck s g _)
    (((inv_setCheck s g _).trans (inv_requestCleanings _ _)).trans (inv_suspendIfDue _ _))

theorem inv_handOnStrip (s : State) (a : Attempt) (v : VerdictSettings) (r : Vector Reading 16) (f : Vector Lab 16)
    (g : StripFigures) : InvariantsKept s (s.handOnStrip a v r f g) :=
  (((inv_correctGains s _ _ _ _).trans (inv_recordStrip _ _ _ _)).trans (inv_countFailure _ _ _ _ _ _)).trans
    (inv_modifyOrder _ _ _)

theorem inv_judgeStrip (s : State) (a : Attempt) (r : Vector Reading 16) : InvariantsKept s (s.judgeStrip a r).1 := by
  unfold State.judgeStrip
  split
  · exact .refl _
  · split
    · split
      · exact .refl _
      · exact inv_handOnStrip _ _ _ _ _ _
    · exact .refl _

theorem inv_setEdition (s : State) (i : Fin 16) (e : Option Edition) : InvariantsKept s (s.setEdition i e) :=
  (inv_setEditions s _).trans (inv_markDirty _)

theorem inv_numberPrint (s : State) (a : Attempt) : InvariantsKept s (s.numberPrint a) := by
  unfold State.numberPrint
  split
  · exact .refl _
  · split
    · exact .refl _
    · split
      · exact .refl _
      · exact (inv_setOrders s _).trans (inv_setEdition _ _ _)

/-! ### The attempt -/

theorem inv_setAttempt (s : State) (a : Attempt) : InvariantsKept s (s.setAttempt a) := inv_setHolder _ _

theorem inv_tallyAndDraw (s : State) (a : Attempt) (v : Vector Nat 12) : InvariantsKept s (s.tallyAndDraw a v).1 :=
  (inv_raiseIf s _ _).trans (inv_drawAll _ _)

theorem inv_markUncut (s : State) (n : Nat) : InvariantsKept s (s.markUncut n) :=
  inv_ite _ (inv_writeUncut s true) (.refl _)

theorem inv_checkSlip (s : State) (l n : Nat) (o : Option Word32) : InvariantsKept s (s.checkSlip l n o).1 := by
  unfold State.checkSlip
  split
  · exact inv_noteMedia _ _ _
  · exact .refl _

theorem inv_movePaper (s : State) (a : Attempt) (c : EngineCommand) (n : Nat) :
    InvariantsKept s (s.movePaper a c n).1 :=
  ((inv_advancePosition s n _).trans (inv_checkSlip _ _ n _)).trans (inv_markUncut _ n)

theorem inv_attemptStopped (s : State) (a : Attempt) (n : Nat) (d : Vector Drops 12) (b : Bool) :
    InvariantsKept s (s.attemptStopped a n d b) :=
  (((inv_tallyAndDraw s a (s.volumes d)).trans (inv_advancePosition _ n _)).trans (inv_markUncut _ n)).trans
    (inv_setAttempt _ _)

theorem inv_endAttempt (s : State) (a : Attempt) (o : AttemptOutcome) (own : Bool) :
    InvariantsKept s (s.endAttempt a o own) := by
  have outcome (u : State) : InvariantsKept u (u.applyOutcome a.slot o) := .of_keeps (keeps_applyOutcome u _ _)
  have posted := inv_postAttempt s a o own
  exact ((inv_ite (o = .accepted) (posted.trans (inv_numberPrint _ a)) posted).trans (outcome _)).trans
    (inv_setHolder _ _)

theorem inv_attemptCut (s : State) (a : Attempt) : InvariantsKept s (s.attemptCut a) :=
  inv_ite _ (((inv_postWaste s a _ true).trans (inv_writeUncut _ _)).trans (inv_setAttempt _ _))
    ((inv_writeUncut s _).trans (inv_endAttempt _ _ _ _))

theorem inv_endAtOnce (s : State) (a : Attempt) (o : AttemptOutcome) (b : Bool) :
    InvariantsKept s (s.endAtOnce a o b) := by
  have posted := inv_ite (a.phase = .wasteFeed ∨ a.phase = .wasteCut)
    (inv_postWaste s a (pulsesToMm a.wastePulses) false) (.refl s)
  exact ((posted.trans (inv_ite _ (inv_setClearOut _) (.refl _))).trans (inv_writeUncut _ _)).trans
    (inv_endAttempt _ _ _ _)

/-! ### The slot -/

theorem inv_issue (s : State) (c : EngineCommand) (p : Party) : InvariantsKept s (s.issue c p) :=
  inv_setEngine_same s _ rfl rfl

theorem inv_issuePhase (s : State) (a : Attempt) : InvariantsKept s (s.issuePhase a) := by
  unfold State.issuePhase
  split
  · exact inv_setAttempt _ _
  · exact (inv_issue s _ _).trans (inv_setAttempt _ _)

theorem inv_serveAttempt (s : State) (a : Attempt) : InvariantsKept s (s.serveAttempt a) :=
  inv_ite _ (inv_ite _ ((InvariantsKept.of_keeps (keeps_boundary s a)).trans (inv_issuePhase _ _))
    (inv_issuePhase s a)) (.refl _)

theorem inv_serveTask (s : State) (t : Task) (p : Party) : InvariantsKept s (s.serveTask t p) :=
  inv_ite _ (inv_issue s _ _) (.refl _)

theorem inv_select (s : State) : InvariantsKept s s.select := by
  have start (u : State) (i : Fin 40) (o : Order) : InvariantsKept u (u.startAttempt i o) :=
    .of_keeps (keeps_startAttempt u i o)
  unfold State.select
  dsimp only
  split
  · exact inv_reevaluate s
  · split
    · exact ((inv_reevaluate s).trans (start _ _ _)).trans (inv_serveAttempt _ _)
    · exact (inv_reevaluate s).trans (start _ _ _)

theorem inv_startCleaning (s : State) : InvariantsKept s s.startCleaning := by
  refine ((inv_setInk s s.ink.cleanTaken fun r => inRange_ofFn_channels r _ fun c => ?_).trans
    (inv_setHolder _ _)).trans (inv_issue _ _ _)
  split <;> rfl

theorem inv_offerWork (s : State) : InvariantsKept s s.offerWork := by
  unfold State.offerWork
  refine inv_ite _ ((inv_setHolder s _).trans (inv_issue _ _ _)) (inv_ite _ (inv_startCleaning s) ?_)
  split
  · exact ((inv_setEngine_same s { s.engine with pendingTrim := none } rfl rfl).trans (inv_setHolder _ _)).trans
      (inv_issue _ _ _)
  · exact inv_ite _ (inv_select s) (.refl _)

theorem inv_offer (s : State) : InvariantsKept s s.offer := by
  unfold State.offer
  split
  · exact inv_issue s _ _
  · exact inv_ite _ ((inv_issue s _ _).trans (inv_setHolder _ _)) (.refl _)
  all_goals exact inv_ite _ (inv_offerWork s) (.refl _)

theorem inv_serveSlot (s : State) : InvariantsKept s s.serveSlot := by
  unfold State.serveSlot
  refine inv_ite _ (.refl _) ?_
  split
  · exact inv_offer s
  · exact inv_serveAttempt _ _
  · exact inv_serveTask _ _ _
  · exact inv_serveTask _ _ _
  · exact .refl _
  · exact (inv_issue s _ _).trans (inv_setHolder _ _)
  · exact .refl _

/-! ### The error count (R81, R82) -/

theorem inv_setEngineCounters (s : State) (c : EngineCounters) : InvariantsKept s (s.setEngineCounters c) :=
  inv_setEngine_same s _ rfl rfl

theorem inv_endTask (s : State) (t : Task) (b : Bool) : InvariantsKept s (s.endTask t b) := by
  have posted := inv_ite (t.pulses.isSome = true) (inv_postTask s t.pulses false) (.refl s)
  exact (posted.trans (inv_ite _ (inv_setClearOut _) (.refl _))).trans (inv_setHolder _ _)

theorem inv_returnLevels (s : State) (v : Vector Nat 12) : InvariantsKept s (s.returnLevels v) :=
  (inv_requestCleanings s v).trans (inv_setHolder _ _)

theorem inv_endHolder (s : State) : InvariantsKept s s.endHolder := by
  unfold State.endHolder
  split
  · exact .refl _
  · exact inv_endAtOnce _ _ _ _
  · exact inv_endTask _ _ _
  · exact inv_endTask _ _ _
  · exact inv_returnLevels _ _
  · exact inv_setHolder _ _

theorem inv_abandon (s : State) : InvariantsKept s s.abandon := by
  unfold State.abandon
  split
  · exact .refl _
  · exact inv_setEngine_same s _ rfl rfl

theorem inv_enterOff (s : State) : InvariantsKept s s.enterOff := by
  have ended := (inv_abandon s).trans (inv_endHolder _)
  have cleared := ended.trans (inv_setEngine_same _ { s.abandon.endHolder.engine with probeRun := 0 } rfl rfl)
  exact inv_ite _ (cleared.trans (inv_setHolder _ _)) cleared

/-- A new error count of at most 255 is written with the state it decides, unless the state stands already. -/
theorem inv_setCount (s : State) (n : Nat) (h : s.engine.counted → n ≤ 255) : InvariantsKept s (s.setCount n) := by
  unfold State.setCount
  dsimp only
  split
  · next e => exact inv_setEngine s _ fun k => ⟨h k, .inr e.symm⟩
  · have written : InvariantsKept s
        ((s.setEngine { s.engine with errorCount := n }).setEngineState (stateOfCount n)) :=
      (inv_setEngine s { s.engine with errorCount := n, state := stateOfCount n } fun k => ⟨h k, .inr rfl⟩).trans
        (inv_raise _ _)
    exact inv_ite _ (written.trans (inv_enterOff _)) written

theorem inv_addErrors (s : State) (k : Nat) : InvariantsKept s (s.addErrors k) :=
  inv_ite _ (inv_setCount s _ fun _ => Nat.min_le_left _ _) (.refl _)

theorem inv_forgiveError (s : State) : InvariantsKept s s.forgiveError :=
  inv_ite _ (inv_setCount s _ fun k => (Nat.sub_le _ _).trans k.1) (.refl _)

/-! ### Reports (R72) -/

theorem inv_taskReport (s : State) (t : Task) (c : EngineCommand) (b : Bool) (r : Report) :
    InvariantsKept s (s.taskReport t c b r) := by
  have cleared : InvariantsKept s (s.setRoll { s.media.roll with clearOutPending := false }) := inv_setRoll s _ id
  cases r with
  | feedDone p => exact ((inv_advancePosition s p none).trans (inv_checkSlip _ _ p none)).trans (inv_setHolder _ _)
  | cutDone =>
    exact inv_ite _ ((inv_postTask s _ _).trans (inv_setHolder _ _))
      ((cleared.trans (inv_postTask _ _ _)).trans (inv_setHolder _ _))
  | _ => exact .refl _

theorem inv_attemptReport (s : State) (a : Attempt) (c : EngineCommand) (r : Report) :
    InvariantsKept s (s.attemptReport a c r) := by
  cases r with
  | feedDone p => exact (inv_movePaper s a c p).trans (inv_setAttempt _ _)
  | bandDone p d =>
    exact ((inv_tallyAndDraw s a (s.volumes d)).trans (inv_movePaper _ _ c p)).trans (inv_setAttempt _ _)
  | bandStopped p d => exact inv_attemptStopped s a p d false
  | stripDone p d rs =>
    exact (((inv_tallyAndDraw s a (s.volumes d)).trans (inv_movePaper _ _ c p)).trans (inv_judgeStrip _ _ rs)).trans
      (inv_setAttempt _ _)
  | stripStopped p d => exact inv_attemptStopped s a p d true
  | cutDone => exact inv_attemptCut s a
  | _ => exact .refl _

theorem inv_setEngineState (s : State) (x : EngineLink) (e : EngineState)
    (h : s.engine.counted → EngineLink.counted { x with state := e }) :
    InvariantsKept s ((s.setEngine x).setEngineState e) :=
  (inv_setEngine s { x with state := e } h).trans (inv_raise _ _)

theorem inv_readyTaken (s : State) : InvariantsKept s s.readyTaken :=
  inv_setEngineState s _ _ fun _ => ⟨Nat.zero_le _, .inr rfl⟩

theorem inv_probeAcked (s : State) : InvariantsKept s s.probeAcked :=
  inv_ite _ (inv_setEngine_same s { s.engine with probeRun := s.engine.probeRun + 1 } rfl rfl)
    ((inv_setEngineState s { s.engine with errorCount := 0, probeRun := 0 } .ok fun _ =>
      ⟨Nat.zero_le _, .inr rfl⟩).trans (inv_setHolder _ _))

theorem inv_deliver (s : State) (c : EngineCommand) (p : Party) (r : Report) : InvariantsKept s (s.deliver c p r) := by
  have orphan : InvariantsKept s (s.orphanReport r) := by
    unfold State.orphanReport
    split
    · exact .refl _
    · exact inv_drawAll _ _
  unfold State.deliver
  split
  · exact inv_readyTaken s
  · exact inv_attemptReport _ _ _ _
  · exact inv_taskReport _ _ _ _ _
  · exact inv_taskReport _ _ _ _ _
  · exact ((inv_drawAll s _).trans (inv_postCleaning _ _)).trans (inv_setHolder _ _)
  · exact inv_probeAcked s
  · exact orphan

theorem inv_freeSlot (s : State) : InvariantsKept s s.freeSlot := inv_setEngine_same s _ rfl rfl

theorem inv_correctReport (s : State) (o : Outstanding) (r : Report) : InvariantsKept s (s.correctReport o r) :=
  ((inv_freeSlot s).trans (inv_forgiveError _)).trans (inv_deliver _ _ _ _)

theorem inv_lateReport (s : State) (r : Report) : InvariantsKept s (s.lateReport r) := by
  have inked (u : State) : InvariantsKept u (u.lateInk r) := by
    unfold State.lateInk
    split
    · exact .refl _
    · exact (inv_drawAll u _).trans (inv_postLateInk _ _)
  have moved (u : State) : InvariantsKept u (u.latePulses r) := by
    unfold State.latePulses
    split
    · exact .refl _
    · exact inv_advancePosition _ _ _
  exact (((inv_setEngine_same s { s.engine with expiredTag := none } rfl rfl).trans (inv_setEngineCounters _ _)).trans
    (inked _)).trans (moved _)

theorem inv_badFrame (s : State) : InvariantsKept s s.badFrame :=
  inv_ite _ (((inv_setEngineCounters s _).trans (inv_addErrors _ 4)).trans (inv_serveSlot _)) (.refl _)

theorem inv_takeReport (s : State) (tag : Byte) (r : Report) : InvariantsKept s (s.takeReport tag r) := by
  unfold State.takeReport
  refine inv_ite _ ?_ (.refl _)
  split
  · exact (inv_correctReport _ _ _).trans (inv_serveSlot _)
  · exact (inv_ite _ (inv_lateReport s r) ((inv_setEngineCounters s _).trans (inv_addErrors _ 2))).trans
      (inv_serveSlot _)

/-! ### Timeouts, roll and cover (R71, R30, R75) -/

theorem inv_timeOut (s : State) (o : Outstanding) : InvariantsKept s (s.timeOut o) := by
  have told (u : State) : InvariantsKept u (u.tellTimeout o.command o.party) := by
    unfold State.tellTimeout
    split
    · exact inv_raise _ _
    · exact inv_setAttempt _ _
    · exact inv_setHolder _ _
    · exact inv_setHolder _ _
    · exact inv_returnLevels _ _
    · exact (inv_setEngine_same u { u.engine with probeRun := 0 } rfl rfl).trans (inv_setHolder _ _)
    · exact .refl _
  have counted : InvariantsKept s
      (((s.setEngine { s.engine with outstanding := none, expiredTag := some o.tag }).countTimeout).addErrors 8) :=
    ((inv_setEngine_same s { s.engine with outstanding := none, expiredTag := some o.tag } rfl rfl).trans
      (inv_setEngineCounters _ _)).trans (inv_addErrors _ 8)
  exact inv_ite _ counted (counted.trans (told _))

theorem inv_takeTimeout (s : State) : InvariantsKept s s.takeTimeout := by
  unfold State.takeTimeout
  split
  · exact .refl _
  · exact inv_ite _ ((inv_timeOut _ _).trans (inv_serveSlot _)) (.refl _)

theorem inv_probeInterval (s : State) : InvariantsKept s s.probeInterval := by
  unfold State.probeInterval
  split
  · refine inv_ite _ ?_ (.refl _)
    split
    · exact (inv_setHolder s _).trans (inv_serveSlot _)
    · exact ((inv_timeOut s _).trans (inv_setHolder _ _)).trans (inv_serveSlot _)
  · exact .refl _

theorem inv_orphanCommand (s : State) : InvariantsKept s s.orphanCommand := by
  unfold State.orphanCommand
  split
  · exact .refl _
  · next o _ =>
    exact inv_ite _ (inv_setEngine_same s { s.engine with outstanding := some { o with party := .ended } } rfl rfl)
      (.refl _)

theorem inv_endRollUser (s : State) : InvariantsKept s s.endRollUser := by
  unfold State.endRollUser
  split
  · exact (inv_orphanCommand s).trans (inv_endAtOnce _ _ _ _)
  · exact ((inv_ite _ (inv_postTask s _ false) (.refl _)).trans (inv_orphanCommand _)).trans (inv_setHolder _ _)
  · exact (inv_orphanCommand s).trans (inv_setHolder _ _)
  all_goals exact .refl _

theorem inv_removeRoll (s : State) : InvariantsKept s s.removeRoll := by
  have undeclared : InvariantsKept s (s.setRoll { s.media.roll with declared := false, clearOutPending := false }) :=
    inv_setRoll s _ id
  have untrimmed (u : State) : InvariantsKept u (u.setEngine { u.engine with pendingTrim := none }) :=
    inv_setEngine_same u _ rfl rfl
  exact (((undeclared.trans (untrimmed _)).trans (inv_noteMedia _ _ _)).trans (inv_endRollUser _)).trans
    (inv_reevaluate _)

theorem inv_rollAbsent (s : State) : InvariantsKept s s.rollAbsent := by
  have absent : InvariantsKept s (s.setMedia { s.media with present := false }) := inv_setMedia s _ id
  exact inv_ite _ (inv_ite _ (absent.trans (inv_removeRoll _)) absent) (.refl _)

/-- Noting a report event leaves the count and the state (R75). -/
theorem inv_noted (s : State) (e : EngineLink) (roll : Bool) (hc : e.errorCount = s.engine.errorCount)
    (hs : e.state = s.engine.state) : InvariantsKept s (s.setEngine (e.noted roll)) := by
  have same : (e.noted roll).errorCount = e.errorCount ∧ (e.noted roll).state = e.state := by
    unfold EngineLink.noted
    split <;> exact ⟨rfl, rfl⟩
  exact inv_setEngine_same s _ (same.1.trans hc) (same.2.trans hs)

theorem inv_takeRollEvent (s : State) (b : Byte) : InvariantsKept s (s.takeRollEvent b) := by
  have present : InvariantsKept s (s.setMedia { s.media with present := true }) := inv_setMedia s _ id
  exact inv_ite _ ((present.trans (inv_noted _ _ true rfl rfl)).trans (inv_serveSlot _))
    (inv_ite _ (((inv_rollAbsent s).trans (inv_noted _ _ true rfl rfl)).trans (inv_serveSlot _)) (.refl _))

theorem inv_takeCoverEvent (s : State) (b : Byte) : InvariantsKept s (s.takeCoverEvent b) :=
  inv_ite _ ((inv_noted s { s.engine with coverClosed := b == 1 } false rfl rfl).trans (inv_serveSlot _)) (.refl _)

theorem inv_whenWorking (s : State) (f : State → State) (h : InvariantsKept s (f s)) :
    InvariantsKept s (s.whenWorking f) := inv_ite _ h (.refl _)

theorem inv_engineFrame (s : State) (f : Frame) : InvariantsKept s (s.engineFrame f) := by
  unfold State.engineFrame
  dsimp only
  split
  case h_10 => exact inv_whenWorking s _ ((inv_takeLevels s _).trans (inv_serveSlot _))
  case h_11 => exact inv_whenWorking s _ ((inv_takeBayEvent s _ _ _ _ _).trans (inv_serveSlot _))
  case h_12 => exact inv_whenWorking s _ (inv_takeRollEvent s _)
  case h_13 => exact inv_whenWorking s _ (inv_takeCoverEvent s _)
  case h_14 => exact inv_badFrame s
  all_goals exact inv_takeReport s _ _

theorem inv_dwellSecond (s : State) (due : Attempt → Bool) : InvariantsKept s (s.dwellSecond due) := by
  unfold State.dwellSecond
  split
  · exact .refl _
  · exact inv_ite _ ((inv_setAttempt s _).trans (inv_serveSlot _)) (.refl _)

theorem inv_tick (s : State) : InvariantsKept s s.tick := inv_ite _ (inv_setClockTo s _) (inv_setOrders s _)

end Sys2Proof.Machine

/-! What the rule of every request keeps: the invariants, the queues of the link, and, when it refuses, everything
(O6, O7, O56 to O59; R192 to R194). -/

namespace Sys2Proof.Machine

/-! ### The link under a request's rule -/

/-- What a request's rule leaves of the server link: the frames held, the frame going out and the number of replies
queued, with the invariant of the queues kept. -/
structure LinkHeld (s t : State) : Prop where
  receiver : t.server.receiver = s.server.receiver
  holding : t.server.holding = s.server.holding
  sending : t.server.sending = s.server.sending
  replies : replyCount t.server.tx = replyCount s.server.tx
  bounded : LinkBounded s → LinkBounded t

theorem LinkHeld.of_kept {s t : State} (h : LinkKept s t) : LinkHeld s t :=
  ⟨h.receiver, h.holding, h.sending, h.replies, h.bounded⟩

theorem LinkHeld.refl (s : State) : LinkHeld s s := .of_kept (.refl s)

theorem LinkHeld.trans {s t u : State} (h : LinkHeld s t) (k : LinkHeld t u) : LinkHeld s u :=
  ⟨k.receiver.trans h.receiver, k.holding.trans h.holding, k.sending.trans h.sending, k.replies.trans h.replies,
    fun b => k.bounded (h.bounded b)⟩

/-- Categories may be pended, cleared, enabled and disabled: the place of the NOTICE frame is kept. -/
theorem held_setNotices (s : State) (x : NoticeUnit) (hp : x.place = s.notices.place) (ho : x.owed = s.notices.owed) :
    LinkHeld s (s.setNotices x) := by
  refine ⟨rfl, rfl, rfl, rfl, fun b => ?_⟩
  unfold LinkBounded at b ⊢
  simpa [hp, ho] using b

theorem held_setServerCounters (s : State) (c : ServerCounters) : LinkHeld s (s.setServerCounters c) :=
  ⟨rfl, rfl, rfl, rfl, fun b => b⟩

/-! ### The law of an answer -/

/-- What every rule's answer meets: the invariants and the queues are kept, and a refusal changes nothing and carries no
fields (R194). -/
structure AnswerLaw (s : State) (a : Answer) : Prop where
  kept : InvariantsKept s a.state
  link : LinkHeld s a.state
  refused : a.status.refuses = true → a = s.refuse a.status

theorem law_refuse (s : State) (status : Status) : AnswerLaw s (s.refuse status) := ⟨.refl s, .refl s, fun _ => rfl⟩

theorem law_accept {s t : State} (k : InvariantsKept s t) (l : LinkHeld s t) (fields : List Byte) :
    AnswerLaw s (t.accept fields) := ⟨k, l, nofun⟩

theorem law_acceptIf {s t : State} (k : InvariantsKept s t) (l : LinkHeld s t) (clamped : Bool) (fields : List Byte) :
    AnswerLaw s (t.acceptIf clamped fields) := ⟨k, l, by cases clamped <;> exact nofun⟩

theorem law_query (s : State) (fields : List Byte) : AnswerLaw s (s.accept fields) := law_accept (.refl s) (.refl s) _

theorem law_ite {s : State} {a b : Answer} (c : Prop) [Decidable c] (h : AnswerLaw s a) (k : AnswerLaw s b) :
    AnswerLaw s (if c then a else b) := by split <;> assumption

theorem law_checked {s : State} {a : Answer} (checks : List (Bool × Status)) (h : AnswerLaw s a) :
    AnswerLaw s (s.checked checks a) := by
  unfold State.checked
  split
  · exact law_refuse _ _
  · exact h

/-! ### The slot's turn and the re-evaluation, at the end of a rule -/

theorem InvariantsKept.served {s t : State} (h : InvariantsKept s t) : InvariantsKept s t.serveSlot :=
  h.trans (inv_serveSlot t)

theorem LinkKept.served {s t : State} (h : LinkKept s t) : LinkKept s t.serveSlot := h.trans (link_serveSlot t)

theorem InvariantsKept.reevaluated {s t : State} (h : InvariantsKept s t) : InvariantsKept s t.reevaluate :=
  h.trans (inv_reevaluate t)

theorem LinkKept.reevaluated {s t : State} (h : LinkKept s t) : LinkKept s t.reevaluate := h.trans (link_reevaluate t)

/-! ### Orders -/

section
variable (p : List Byte) (s : State)

theorem law_takeSubmit : AnswerLaw s (takeSubmit p s) := by
  refine law_ite _ (law_refuse _ _) (law_checked _ ?_)
  unfold State.placeOrder
  split
  · exact law_refuse _ _
  · next i _ =>
    exact law_acceptIf ((inv_setOrders s _).trans (inv_raiseIf _ _ _)).reevaluated.served
      (.of_kept ((link_setOrders s _).trans (link_raiseIf _ _ _)).reevaluated.served) _ _

theorem law_takeAmend : AnswerLaw s (takeAmend p s) := by
  refine law_ite _ (law_refuse _ _) ?_
  split
  · exact law_refuse _ _
  · split
    · exact law_refuse _ _
    · exact law_checked _ (law_acceptIf ((inv_setOrders s _).trans (inv_raiseIf _ _ _)).reevaluated.served
        (.of_kept ((link_setOrders s _).trans (link_raiseIf _ _ _)).reevaluated.served) _ _)

theorem law_takeCancel : AnswerLaw s (takeCancel p s) := by
  have final (i : Fin 40) (o : Order) : AnswerLaw s ((s.finishOrder i o .cancelled).accept []) :=
    law_accept (inv_finishOrder _ _ _ _) (.of_kept (link_finishOrder _ _ _ _)) _
  refine law_ite _ (law_refuse _ _) ?_
  split
  · exact law_refuse _ _
  · split
    · exact law_refuse _ _
    · split
      · exact final _ _
      · exact final _ _
      · exact law_accept (inv_setOrders s _) (.of_kept (link_setOrders s _)) _
      all_goals exact law_refuse _ _

theorem law_takeRelease : AnswerLaw s (takeRelease p s) := by
  refine law_ite _ (law_refuse _ _) ?_
  split
  · exact law_refuse _ _
  · split
    · exact law_refuse _ _
    · exact law_checked _ (law_accept (inv_setOrders s _) (.of_kept (link_setOrders s _)) _)

theorem law_takeOrderQuery : AnswerLaw s (takeOrderQuery p s) := by
  refine law_ite _ (law_refuse _ _) ?_
  split
  · exact law_refuse _ _
  · split
    · exact law_refuse _ _
    · exact law_query _ _

theorem law_takeOrderList : AnswerLaw s (takeOrderList p s) :=
  law_ite _ (law_refuse _ _) (law_checked _ (law_query _ _))

theorem law_takePause : AnswerLaw s (takePause p s) :=
  law_ite _ (law_refuse _ _) (law_accept (inv_setOrders s _) (.of_kept (link_setOrders s _)) _)

theorem law_takeResume : AnswerLaw s (takeResume p s) :=
  law_ite _ (law_refuse _ _) (law_accept (inv_setOrders s _).served (.of_kept (link_setOrders s _).served) _)

theorem law_takeSetClock : AnswerLaw s (takeSetClock p s) :=
  law_ite _ (law_refuse _ _) (law_accept (inv_setClockTo s _) (.of_kept (link_setClockTo s _)) _)

theorem law_takeReadClock : AnswerLaw s (takeReadClock p s) := law_ite _ (law_refuse _ _) (law_query _ _)

/-! ### Media -/

theorem inv_firstDefinition (k : Fin 8) : InvariantsKept s (s.firstDefinition k) :=
  inv_setColour s _ fun r => gainsInRange_set (u := { s.colour with
    settings := s.colour.settings.set k (some VerdictSettings.first)
    checks := s.colour.checks.set (kindSet k) (CheckState.fresh .continuous) }) r (kindSet k) (some GainSet.first)
    fun _ e => Option.some.inj e ▸ inRange_first

theorem inv_defineKind (k : Fin 8) (m : MediaKind) : InvariantsKept s (s.defineKind k m) := by
  have written : InvariantsKept s (s.setMedia { s.media with kinds := s.media.kinds.set k (some m) }) :=
    inv_setMedia s _ id
  exact (inv_ite _ written (written.trans (inv_firstDefinition _ k))).trans (inv_markDirty _)

theorem link_defineKind (k : Fin 8) (m : MediaKind) : LinkKept s (s.defineKind k m) :=
  (link_ite _ (link_setMedia s _) ((link_setMedia s _).trans (link_setColour _ _))).trans (link_markDirty _)

theorem law_takeMediaDefine : AnswerLaw s (takeMediaDefine p s) :=
  law_ite _ (law_refuse _ _) (law_checked _ (law_acceptIf (inv_defineKind s _ _).reevaluated.served
    (.of_kept (link_defineKind s _ _).reevaluated.served) _ _))

theorem law_takeMediaQuery : AnswerLaw s (takeMediaQuery p s) := by
  refine law_ite _ (law_refuse _ _) (law_ite _ (law_refuse _ _) ?_)
  split
  · exact law_refuse _ _
  · exact law_query _ _

theorem law_takeRollDeclare : AnswerLaw s (takeRollDeclare p s) :=
  law_ite _ (law_refuse _ _) (law_checked _ (law_accept (inv_setRoll s _ fun _ => Nat.zero_le _).reevaluated.served
    (.of_kept (link_setRoll s _).reevaluated.served) _))

theorem law_writeZone (zone : Fin 8) (z : Zone) : AnswerLaw s (s.writeZone zone z) := by
  have written : InvariantsKept s (s.setRoll { s.media.roll with zones := s.media.roll.zones.set zone z }) :=
    inv_setRoll s _ id
  exact law_accept written.reevaluated.served (.of_kept (link_setRoll s _).reevaluated.served) _

theorem law_takeFlawMark : AnswerLaw s (takeFlawMark p s) :=
  law_ite _ (law_refuse _ _) (law_checked _ (law_writeZone _ _ _))

theorem law_takeFlawClear : AnswerLaw s (takeFlawClear p s) :=
  law_ite _ (law_refuse _ _) (law_checked _ (law_writeZone _ _ _))

theorem law_takeRollQuery : AnswerLaw s (takeRollQuery p s) := law_ite _ (law_refuse _ _) (law_query _ _)

theorem law_takeTrim : AnswerLaw s (takeTrim p s) := by
  have pended : InvariantsKept s (s.setEngine { s.engine with pendingTrim := some (u16At p 0) }) :=
    inv_setEngine_same s _ rfl rfl
  exact law_ite _ (law_refuse _ _) (law_checked _ (law_accept pended.served
    (.of_kept (link_setEngine s _).served) _))

/-! ### The engine link -/

theorem law_takeAttemptQuery : AnswerLaw s (takeAttemptQuery p s) := by
  refine law_ite _ (law_refuse _ _) ?_
  split
  · exact law_refuse _ _
  · exact law_query _ _

theorem inv_restart : InvariantsKept s s.restart := by
  have ended := (inv_abandon s).trans (inv_endHolder _)
  have cleared := ended.trans (inv_setEngine_same _ { s.abandon.endHolder.engine with probeRun := 0 } rfl rfl)
  exact inv_ite _ cleared (cleared.trans (inv_setEngineState _ _ .starting fun k => ⟨k.1, .inl rfl⟩))

theorem link_restart : LinkKept s s.restart := by
  have cleared := ((link_abandon s).trans (link_endHolder _)).trans
    (link_setEngine _ { s.abandon.endHolder.engine with probeRun := 0 })
  exact link_ite _ cleared (cleared.trans (link_setEngineState _ _))

theorem law_takeEngineRestart : AnswerLaw s (takeEngineRestart p s) :=
  law_ite _ (law_refuse _ _) (law_accept (inv_restart s).served (.of_kept (link_restart s).served) _)

theorem inv_stopProbing : InvariantsKept s s.stopProbing := by
  unfold State.stopProbing
  split
  · exact (inv_setEngine_same s { s.engine with
      probeRun := 0, outstanding := s.engine.outstanding.map fun o => { o with party := .ended } } rfl rfl).trans
        (inv_setHolder _ _)
  all_goals exact .refl _

theorem link_stopProbing : LinkKept s s.stopProbing := by
  unfold State.stopProbing
  split
  · exact (link_setEngine s _).trans (link_setHolder _ _)
  all_goals exact .refl _

theorem inv_startProbing : InvariantsKept s s.startProbing :=
  inv_ite _ ((inv_setEngine_same s { s.engine with probeRun := 0 } rfl rfl).trans (inv_setHolder _ _)).served (.refl _)

theorem link_startProbing : LinkKept s s.startProbing :=
  link_ite _ ((link_setEngine s _).trans (link_setHolder _ _)).served (.refl _)

theorem inv_setAutoRecovery (on : Bool) : InvariantsKept s (s.setAutoRecovery on) := by
  have set : InvariantsKept s (s.setEngine { s.engine with autoRecovery := on }) := inv_setEngine_same s _ rfl rfl
  have marked := set.trans (inv_markDirtyIf (on != s.engine.autoRecovery) _)
  exact inv_ite _ (marked.trans (inv_startProbing _)) (marked.trans (inv_stopProbing _))

theorem link_setAutoRecovery (on : Bool) : LinkKept s (s.setAutoRecovery on) := by
  have marked := (link_setEngine s { s.engine with autoRecovery := on }).trans
    (link_markDirtyIf (on != s.engine.autoRecovery) _)
  exact link_ite _ (marked.trans (link_startProbing _)) (marked.trans (link_stopProbing _))

theorem law_takeAutoRecoverySet : AnswerLaw s (takeAutoRecoverySet p s) :=
  law_ite _ (law_refuse _ _) (law_accept (inv_setAutoRecovery s _) (.of_kept (link_setAutoRecovery s _)) _)

theorem inv_readTimer : InvariantsKept s s.readTimer := by
  unfold State.readTimer
  split
  · exact .refl _
  · exact ⟨rfl, rfl, id, id, id, id, id⟩

theorem link_readTimer : LinkKept s s.readTimer := by
  unfold State.readTimer
  split
  · exact .refl _
  · exact .of_same _ _ rfl rfl

theorem law_takeEngineQuery : AnswerLaw s (takeEngineQuery p s) :=
  law_ite _ (law_refuse _ _) (law_accept (inv_readTimer s) (.of_kept (link_readTimer s)) _)

/-! ### Ink -/

theorem law_takeDropSizesSet : AnswerLaw s (takeDropSizesSet p s) := by
  have sized : InvariantsKept s (s.setInk { s.ink with sizes := dropSizesAt p }) := inv_setInk s _ id
  exact law_ite _ (law_refuse _ _) (law_acceptIf (sized.trans (inv_markDirtyIf _ _))
    (.of_kept ((link_setInk s _).trans (link_markDirtyIf _ _))) _ _)

theorem inv_setThreshold (c : Fin 12) (n : Nat) : InvariantsKept s (s.setThreshold c n) :=
  (inv_setChannel_same s c { s.channel c with lowThreshold := n } rfl).trans (inv_evaluateSupply _ _)

theorem link_setThreshold (c : Fin 12) (n : Nat) : LinkKept s (s.setThreshold c n) :=
  (link_setChannel s c _).trans (link_evaluateSupply _ _)

theorem law_takeChannelSet : AnswerLaw s (takeChannelSet p s) :=
  law_ite _ (law_refuse _ _) (law_checked _ (law_acceptIf (inv_setThreshold s _ _).served
    (.of_kept (link_setThreshold s _ _).served) _ _))

theorem inv_resetChannel (c : Fin 12) : InvariantsKept s (s.resetChannel c) := by
  unfold State.resetChannel
  split
  · exact inv_enterRefill s c _
  · exact inv_writeSupply_same s c _ rfl

theorem link_resetChannel (c : Fin 12) : LinkKept s (s.resetChannel c) := by
  unfold State.resetChannel
  split
  · exact link_enterRefill s c _
  · exact link_writeSupply s c _

theorem law_takeChannelReset : AnswerLaw s (takeChannelReset p s) :=
  law_ite _ (law_refuse _ _) (law_checked _ (law_accept (inv_resetChannel s _).served
    (.of_kept (link_resetChannel s _).served) _))

theorem law_takeCleanRequest : AnswerLaw s (takeCleanRequest p s) :=
  law_ite _ (law_refuse _ _) (law_checked _ (law_accept (inv_requestCleanings s _).served
    (.of_kept (link_requestCleanings s _).served) _))

theorem law_takeSupplyQuery : AnswerLaw s (takeSupplyQuery p s) :=
  law_ite _ (law_refuse _ _) (law_checked _ (law_query _ _))

/-! ### Colour -/

theorem law_setSettings (k : Fin 8) (v : VerdictSettings) (clamped : Bool) :
    AnswerLaw s ((s.setSettings k v).acceptIf clamped []) := by
  have set : InvariantsKept s (s.setColour { s.colour with settings := s.colour.settings.set k (some v) }) :=
    inv_setColour s _ id
  exact law_acceptIf (set.trans (inv_markDirty _)) (.of_kept ((link_setColour s _).trans (link_markDirty _))) _ _

theorem law_takeReferenceSet : AnswerLaw s (takeReferenceSet p s) := by
  refine law_ite _ (law_refuse _ _) (law_ite _ (law_refuse _ _) ?_)
  split
  · exact law_refuse _ _
  · exact law_setSettings _ _ _ _

theorem law_takeColourLimitsSet : AnswerLaw s (takeColourLimitsSet p s) := by
  refine law_ite _ (law_refuse _ _) (law_ite _ (law_refuse _ _) ?_)
  split
  · exact law_refuse _ _
  · exact law_setSettings _ _ _ _

theorem law_takeColourQuery : AnswerLaw s (takeColourQuery p s) := by
  refine law_ite _ (law_refuse _ _) (law_ite _ (law_refuse _ _) ?_)
  split
  · exact law_refuse _ _
  · exact law_query _ _

/-- The requests that carry a selector: what they do to the set named decides. -/
theorem law_withGainSet (n : Nat) (malformed outOfRange : Bool) (act : Fin 24 → GainSet → Answer)
    (h : ∀ g x, s.colour.gainSets[g] = some x → AnswerLaw s (act g x)) :
    AnswerLaw s (s.withGainSet p n malformed outOfRange act) := by
  refine law_ite _ (law_refuse _ _) (law_ite _ (law_refuse _ _) ?_)
  split
  · exact law_refuse _ _
  · split
    · exact law_refuse _ _
    · next x hx => exact h _ x hx

theorem law_takeHistoryQuery : AnswerLaw s (takeHistoryQuery p s) :=
  law_withGainSet p s _ _ _ _ fun _ _ _ => law_query _ _

theorem law_takeHistoryRearm : AnswerLaw s (takeHistoryRearm p s) :=
  law_withGainSet p s _ _ _ _ fun _ _ _ => law_accept (inv_setCheck _ _ _) (.of_kept (link_setCheck _ _ _)) _

theorem law_takeCaptureModeSet : AnswerLaw s (takeCaptureModeSet p s) :=
  law_withGainSet p s _ _ _ _ fun g x hx =>
    law_accept ((inv_setGainSet s g { x with captureMode := modeAt p } fun r => r g x hx).trans (inv_setCheck _ _ _))
      (.of_kept ((link_setGainSet _ _ _).trans (link_setCheck _ _ _))) _

theorem law_takeColourResume : AnswerLaw s (takeColourResume p s) := by
  refine law_withGainSet p s _ _ _ _ fun g x hx => law_ite _ ?_ (law_refuse _ _)
  have resumed : InvariantsKept s (s.setGainSet g { x with suspended := false }) :=
    inv_setGainSet s g _ fun r => r g x hx
  exact law_accept ((resumed.trans (inv_setCheck _ _ _)).trans (inv_markDirty _)).reevaluated.served
    (.of_kept (((link_setGainSet s g _).trans (link_setCheck _ _ _)).trans (link_markDirty _)).reevaluated.served) _

theorem law_takeGainsSet : AnswerLaw s (takeGainsSet p s) := by
  refine law_withGainSet p s _ _ _ _ fun g x hx => ?_
  have written : InvariantsKept s (s.setGainSet g
      { x with gains := Vector.ofFn fun c => gainLimited (u16sAt 12 p 5)[c], limitFlags := 0 }) := by
    refine inv_setGainSet s g _ fun r => ⟨fun c => ?_, (r g x hx).2⟩
    simp only [Fin.getElem_fin, Vector.getElem_ofFn, gainLimited]
    omega
  exact law_acceptIf (written.trans (inv_markDirty _))
    (.of_kept ((link_setGainSet _ _ _).trans (link_markDirty _))) _ _

theorem law_takeCorrectionSet : AnswerLaw s (takeCorrectionSet p s) := by
  refine law_withGainSet p s _ _ _ _ fun g x hx => ?_
  have written : InvariantsKept s (s.setGainSet g
      { x with correction := flagAt p 5, deadband := min 500 (u16At p 6), rate := min 20 (u16At p 8),
               maxStep := max 1 (min 50 (u16At p 10)) }) := by
    refine inv_setGainSet s g _ fun r => ⟨(r g x hx).1, ?_⟩
    dsimp only
    omega
  exact law_acceptIf written (.of_kept (link_setGainSet _ _ _)) _ _

theorem law_takeGainsQuery : AnswerLaw s (takeGainsQuery p s) :=
  law_withGainSet p s _ _ _ _ fun _ _ _ => law_query _ _

/-! ### Editions -/

theorem inv_useEditionSet (i : Fin 16) (k : Fin 8) : InvariantsKept s (s.useEditionSet i k) := by
  refine (inv_setGainSet s (editionSet i) _ fun r => ?_).trans (inv_setCheck _ _ _)
  cases h : s.colour.gainSets[kindSet k] with
  | none => exact inRange_first
  | some x => exact r _ x h

theorem law_takeEditionOpen : AnswerLaw s (takeEditionOpen p s) := by
  refine law_ite _ (law_refuse _ _) (law_checked _ ?_)
  split
  · exact law_refuse _ _
  · exact law_acceptIf ((inv_useEditionSet s _ _).trans (inv_setEdition _ _ _))
      (.of_kept (((link_setGainSet s _ _).trans (link_setCheck _ _ _)).trans (link_setEdition _ _ _))) _ _

/-- The requests that carry an edition reference alone. -/
theorem law_withEdition (act : Fin 16 → Edition → Answer) (h : ∀ i e, AnswerLaw s (act i e)) :
    AnswerLaw s (s.withEdition p act) := by
  refine law_ite _ (law_refuse _ _) ?_
  split
  · exact law_refuse _ _
  · split
    · exact law_refuse _ _
    · exact h _ _

theorem law_takeEditionClose : AnswerLaw s (takeEditionClose p s) :=
  law_withEdition p s _ fun _ _ =>
    law_checked _ (law_accept (inv_setEdition s _ _) (.of_kept (link_setEdition s _ _)) _)

theorem inv_dropEditionSet (i : Fin 16) : InvariantsKept s (s.dropEditionSet i) :=
  (inv_setColour s _ fun r => gainsInRange_set r (editionSet i) none nofun).trans (inv_setCheck _ _ _)

theorem law_takeEditionRemove : AnswerLaw s (takeEditionRemove p s) :=
  law_withEdition p s _ fun i _ =>
    law_checked _ (law_accept ((inv_dropEditionSet s i).trans (inv_setEdition _ _ _))
      (.of_kept (((link_setColour s _).trans (link_setCheck _ _ _)).trans (link_setEdition _ _ _))) _)

theorem law_takeEditionQuery : AnswerLaw s (takeEditionQuery p s) := law_withEdition p s _ fun _ _ => law_query _ _

/-! ### Costs -/

theorem law_takePricesSet : AnswerLaw s (takePricesSet p s) := by
  have priced : InvariantsKept s (s.setCosts { s.costs with
      prices := (pricesAt p).clamped, version := s.costs.version + 1 }) := inv_setCosts s _ id
  exact law_ite _ (law_refuse _ _) (law_acceptIf (priced.trans (inv_markDirty _))
    (.of_kept ((link_setCosts s _).trans (link_markDirty _))) _ _)

theorem law_takePricesQuery : AnswerLaw s (takePricesQuery p s) := law_ite _ (law_refuse _ _) (law_query _ _)

theorem law_takeAccountQuery : AnswerLaw s (takeAccountQuery p s) :=
  law_ite _ (law_refuse _ _) (law_checked _ (law_query _ _))

theorem balanced_cleared : Account.balanced {} := by
  simp [Account.balanced]

theorem law_takeAccountClear : AnswerLaw s (takeAccountClear p s) :=
  law_ite _ (law_refuse _ _) (law_checked _ (law_accept (inv_setAccount s _ _ balanced_cleared)
    (.of_kept (link_setAccount s _ _)) _))

/-- A field of `k` bytes lies below 256ᵏ. -/
theorem uintAt_lt (k : Nat) : ∀ i : Nat, uintAt p i k < 256 ^ k := by
  induction k with
  | zero => intro i; simp [uintAt]
  | succ k ih =>
    intro i
    have low : byteAt p i < 256 := (p.getD i 0).isLt
    have high := ih (i + 1)
    simp only [uintAt, pow_succ]
    omega

theorem u48At_le (i : Nat) : u48At p i ≤ max48 := Nat.le_of_lt_succ (uintAt_lt p 6 i)

theorem balanced_loaded : (loadedAccount p).balanced :=
  ⟨u48At_le p _, u48At_le p _, u48At_le p _, u48At_le p _, rfl, Nat.min_le_left _ _, Nat.min_le_left _ _⟩

theorem law_takeAccountLoad : AnswerLaw s (takeAccountLoad p s) :=
  law_ite _ (law_refuse _ _) (law_checked _ (law_acceptIf (inv_setAccount s _ _ (balanced_loaded p))
    (.of_kept (link_setAccount s _ _)) _ _))

/-! ### The link, the notices and the store -/

theorem law_takeIdentify : AnswerLaw s (takeIdentify p s) := law_ite _ (law_refuse _ _) (law_query _ _)

theorem law_takeStatusQuery : AnswerLaw s (takeStatusQuery p s) := law_ite _ (law_refuse _ _) (law_query _ _)

theorem held_enable (set : Byte) : LinkHeld s (s.enable set) := by
  have enabled : LinkHeld s (s.setNotices { s.notices with enabled := set }) := held_setNotices s _ rfl rfl
  unfold State.enable
  dsimp only
  split
  · exact enabled
  · exact enabled.trans (.of_kept (link_trigger _))

theorem inv_trigger : InvariantsKept s s.trigger := .of_keeps (keeps_trigger s)

theorem inv_enable (set : Byte) : InvariantsKept s (s.enable set) :=
  inv_ite _ (inv_setNotices s _) ((inv_setNotices s _).trans (inv_trigger _))

theorem law_takeNoticeEnable : AnswerLaw s (takeNoticeEnable p s) :=
  law_ite _ (law_refuse _ _) (law_accept (inv_enable s _) (held_enable s _) _)

theorem law_takeNoticeClear : AnswerLaw s (takeNoticeClear p s) :=
  law_ite _ (law_refuse _ _) (law_accept (inv_setNotices s _)
    (held_setNotices s { s.notices with pending := s.notices.pending &&& ~~~(p.getD 0 0) } rfl rfl) _)

theorem law_takeCountersQuery : AnswerLaw s (takeCountersQuery p s) := by
  refine law_ite _ (law_refuse _ _) (law_checked _ (law_accept ?_ ?_ _))
  · exact inv_ite _ ((inv_setServer s _).trans (inv_setEngineCounters _ _)) (.refl _)
  · split
    · exact (held_setServerCounters s _).trans (.of_kept (link_setEngine _ _))
    · exact .refl _

theorem law_takeStoreCommit : AnswerLaw s (takeStoreCommit p s) :=
  law_ite _ (law_refuse _ _) (law_accept (inv_markDirty s) (.of_kept (link_markDirty s)) _)

theorem inv_goQuiet : InvariantsKept s s.goQuiet := by
  have free (u : State) : InvariantsKept u ((u.freeSlot.setHolder .idle).setQuiet (some ⟨false, 3⟩)) :=
    ((inv_freeSlot u).trans (inv_setHolder _ _)).trans (inv_setQuiet _ _)
  refine InvariantsKept.trans ?_ (free _)
  split
  · exact ((inv_ite _ (inv_setClearOut s) (.refl _)).trans (inv_writeUncut _ _)).trans (inv_markDirty _)
  · exact inv_ite _ ((inv_setClearOut s).trans (inv_markDirty _)) (.refl _)
  all_goals exact .refl _

theorem link_goQuiet : LinkKept s s.goQuiet := by
  have free (u : State) : LinkKept u ((u.freeSlot.setHolder .idle).setQuiet (some ⟨false, 3⟩)) :=
    ((link_setEngine u _).trans (link_setHolder _ _)).trans (link_setQuiet _ _)
  refine LinkKept.trans ?_ (free _)
  split
  · exact ((link_ite _ (link_setClearOut s) (.refl _)).trans (link_writeUncut _ _)).trans (link_markDirty _)
  · exact link_ite _ ((link_setClearOut s).trans (link_markDirty _)) (.refl _)
  all_goals exact .refl _

theorem law_takePartReset : AnswerLaw s (takePartReset p s) :=
  law_ite _ (law_refuse _ _) (law_accept (inv_goQuiet s) (.of_kept (link_goQuiet s)) _)

theorem law_takeUnknownKind : AnswerLaw s (takeUnknownKind p s) := law_refuse _ _

end

/-! ### Every kind -/

/-- A rule whose every answer meets the law. -/
def RuleLaw (rule : RequestRule) : Prop := ∀ (p : List Byte) (s : State), AnswerLaw s (rule p s)

/-- The rule of every kind code meets the law of answers. -/
theorem law_ruleOf (kind : Byte) : RuleLaw (ruleOf kind) := by
  unfold ruleOf
  split
  · exact law_takeSubmit
  · exact law_takeAmend
  · exact law_takeCancel
  · exact law_takeRelease
  · exact law_takeOrderQuery
  · exact law_takeOrderList
  · exact law_takePause
  · exact law_takeResume
  · exact law_takeSetClock
  · exact law_takeReadClock
  · exact law_takeMediaDefine
  · exact law_takeMediaQuery
  · exact law_takeRollDeclare
  · exact law_takeFlawMark
  · exact law_takeFlawClear
  · exact law_takeRollQuery
  · exact law_takeTrim
  · exact law_takeAttemptQuery
  · exact law_takeEngineRestart
  · exact law_takeAutoRecoverySet
  · exact law_takeEngineQuery
  · exact law_takeDropSizesSet
  · exact law_takeChannelSet
  · exact law_takeChannelReset
  · exact law_takeCleanRequest
  · exact law_takeSupplyQuery
  · exact law_takeReferenceSet
  · exact law_takeColourLimitsSet
  · exact law_takeColourQuery
  · exact law_takeHistoryQuery
  · exact law_takeHistoryRearm
  · exact law_takeCaptureModeSet
  · exact law_takeColourResume
  · exact law_takeGainsSet
  · exact law_takeCorrectionSet
  · exact law_takeGainsQuery
  · exact law_takeEditionOpen
  · exact law_takeEditionClose
  · exact law_takeEditionRemove
  · exact law_takeEditionQuery
  · exact law_takePricesSet
  · exact law_takePricesQuery
  · exact law_takeAccountQuery
  · exact law_takeAccountClear
  · exact law_takeAccountLoad
  · exact law_takeIdentify
  · exact law_takeStatusQuery
  · exact law_takeNoticeEnable
  · exact law_takeNoticeClear
  · exact law_takeCountersQuery
  · exact law_takeStoreCommit
  · exact law_takePartReset
  · exact law_takeUnknownKind

/-- A request command runs the rule of its kind code (R193). -/
theorem exec_request (c : Instr) (r : Request) (s : State) (h : requestOf c = some r) :
    exec c s = s.runRequest r.kind r.tag r.payload (ruleOf r.kind) := by
  cases c <;> cases h <;> rfl

theorem exec_unknownKind (kind tag : Byte) (p : List Byte) (s : State) :
    exec (.unknownKind kind tag p) s = s.runRequest kind tag p (ruleOf kind) := rfl

end Sys2Proof.Machine

/-! What every step keeps: the four invariants, from the commands down (O56 to O60). -/

namespace Sys2Proof.Machine

/-! ### Invariants of the retained set -/

/-- A property of the retained set that the operations of the blocks keep, that a start keeps of what it loads, and that
the factory defaults have. -/
structure RetainedInvariant (P : Retained → Prop) : Prop where
  kept : ∀ {s t : State}, InvariantsKept s t → P s.retained → P t.retained
  loaded : ∀ (r : Retained) (image : Image) (pending : List Instr) (reads : Nat),
    P r → P (State.loaded r image pending reads).retained
  factory : P Retained.factory

theorem retainedInvariant_accounts : RetainedInvariant Retained.accountsBalanced where
  kept h := h.accounts
  loaded _ _ _ _ h := h
  factory i := by simp [Retained.factory, Account.balanced]

theorem retainedInvariant_gains : RetainedInvariant Retained.gainsInRange where
  kept h := h.gains
  loaded _ _ _ _ h := h
  factory i g h := by simp [Retained.factory] at h

theorem retainedInvariant_measures : RetainedInvariant Retained.measuresInRange where
  kept {s t} h := by
    rw [retained_measuresInRange, retained_measuresInRange]
    exact And.imp h.roll h.ink
  loaded r _ _ _ h := by
    obtain ⟨roll, bays, channels⟩ := h
    exact ⟨roll, bays, fun c => by
      simpa [State.retained, State.loaded, Channel.retained, RetainedChannel.loaded] using channels c⟩
  factory := by
    refine ⟨Nat.zero_le _, fun b => ?_, fun c => ?_⟩
    · simp [Retained.factory, Bay.factory]
    · simp [Retained.factory, RetainedChannel.factory]

/-- What every step keeps. -/
structure StepKept (s t : State) : Prop where
  counted : EngineCounted s → EngineCounted t
  retained : ∀ P, RetainedInvariant P → RetainedAll P s → RetainedAll P t
  link : LinkBounded s → LinkBounded t

theorem StepKept.refl (s : State) : StepKept s s := ⟨id, fun _ _ => id, id⟩

theorem StepKept.trans {s t u : State} (h : StepKept s t) (k : StepKept t u) : StepKept s u :=
  ⟨fun x => k.counted (h.counted x), fun P i x => k.retained P i (h.retained P i x), fun x => k.link (h.link x)⟩

theorem step_ite {s t u : State} (c : Prop) [Decidable c] (h : StepKept s t) (k : StepKept s u) :
    StepKept s (if c then t else u) := by split <;> assumption

/-- An operation of the blocks, under which no write begins or ends. -/
theorem StepKept.of_inv {s t : State} (h : InvariantsKept s t) (k : LinkBounded s → LinkBounded t) : StepKept s t := by
  refine ⟨h.engine, fun P i ⟨use, image, writing⟩ => ⟨i.kept h use, ?_, ?_⟩, k⟩
  · rw [h.image]; exact image
  · rw [h.writing]; exact writing

theorem StepKept.of_link {s t : State} (h : InvariantsKept s t) (k : LinkKept s t) : StepKept s t :=
  .of_inv h k.bounded

/-- The link is bounded by its own blocks alone. -/
theorem bounded_of_same {s t : State} (hs : t.server = s.server) (hn : t.notices = s.notices) (h : LinkBounded s) :
    LinkBounded t := (LinkKept.of_same s t hs hn).bounded h

/-! ### The transmit queue (R196, R203, R205) -/

/-- A reply joins a queue that has room for it. -/
theorem bounded_queue_reply (s : State) (tag kind : Byte) (status : Status) (fields : List Byte) (h : LinkBounded s)
    (room : replyCount s.server.tx < 4) :
    LinkBounded (s.setServer { s.server with tx := s.server.tx ++ [.reply tag kind status fields] }) := by
  obtain ⟨held, -, notice, busy, going, owed⟩ := h
  refine ⟨held, ?_, ?_, fun _ => by simp, ?_, owed⟩
  · simpa [replyCount_append, replyCount] using room
  · show noticeCount (s.server.tx ++ [_]) = _
    rw [noticeCount_append, notice]
    rfl
  · rw [State.setServer_notices, ← going]
    cases hx : s.server.tx with
    | nil => simp
    | cons f l => simp

/-- The transmitter starts on a queue that no NOTICE is going out of. -/
theorem bounded_startFrom (l : List TxFrame) : ∀ s : State, s.server.holding.length ≤ 4 → replyCount l ≤ 4 →
    noticeCount l = (if s.notices.place = .none then 0 else 1) → s.notices.place ≠ .sending → s.notices.owed = false →
    LinkBounded (s.startFrom l) := by
  induction l with
  | nil =>
    intro s held replies notice going owed
    exact ⟨held, replies, notice, nofun, by simpa [State.startFrom] using going, by simp [State.startFrom, owed]⟩
  | cons f rest ih =>
    intro s held replies notice going owed
    cases f with
    | reply tag kind status fields =>
      exact ⟨held, replies, notice, by simp [State.startFrom], by simpa [State.startFrom] using going,
        by simp [State.startFrom, owed]⟩
    | notice =>
      have place : s.notices.place ≠ .none := by
        intro none
        simp [noticeCount, none] at notice
      have alone : noticeCount rest = 0 := by simpa [noticeCount, place] using notice
      simp only [State.startFrom]
      split
      · exact ih (s.setNotices { s.notices with place := .none }) held replies (by simpa using alone) nofun owed
      · exact ⟨held, replies, by simp [noticeCount, alone], by simp, by simp, by simp⟩

theorem bounded_kick (s : State) (h : LinkBounded s) : LinkBounded s.kick := by
  unfold State.kick
  split
  · exact h
  · next free =>
    obtain ⟨held, replies, notice, -, going, owed⟩ := h
    have idle : s.server.sending.isSome = false := by
      simp only [Bool.or_eq_true, not_or] at free
      simpa using free.2
    have place : s.notices.place ≠ .sending := fun x => by
      have := (going.2 x).1
      simp [idle] at this
    exact bounded_startFrom _ s held replies notice place (by simpa using fun x => place (owed x))

theorem bounded_beginWrite (s : State) (h : LinkBounded s) : LinkBounded s.beginWrite :=
  bounded_of_same ((keeps_beginWrite s).at .server) ((keeps_beginWrite s).at .notices) h

/-- The frame that has left makes room, and a notice owed takes the place of the NOTICE that has left (R205). -/
theorem bounded_finishSending (s : State) (h : LinkBounded s) : LinkBounded s.finishSending := by
  unfold State.finishSending
  split
  · next bytes f rest sending tx =>
    obtain ⟨held, replies, notice, -, going, owed⟩ := h
    rw [tx] at replies notice going
    cases f with
    | notice =>
      have place : s.notices.place = .sending := going.1 ⟨by simp [sending], rfl⟩
      have alone : noticeCount rest = 0 := by simpa [noticeCount, place] using notice
      have few : replyCount rest ≤ 4 := replies
      simp only [State.frameSent, State.noticeSent]
      split
      · exact ⟨held, by simpa [replyCount_append, replyCount] using few,
          by simp [noticeCount_append, noticeCount, alone], by simp, by simp, by simp⟩
      · next notOwed =>
        refine ⟨held, few, by simp [alone], by simp, by simp, fun x => absurd x notOwed⟩
    | reply tag kind status fields =>
      have place : s.notices.place ≠ .sending := fun x => by simpa using (going.2 x).2
      have few : replyCount rest ≤ 4 := by simp only [replyCount] at replies; omega
      have left : LinkBounded (s.setServer { s.server with tx := rest, sending := none }) :=
        ⟨held, few, notice, by simp, by simpa using place, fun x => absurd (owed x) place⟩
      simp only [State.frameSent]
      split
      · exact bounded_of_same rfl rfl left
      · exact left
  · exact h

/-! ### The end of a step -/

theorem step_kick (s : State) : StepKept s s.kick := .of_inv (.of_keeps (keeps_kick s)) (bounded_kick s)

/-- A write copies the retained set as it stands, so what holds of the set in use holds of the image being written. -/
theorem step_beginWrite (s : State) : StepKept s s.beginWrite := by
  have engine : s.beginWrite.engine = s.engine := (keeps_beginWrite s).at .engine
  refine ⟨by unfold EngineCounted; rw [engine]; exact id, fun P _ ⟨use, image, writing⟩ => ?_, bounded_beginWrite s⟩
  refine ⟨by rw [beginWrite_retained]; exact use, ?_, ?_⟩
  · rw [(beginWrite_record s).1]; exact image
  · unfold State.beginWrite
    split
    · intro r h
      exact Option.some.inj h ▸ use
    · exact writing

theorem step_closeStep (s : State) : StepKept s s.closeStep := (step_kick s).trans (step_beginWrite _)

/-! ### Requests (R191 to R194) -/

theorem step_takeRequest (s : State) (f : Frame) (rule : RequestRule) (law : RuleLaw rule)
    (room : replyCount s.server.tx < 4) : StepKept s (s.takeRequest f rule) := by
  obtain ⟨kept, link, -⟩ := law f.payload s.countTaken
  have counted : LinkHeld s s.countTaken := held_setServerCounters s _
  refine .of_inv (((inv_setServer s _).trans kept).trans (inv_setServer _ _)) fun h => ?_
  refine bounded_queue_reply _ _ _ _ _ (link.bounded (counted.bounded h)) ?_
  rw [link.replies, counted.replies]
  exact room

theorem takesRequests_room {s : State} (h : s.takesRequests = true) : replyCount s.server.tx < 4 := by
  simp [State.takesRequests] at h
  exact h.2

theorem step_setHolding (s : State) (l : List Frame) (h : LinkBounded s → l.length ≤ 4) :
    StepKept s (s.setServer { s.server with holding := l }) :=
  .of_inv (inv_setServer s _) fun b => by
    obtain ⟨-, rest⟩ := id b
    exact ⟨h b, rest⟩

theorem step_drain (rules : Byte → RequestRule) (law : ∀ kind, RuleLaw (rules kind)) (fuel : Nat) :
    ∀ s : State, StepKept s (State.drain rules fuel s) := by
  induction fuel with
  | zero => exact fun s => .refl s
  | succ fuel ih =>
    intro s
    unfold State.drain
    split
    · exact .refl s
    · next f rest holding =>
      split
      · next room =>
        have shorter : StepKept s (s.setServer { s.server with holding := rest }) :=
          step_setHolding s rest fun b => by
            have held := b.1
            rw [holding, List.length_cons] at held
            omega
        exact (shorter.trans (step_takeRequest _ f _ (law f.kind) (takesRequests_room room))).trans (ih _)
      · exact .refl s

theorem step_countServer (s : State) (c : ServerCounters) : StepKept s (s.setServerCounters c) :=
  .of_inv (inv_setServer s _) (held_setServerCounters s c).bounded

theorem step_receiveFrame (s : State) (f : Frame) (kind : Byte) : StepKept s (s.receiveFrame ruleOf f (ruleOf kind)) := by
  unfold State.receiveFrame
  split
  · next free => exact step_takeRequest s f _ (law_ruleOf kind) (takesRequests_room free.2)
  · refine StepKept.trans ?_ (step_drain ruleOf law_ruleOf 4 _)
    unfold State.hold
    split
    · next room => exact step_setHolding s _ fun _ => by simpa using room
    · exact step_countServer s _

theorem step_transmitComplete (s : State) : StepKept s (s.transmitComplete ruleOf) := by
  have finished : StepKept s s.finishSending := by
    refine .of_inv ?_ (bounded_finishSending s)
    unfold State.finishSending
    split
    · next f rest _ _ =>
      refine (inv_setServer s { s.server with tx := rest, sending := none }).trans ?_
      cases f with
      | notice => exact inv_ite _ ((inv_setServer _ _).trans (inv_setNotices _ _)) (inv_setNotices _ _)
      | reply tag kind status fields => exact inv_ite _ (inv_setQuiet _ _) (.refl _)
    · exact .refl s
  unfold State.transmitComplete
  split
  · exact .refl s
  · exact (finished.trans (step_kick _)).trans (step_drain ruleOf law_ruleOf 4 _)

/-! ### Bytes (R187 to R190) -/

theorem step_setReceiver (s : State) (link : Link) (r : Receiver) : StepKept s (s.setReceiver link r) := by
  cases link with
  | server => exact .of_inv (inv_setServer s _) fun b => b
  | engine => exact .of_link (inv_setEngine_same s { s.engine with receiver := r } rfl rfl) (link_setEngine s _)

theorem step_badFrame (s : State) : StepKept s s.badFrame := .of_link (inv_badFrame s) (link_badFrame s)

theorem link_whenWorking (s : State) (f : State → State) (h : LinkKept s (f s)) : LinkKept s (s.whenWorking f) :=
  link_ite _ h (.refl _)

theorem link_engineFrame (s : State) (f : Frame) : LinkKept s (s.engineFrame f) := by
  unfold State.engineFrame
  dsimp only
  split
  case h_10 => exact link_whenWorking s _ ((link_takeLevels s _).trans (link_serveSlot _))
  case h_11 => exact link_whenWorking s _ ((link_takeBayEvent s _ _ _ _ _).trans (link_serveSlot _))
  case h_12 => exact link_whenWorking s _ (link_takeRollEvent s _)
  case h_13 => exact link_whenWorking s _ (link_takeCoverEvent s _)
  case h_14 => exact link_badFrame s
  all_goals exact link_takeReport s _ _

theorem step_discard (s : State) (link : Link) : StepKept s (s.discard link) := by
  refine (step_setReceiver s link Receiver.idle).trans ?_
  cases link with
  | server => exact step_countServer _ _
  | engine => exact step_badFrame _

theorem step_judge (s : State) (link : Link) (bytes : List Byte) : StepKept s (s.judge link bytes) := by
  cases link with
  | server => exact step_ite _ (step_receiveFrame s _ _) (step_countServer s _)
  | engine => exact step_ite _ (.of_link (inv_engineFrame s _) (link_engineFrame s _)) (step_badFrame s)

theorem step_receiveByte (s : State) (link : Link) (b : Byte) : StepKept s (s.receiveByte link b) :=
  step_ite _ (step_ite _ (step_setReceiver s _ _) (.refl s))
    (step_ite _ (step_discard s link)
      (step_ite _ ((step_setReceiver s _ _).trans (step_judge _ _ _)) (step_setReceiver s _ _)))

theorem step_dropFrame (s : State) (link : Link) : StepKept s (s.dropFrame link) :=
  step_ite _ (.refl s) (step_discard s link)

/-! ### The store, reset and power (R214, R217, R218, R220) -/

/-- A write that ends well makes the image that was being written the image held. -/
theorem step_storeWriteEnd (s : State) (result : WriteResult) : StepKept s (s.storeWriteEnd result) := by
  unfold State.storeWriteEnd
  split
  · exact .refl s
  · next copy writing =>
    cases result with
    | written =>
      refine ⟨id, fun P _ ⟨use, _, inFlight⟩ => ⟨use, fun r h => ?_, nofun⟩, fun b => bounded_of_same rfl rfl b⟩
      exact Image.intact.inj h ▸ inFlight copy writing
    | failed imageKept =>
      have failed : StepKept s (s.setStore { s.store with
          image := if imageKept then s.store.image else .lost, writing := none, dirty := true,
          failedWrites := satAdd 255 s.store.failedWrites 1, event := .storeFault, lastFailed := true }) := by
        refine ⟨id, fun P _ ⟨use, image, _⟩ => ⟨use, fun r h => ?_, nofun⟩, fun b => bounded_of_same rfl rfl b⟩
        cases imageKept with
        | true => exact image r h
        | false => exact absurd h (by simp)
      exact failed.trans (.of_link (inv_raise _ _) (link_raise _ _))

theorem loaded_sound (r : Retained) (image : Image) (pending : List Instr) (reads : Nat) :
    EngineCounted (State.loaded r image pending reads) ∧ LinkBounded (State.loaded r image pending reads) :=
  ⟨⟨Nat.zero_le _, .inl rfl⟩, by simp [LinkBounded, State.loaded, replyCount, noticeCount]⟩

theorem loaded_retainedAll {P : Retained → Prop} (i : RetainedInvariant P) (r : Retained) (image : Image)
    (pending : List Instr) (reads : Nat) (h : P r) (hi : ∀ x, image = .intact x → P x) :
    RetainedAll P (State.loaded r image pending reads) := ⟨i.loaded r image pending reads h, hi, nofun⟩

/-- What is loaded from an image of which the invariants hold meets them itself (R217). -/
theorem step_load (s : State) (image : Image) (pending : List Instr) (reads : Nat)
    (h : ∀ P, RetainedInvariant P → RetainedAll P s → ∀ r, image = .intact r → P r) :
    StepKept s (State.load image pending reads) := by
  cases image with
  | intact r =>
    have ⟨counted, link⟩ := loaded_sound r (.intact r) pending reads
    exact ⟨fun _ => counted, fun P i x => loaded_retainedAll i r _ _ _ (h P i x r rfl) (h P i x), fun _ => link⟩
  | lost =>
    have ⟨counted, link⟩ := loaded_sound Retained.factory .lost pending reads
    have loaded : StepKept s (State.loaded Retained.factory .lost pending reads) :=
      ⟨fun _ => counted, fun P i _ => loaded_retainedAll i _ _ _ _ i.factory nofun, fun _ => link⟩
    have marked (u : State) : StepKept u (u.setStore { u.store with event := .storeLost, dirty := true }) :=
      .of_link ⟨rfl, rfl, id, id, id, id, id⟩ (link_setStore u _)
    exact (loaded.trans (marked _)).trans (.of_link (inv_raise _ _) (link_raise _ _))

theorem step_settle (s : State) : StepKept s s.settle := by
  have cleared : InvariantsKept s (s.setRoll { s.media.roll with clearOutPending := true }) := inv_setRoll s _ id
  exact .of_link (inv_ite _ (cleared.trans (inv_writeUncut _ _)) (.refl s)).served
    (link_ite _ ((link_setRoll s _).trans (link_writeUncut _ _)) (.refl s)).served

/-- Cutting the power leaves the image, or none that is intact (R214). -/
theorem cutOff_intact {r : RetainedStore} {x : Retained} (h : r.cutOff = .intact x) : r.image = .intact x := by
  unfold RetainedStore.cutOff at h
  split at h
  · exact absurd h (by simp)
  · exact h

theorem step_powerUp (s : State) (memoryKept : Bool) : StepKept s (s.powerUp memoryKept) := by
  refine (step_load s _ _ _ fun P _ x r h => x.2.1 r ?_).trans (step_settle _)
  cases memoryKept with
  | true => exact cutOff_intact h
  | false => exact absurd h (by simp)

theorem step_powerLoss (s : State) : StepKept s s.powerLoss := by
  have ⟨counted, link⟩ := loaded_sound Retained.factory s.store.cutOff s.pending s.freeReads
  refine ⟨fun _ => counted, fun P i x => ?_, fun _ => link⟩
  exact loaded_retainedAll i Retained.factory s.store.cutOff s.pending s.freeReads i.factory
    fun r h => x.2.1 r (cutOff_intact h)

theorem step_softReset (s : State) : StepKept s s.softReset := by
  have fault (u : State) (failed : Bool) : StepKept u (u.faultAtReset failed) := by
    have noted : StepKept u (if u.store.event = .storeLost then u
        else u.setStore { u.store with event := .storeFault }) :=
      step_ite _ (.refl u) (.of_link ⟨rfl, rfl, id, id, id, id, id⟩ (link_setStore u _))
    exact step_ite _ (noted.trans (.of_link (inv_raise _ _) (link_raise _ _))) (.refl u)
  exact step_ite _ (((step_load s s.store.image _ _ fun P _ x => x.2.1).trans (fault _ _)).trans (step_settle _))
    (.refl s)

/-! ### Every command -/

/-- Whatever state an outcome answers, the invariants are kept. -/
def OutcomeKept (s : State) (o : Host.Outcome State Fault Refusal) : Prop := ∀ t, o = .next t → StepKept s t

theorem outcomeKept_next {s t : State} (h : StepKept s t) : OutcomeKept s (.next t) :=
  fun _ e => Host.Outcome.next.inj e ▸ h

/-- A command in a part that has power: what its meaning keeps, the step keeps. -/
theorem outcomeKept_run (s : State) (f : State → State) (h : StepKept s (f s)) : OutcomeKept s (s.run f) :=
  outcomeKept_next (step_ite _ (.refl s) (h.trans (step_closeStep _)))

/-- A command that acts only in a part that works. -/
theorem outcomeKept_whenWorking (s : State) (f : State → State) (i : InvariantsKept s (f s)) (l : LinkKept s (f s)) :
    OutcomeKept s (s.run fun s => s.whenWorking f) :=
  outcomeKept_run s _ (.of_link (inv_whenWorking s f i) (link_whenWorking s f l))

theorem link_dwellSecond (s : State) (due : Attempt → Bool) : LinkKept s (s.dwellSecond due) := by
  unfold State.dwellSecond
  split
  · exact .refl _
  · exact link_ite _ ((link_setAttempt s _).trans (link_serveSlot _)) (.refl _)

theorem link_tick (s : State) : LinkKept s s.tick := link_ite _ (link_setClockTo s _) (link_setOrders s _)

/-- A report command takes its report (R72). -/
theorem exec_report (c : Instr) (tag : Byte) (r : Report) (s : State) (h : reportOf c = some (tag, r)) :
    exec c s = s.run fun s => s.takeReport tag r := by
  cases c <;> cases h <;> rfl

theorem outcomeKept_levels (s : State) (v : Vector Byte 12) : OutcomeKept s (exec (.levels v) s) :=
  outcomeKept_whenWorking s (fun s => (s.takeLevels v).serveSlot) (inv_takeLevels s v).served
    (link_takeLevels s v).served

theorem outcomeKept_bayEvent (s : State) (bay present : Byte) (x : Vector Byte 12) (y : Vector Byte 8) (n : Word32) :
    OutcomeKept s (exec (.bayEvent bay present x y n) s) :=
  outcomeKept_whenWorking s (fun s => (s.takeBayEvent bay present x y n.toNat).serveSlot)
    (inv_takeBayEvent s bay present x y _).served (link_takeBayEvent s bay present x y _).served

/-- Every command keeps the invariants. -/
theorem exec_kept (c : Instr) (s : State) : OutcomeKept s (exec c s) := by
  cases hr : requestOf c with
  | some r =>
    rw [exec_request c r s hr]
    exact outcomeKept_run s _ (step_receiveFrame s _ _)
  | none =>
  cases hp : reportOf c with
  | some x =>
    rw [exec_report c x.1 x.2 s hp]
    exact outcomeKept_run s _ (.of_link (inv_takeReport s _ _) (link_takeReport s _ _))
  | none =>
    cases c
    case unknownKind kind tag p => exact outcomeKept_run s (fun s => s.receiveFrame ..) (step_receiveFrame s _ kind)
    case serverFrameReceived b =>
      exact outcomeKept_run s (fun s => if s.server.receiver.lastByteDue b then s.receiveByte .server b else s)
        (step_ite _ (step_receiveByte s .server b) (.refl s))
    case framingError link => exact outcomeKept_run s (fun s => s.dropFrame link) (step_dropFrame s link)
    case lengthDiscard link b =>
      exact outcomeKept_run s (fun s => if (s.receiver link).overlong b then s.receiveByte link b else s)
        (step_ite _ (step_receiveByte s link b) (.refl s))
    case interByteGapTimeout link =>
      exact outcomeKept_run s (fun s => s.whenWorking fun s => s.dropFrame link)
        (step_ite _ (step_dropFrame s link) (.refl s))
    case transmitComplete => exact outcomeKept_run s (fun s => s.transmitComplete ruleOf) (step_transmitComplete s)
    case engineBadFrame => exact outcomeKept_run s State.badFrame (step_badFrame s)
    case levels v => exact outcomeKept_levels s v
    case bayEvent bay present x y n => exact outcomeKept_bayEvent s bay present x y n
    case rollEvent b =>
      exact outcomeKept_whenWorking s (fun s => s.takeRollEvent b) (inv_takeRollEvent s b) (link_takeRollEvent s b)
    case coverEvent b =>
      exact outcomeKept_whenWorking s (fun s => s.takeCoverEvent b) (inv_takeCoverEvent s b) (link_takeCoverEvent s b)
    case engineCommandTimeout =>
      exact outcomeKept_run s State.takeTimeout (.of_link (inv_takeTimeout s) (link_takeTimeout s))
    case probeInterval =>
      exact outcomeKept_run s State.probeInterval (.of_link (inv_probeInterval s) (link_probeInterval s))
    case dwellSecond =>
      exact outcomeKept_whenWorking s (fun s => s.dwellSecond fun _ => true) (inv_dwellSecond s _)
        (link_dwellSecond s _)
    case dwellEnd =>
      exact outcomeKept_whenWorking s (fun s => s.dwellSecond fun a => decide (a.dwellRemaining ≤ 1))
        (inv_dwellSecond s _) (link_dwellSecond s _)
    case refillTimeout c =>
      exact outcomeKept_whenWorking s (fun s => (s.refillTimeout c).serveSlot) (inv_refillTimeout s c).served
        (link_refillTimeout s c).served
    case refillElapsedSecond c =>
      exact outcomeKept_whenWorking s (fun s => (s.refillSecond c).serveSlot) (inv_refillSecond s c).served
        (link_refillSecond s c).served
    case clockTick => exact outcomeKept_run s State.tick (.of_link (inv_tick s) (link_tick s))
    case storeWriteEnd result => exact outcomeKept_run s (fun s => s.storeWriteEnd result) (step_storeWriteEnd s result)
    case softReset => exact outcomeKept_run s State.softReset (step_softReset s)
    case powerUp kept => exact outcomeKept_next ((step_powerUp s kept).trans (step_closeStep _))
    case powerLoss => exact outcomeKept_next (step_powerLoss s)
    case byteReceived link b => exact outcomeKept_run s (fun s => s.receiveByte link b) (step_receiveByte s link b)
    all_goals simp [requestOf, reportOf] at hr hp

/-- Every step keeps the invariants: it idles, or runs the command at the front. -/
theorem step_kept (s t : State) (ht : step s = .next t) : StepKept s t := by
  unfold step at ht
  split at ht
  · exact Host.Outcome.next.inj ht ▸ .refl s
  · next c rest _ =>
    have popped : StepKept s (s.setPending rest) :=
      .of_link ⟨rfl, rfl, id, id, id, id, id⟩ (.of_same _ _ rfl rfl)
    exact popped.trans (exec_kept c _ t ht)

/-- Settles O56: no operation writes the count but with the state that it decides. -/
theorem engineStateFollowsCount : Obligations.EngineStateFollowsCount :=
  fun s t h ht => (step_kept s t ht).counted h

/-- Settles O57: triggers, sending and the taking of requests each keep the queues bounded. -/
theorem linkQueuesStayBounded : Obligations.LinkQueuesStayBounded :=
  fun s t h ht => (step_kept s t ht).link h

/-- Settles O58: an account is written by a posting, a load or a clear, and copied with the retained set. -/
theorem accountTotalsStayBalanced : Obligations.AccountTotalsStayBalanced :=
  fun s t h ht => (step_kept s t ht).retained _ retainedInvariant_accounts h

/-- Settles O59: every gain set written lies in range, and no write lets a position, a bay or a reserve pass its bound. -/
theorem gainsAndMeasuresStayInRange : Obligations.GainsAndMeasuresStayInRange :=
  ⟨fun s t h ht => (step_kept s t ht).retained _ retainedInvariant_gains h,
    fun s t h ht => (step_kept s t ht).retained _ retainedInvariant_measures h⟩

theorem retainedAll_reset {P : Retained → Prop} (i : RetainedInvariant P) : RetainedAll P State.reset :=
  loaded_retainedAll i Retained.factory (.intact Retained.factory) [] 0 i.factory
    fun _ h => Image.intact.inj h ▸ i.factory

/-- Settles O60: the reset state is a load of the factory defaults. -/
theorem invariantsHoldAtReset : Obligations.InvariantsHoldAtReset :=
  ⟨⟨Nat.zero_le _, .inl rfl⟩, (loaded_sound Retained.factory (.intact Retained.factory) [] 0).2,
    retainedAll_reset retainedInvariant_accounts, retainedAll_reset retainedInvariant_gains,
    retainedAll_reset retainedInvariant_measures⟩

end Sys2Proof.Machine

/-! The queue, the reset state, power-up and power loss (O1 to O4; R214, R217, R218, R221). -/

namespace Sys2Proof.Machine

/-- Settles O1, by the equation of step on a queue that is not empty. -/
theorem stepRunsFrontCommand : Obligations.StepRunsFrontCommand := by
  intro c rest s h
  unfold step
  rw [h]
  rfl

/-- The frame of ENGINE_RESET with tag 0, CRC included (R185, R186). -/
theorem resetFrame_eq : EngineCommand.engineReset.frame 0 = frameBytes 0xA6 0 [] := rfl

theorem firstResetFrame_eq : firstResetFrame = frameBytes 0xA6 0 [] := by decide +kernel

/-- Settles O2, field by field: State.reset is written out, but for the CRC of its outstanding frame. -/
theorem resetHoldsResetValues : Obligations.ResetHoldsResetValues := by
  unfold Obligations.ResetHoldsResetValues
  rw [← firstResetFrame_eq]
  repeat' apply And.intro
  all_goals rfl

/-! ### Power loss (R221) -/

/-- A part held in reset takes no command but POWER_UP and POWER_LOSS (R217, R221). -/
theorem exec_held (c : Instr) (s : State) (h : s.held = true) (loss : c ≠ .powerLoss) (up : ∀ b, c ≠ .powerUp b) :
    exec c s = .next s := by
  cases c with
  | powerLoss => exact absurd rfl loss
  | powerUp b => exact absurd rfl (up b)
  | _ => exact congrArg Host.Outcome.next (if_pos h)

/-- Settles O4, by the state that power loss leaves and the law of a held part. -/
theorem powerLossKeepsOnlyTheImage : Obligations.PowerLossKeepsOnlyTheImage := by
  refine ⟨fun s => ⟨s.powerLoss, rfl, rfl, rfl, ?_, rfl, rfl, rfl, rfl, rfl, rfl⟩, exec_held⟩
  show s.store.cutOff = _
  unfold RetainedStore.cutOff
  cases s.store.writing <;> rfl

/-! ### The start (R217, R218) -/

/-- What a start goes on from: the reset values over a loaded set, what the store then holds, and SYSTEM raised or not. -/
def State.startOver (r : Retained) (image : Image) (pending : List Instr) (reads : Nat) (st : RetainedStore)
    (raised : Bool) : State :=
  ((State.loaded r image pending reads).setStore st).raiseIf raised .system

/-- The store with nothing written yet, over an image (R217). -/
def RetainedStore.fresh (image : Image) (event : StoreEvent) (dirty : Bool) : RetainedStore :=
  { image := image, dirty := dirty, writing := none, event := event, failedWrites := 0, lastWrite := none,
    lastFailed := false }

theorem load_intact (r : Retained) (pending : List Instr) (reads : Nat) :
    State.load (.intact r) pending reads =
      State.startOver r (.intact r) pending reads (.fresh (.intact r) .none false) false := rfl

theorem load_lost (pending : List Instr) (reads : Nat) :
    State.load .lost pending reads =
      State.startOver Retained.factory .lost pending reads (.fresh .lost .storeLost true) true := rfl

/-- Step 1 of R218: an uncut marker found set becomes a clear-out, and the store is marked. -/
def State.markerCleared (s : State) : State :=
  { s with
    uncut := false
    media := { s.media with roll :=
      if s.uncut then { s.media.roll with clearOutPending := true } else s.media.roll }
    store := { s.store with dirty := s.store.dirty || s.uncut } }

theorem settle_eq_serveSlot (s : State) : s.settle = s.markerCleared.serveSlot := by
  have same : (if s.uncut then (s.setRoll { s.media.roll with clearOutPending := true }).writeUncut false else s) =
      s.markerCleared := by
    cases hu : s.uncut with
    | false =>
      obtain ⟨⟩ := s
      cases hu
      simp [State.markerCleared]
    | true =>
      simp only [if_true, State.setRoll, State.writeUncut, State.markDirtyIf, State.markerCleared]
      split <;> simp [State.markDirty, State.setUncut, State.setMedia, State.setStore, hu]
  unfold State.settle
  rw [same]

/-- Step 5 of R218 in a part that has just been loaded: the arbiter issues ENGINE_RESET. -/
theorem settle_eq_issue (s : State) (hq : s.quiet = none) (ho : s.engine.outstanding = none) (hh : s.holder = .idle)
    (hs : s.engine.state = .starting) : s.settle = s.markerCleared.issue .engineReset .startUp := by
  rw [settle_eq_serveSlot]
  simp [State.serveSlot, State.offer, State.working, State.markerCleared, hq, ho, hh, hs]

/-- The NOTICE unit of a start: every category enabled, and SYSTEM pending when it was raised (R207). -/
def NoticeUnit.atStart (raised : Bool) (place : NoticePlace) : NoticeUnit :=
  { pending := if raised then 128 else 0, enabled := 255, place := if raised then place else .none, owed := false }

/-- The server link of a start: nothing but the NOTICE that announces SYSTEM (R200). -/
def ServerLink.atStart (raised : Bool) (sending : Option (List Byte)) : ServerLink :=
  { receiver := Receiver.idle, holding := [], tx := if raised then [.notice] else [],
    sending := if raised then sending else none, counters := {} }

theorem startOver_eq (r : Retained) (image : Image) (pending : List Instr) (reads : Nat) (st : RetainedStore)
    (raised : Bool) : State.startOver r image pending reads st raised =
      { State.loaded r image pending reads with
        store := st, notices := .atStart raised .awaiting, server := .atStart raised none } := by
  cases raised with
  | false => rfl
  | true =>
    have trigger : (!Category.system.isIn 0#8 && Category.system.isIn 255#8) = true := by decide
    have pended : (0#8 ||| Category.system.mask) = 128#8 := by decide
    simp [State.startOver, State.raiseIf, State.raise, State.loaded, State.setStore, State.setNotices, State.trigger,
      State.setServer, trigger, pended, NoticeUnit.atStart, ServerLink.atStart]

/-- A start before its write begins: ENGINE_RESET is issued, and the NOTICE of SYSTEM is going out when it was raised. -/
def State.afterStart (r : Retained) (image : Image) (pending : List Instr) (reads : Nat) (st : RetainedStore)
    (raised : Bool) : State :=
  (({ State.loaded r image pending reads with
      store := st, notices := .atStart raised .sending
      server := .atStart raised (some (frameBytes 0x81 0 [128, 0, 0, 0, 0])) } : State).markerCleared).issue
    .engineReset .startUp

theorem startOver_closed (r : Retained) (image : Image) (pending : List Instr) (reads : Nat) (st : RetainedStore)
    (raised : Bool) : (State.startOver r image pending reads st raised).settle.closeStep =
      (State.afterStart r image pending reads st raised).beginWrite := by
  rw [startOver_eq, settle_eq_issue _ rfl rfl rfl rfl]
  unfold State.closeStep State.afterStart
  congr 1
  cases raised with
  | false => rfl
  | true =>
    have payload : noticePayload 128#8 0#32 = [128#8, 0#8, 0#8, 0#8, 0#8] := by decide
    simp [State.kick, State.silent, State.startFrom, State.issue, State.setEngine, State.markerCleared, State.loaded,
      NoticeUnit.atStart, ServerLink.atStart, State.setServer, State.setNotices, State.clock, payload]

/-- The write that begins outside the quiet time when none is in flight (R213). -/
theorem beginWrite_idle (s : State) (hq : s.quiet = none) (hw : s.store.writing = none) :
    s.beginWrite = { s with store := { s.store with
      dirty := false, writing := if s.store.dirty then some s.retained else none } } := by
  obtain ⟨⟩ := s
  cases hq
  rename_i store _
  obtain ⟨_, dirty, _, _, _, _, _⟩ := store
  cases hw
  cases dirty <;> rfl

/-- What every start leaves: the reset values, what it loaded, and the store with the write it began. -/
theorem startOver_answers (s : State) (r : Retained) (image : Image) (st : RetainedStore) (raised : Bool)
    (idle : st.writing = none) :
    let t := (State.startOver r image s.pending s.freeReads st raised).settle.closeStep
    StartedUp s t ∧ LoadedFrom r t ∧ t.notices = .atStart raised .sending ∧
      t.server = .atStart raised (some (frameBytes 0x81 0 [128, 0, 0, 0, 0])) ∧
      t.store = { st with dirty := false, writing := if st.dirty || r.uncut then some t.retained else none } := by
  intro t
  have ht : t = _ := (startOver_closed r image s.pending s.freeReads st raised).trans (beginWrite_idle _ rfl idle)
  rw [ht]
  refine ⟨⟨rfl, rfl, rfl, rfl, rfl, rfl, rfl, rfl, rfl, rfl, ?_, ?_⟩,
    ⟨rfl, rfl, rfl, rfl, rfl, rfl, rfl, rfl, rfl, fun c => ?_, fun g => ?_⟩, rfl, rfl, rfl⟩
  · cases raised <;> rfl
  · cases raised <;> rfl
  · simp [State.afterStart, State.issue, State.setEngine, State.markerCleared, State.loaded, RetainedChannel.loaded]
  · simp only [State.afterStart, State.issue, State.setEngine, State.markerCleared, State.loaded, CheckState.fresh,
      Fin.getElem_fin, Vector.getElem_ofFn]
    cases r.gainSets[g.val] with
    | none => rfl
    | some x => cases h : x.captureMode <;> simp [CaptureMode.startStatus, h]

/-- A start over the factory defaults begins with them retained. -/
theorem startOver_factory_retained (image : Image) (pending : List Instr) (reads : Nat) (st : RetainedStore)
    (raised : Bool) :
    (State.startOver Retained.factory image pending reads st raised).settle.closeStep.retained = Retained.factory := by
  rw [startOver_closed, beginWrite_retained]
  have channels : (Vector.ofFn fun c : Fin 12 => ((Vector.ofFn fun c : Fin 12 =>
      Retained.factory.channels[c].loaded)[c]).retained) = Retained.factory.channels := by
    ext c hc : 1
    simp [Retained.factory, RetainedChannel.factory, RetainedChannel.loaded, Channel.retained]
  exact congrArg (fun v => { Retained.factory with channels := v }) channels

/-! ### Power-up -/

/-- Settles O3: POWER_UP starts over what the memory holds. -/
theorem powerUpLoadsTheImage : Obligations.PowerUpLoadsTheImage := by
  refine ⟨fun s r intact idle => ?_, fun s memoryKept lost => ?_⟩
  · have loads : (s.powerUp true).closeStep = (State.startOver r (.intact r) s.pending s.freeReads
        (.fresh (.intact r) .none false) false).settle.closeStep := by
      simp [State.powerUp, RetainedStore.cutOff, intact, idle, load_intact]
    obtain ⟨started, loaded, notices, -, store⟩ :=
      startOver_answers s r (.intact r) (.fresh (.intact r) .none false) false rfl
    rw [← loads] at started loaded notices store
    refine ⟨_, rfl, started, loaded, by rw [notices]; rfl, store⟩
  · have image : (if memoryKept then s.store.cutOff else .lost) = Image.lost := by
      unfold RetainedStore.cutOff
      rcases lost with h | h | h
      · simp [h]
      · simp [h]
      · simp [Option.isSome_iff_ne_none.mpr h]
    have loads : (s.powerUp memoryKept).closeStep = (State.startOver Retained.factory .lost s.pending s.freeReads
        (.fresh .lost .storeLost true) true).settle.closeStep := by
      simp only [State.powerUp, image, load_lost]
    obtain ⟨started, loaded, notices, server, store⟩ :=
      startOver_answers s Retained.factory .lost (.fresh .lost .storeLost true) true rfl
    rw [← loads] at started loaded notices server store
    refine ⟨_, rfl, started, loaded, by rw [notices]; rfl, by rw [notices]; rfl, by rw [server]; rfl,
      by rw [server]; rfl, store.trans ?_⟩
    rw [loads, startOver_factory_retained]
    rfl

end Sys2Proof.Machine

/-! PART_RESET, the quiet time and the soft reset (O5; R220). -/

namespace Sys2Proof.Machine

/-! ### The write that closes a step -/

/-- A write is due at the end of a step (R213, R220 step 4). -/
def State.writeDue (s : State) : Bool := s.store.dirty && s.store.writing.isNone && s.mayWrite

theorem beginWrite_eq (s : State) : s.beginWrite = if s.writeDue then
    { s with store := { s.store with dirty := false, writing := some s.retained }
             quiet := s.quiet.map fun q => { q with writesLeft := q.writesLeft - 1 } }
    else s := rfl

theorem kick_writeDue (s : State) : s.kick.writeDue = s.writeDue := by
  have k := keeps_kick s
  have store : s.kick.store = s.store := k.at .store
  have quiet : s.kick.quiet = s.quiet := k.at .quiet
  simp only [State.writeDue, State.mayWrite, store, quiet]

theorem closeStep_store (s : State) : s.closeStep.store = if s.writeDue then
    { s.store with dirty := false, writing := some s.retained } else s.store := by
  have store : s.kick.store = s.store := (keeps_kick s).at .store
  unfold State.closeStep
  rw [beginWrite_eq, kick_writeDue, kick_retained]
  split
  · simp [store]
  · exact store

theorem closeStep_quiet (s : State) : s.closeStep.quiet = if s.writeDue then
    s.quiet.map fun q => { q with writesLeft := q.writesLeft - 1 } else s.quiet := by
  have quiet : s.kick.quiet = s.quiet := (keeps_kick s).at .quiet
  unfold State.closeStep
  rw [beginWrite_eq, kick_writeDue]
  split
  · simp [quiet]
  · exact quiet

theorem closeStep_retained (s : State) : s.closeStep.retained = s.retained :=
  (beginWrite_retained _).trans (kick_retained s)

theorem closeStep_notices_kept (s : State) : NoticesKept s s.closeStep := (closeStep_link s).2.2.2.1

/-! ### PART_RESET (R220 steps 1 to 3) -/

/-- Whether the store is marked by PART_RESET outright: for an attempt, and for a trim that had fed. -/
def Holder.marksAtReset : Holder → Bool
  | .attempt _ => true
  | .trim k => decide (0 < k.pulses.getD 0)
  | _ => false

/-- The clear-out that PART_RESET decides. -/
def State.clearOutAtReset (s : State) : Bool :=
  match s.holder with
  | .attempt _ => s.media.roll.clearOutPending || (s.uncut && s.media.roll.declared)
  | .trim k => s.media.roll.clearOutPending || (decide (0 < k.pulses.getD 0) && s.media.roll.declared)
  | _ => s.media.roll.clearOutPending

/-- What PART_RESET leaves of the part before its reply is queued. -/
theorem goQuiet_eq (s : State) : s.goQuiet = { s with
    holder := .idle
    engine := { s.engine with outstanding := none }
    uncut := match s.holder with | .attempt _ => false | _ => s.uncut
    media := { s.media with roll := { s.media.roll with clearOutPending := s.clearOutAtReset } }
    quiet := some { replySent := false, writesLeft := 3 }
    store := { s.store with dirty := s.store.dirty || s.holder.marksAtReset } } := by
  obtain ⟨_, _, _, _, holder, uncut, _, media, _, _, _, _, _, _, store, _⟩ := s
  obtain ⟨_, _, roll, _⟩ := media
  obtain ⟨declared, _, _, _, _, _, out⟩ := roll
  cases holder with
  | attempt a =>
    cases uncut <;> cases declared <;> cases out <;>
      simp [State.goQuiet, State.setClearOut, State.setRoll, State.writeUncut, State.markDirtyIf, State.markDirty,
        State.setUncut, State.setMedia, State.setStore, State.freeSlot, State.setEngine, State.setHolder,
        State.setQuiet, Holder.marksAtReset, State.clearOutAtReset]
  | trim k =>
    by_cases fed : 0 < k.pulses.getD 0 <;> cases declared <;> cases out <;>
      simp [State.goQuiet, State.setClearOut, State.setRoll, State.markDirtyIf, State.markDirty, fed,
        State.setMedia, State.setStore, State.freeSlot, State.setEngine, State.setHolder,
        State.setQuiet, Holder.marksAtReset, State.clearOutAtReset]
  | _ => simp [State.goQuiet, State.freeSlot, State.setEngine, State.setHolder, State.setQuiet, Holder.marksAtReset,
      State.clearOutAtReset]

theorem exec_partReset (tag : Byte) (p : List Byte) (s : State) :
    exec (.partReset tag p) s = s.runRequest 0x71 tag p takePartReset := rfl

theorem takePartReset_nil (s : State) : takePartReset [] s = s.goQuiet.accept [] := rfl

/-- A request whose rule leaves the link but for triggers is replied to, in the quiet time that it begins too. -/
theorem takeRequest_replied (s : State) (h : Takes s) (kind tag : Byte) (p : List Byte) (rule : RequestRule) (a : Answer)
    (ha : rule p s.countTaken = a) (link : LinkKept s.countTaken a.state) :
    Replied s (s.takeRequest { kind := kind, tag := tag, payload := p } rule).closeStep kind tag a.status a.fields := by
  obtain ⟨-, -, nothingHeld, -⟩ := h
  obtain ⟨-, -, last, receiver, holding, counters, -, -, -, -, -, busy⟩ := takeRequest_closed s kind tag p rule a ha
  refine ⟨last, receiver.trans link.receiver, (holding.trans link.holding).trans nothingHeld,
    counters.trans link.counters, fun b => ?_⟩
  obtain ⟨going, place, tx⟩ := busy (by rw [link.sending]; exact b)
  refine ⟨going.trans link.sending, link.queue.imp (fun q => ⟨place.trans q.1, tx.trans (by rw [q.2]; rfl)⟩)
    fun q => ⟨q.1, place.trans q.2.1, tx.trans ?_⟩⟩
  rw [q.2.2, List.append_assoc]
  rfl

/-- What PART_RESET leaves, its one reply queued and the write of its mark begun. -/
theorem partReset_answers (tag : Byte) (s : State) (h : Takes s) :
    ∃ t, exec (.partReset tag []) s = .next t ∧ Replied s t 0x71 tag .ok [] ∧ NoticesKept s t ∧ StoreRecordKept s t ∧
      Keeps [.server, .notices, .store, .quiet] s.goQuiet t ∧
      (let dirty := s.store.dirty || s.holder.marksAtReset
       let due := dirty && s.store.writing.isNone
       t.quiet = some { replySent := false, writesLeft := if due then 2 else 3 } ∧
         t.store.dirty = (dirty && !due) ∧ t.store.writing = if due then some t.retained else s.store.writing) := by
  have quieted := goQuiet_eq s.countTaken
  obtain ⟨keeps, -, -, -, -, -, notices, record, -, -, -, -⟩ :=
    takeRequest_closed s 0x71 tag [] takePartReset _ (takePartReset_nil _)
  have same : Keeps [.server] s.goQuiet s.countTaken.goQuiet := by
    rw [goQuiet_eq s, quieted]
    exact keeps_setServer _ _
  refine ⟨_, (exec_partReset tag [] s).trans (runRequest_taken s h ..), takeRequest_replied s h 0x71 tag [] _ _
    (takePartReset_nil _) (link_goQuiet _), ?_, ?_, same.mono.trans keeps, ?_⟩
  · have unnoticed : s.countTaken.goQuiet.notices = s.notices := by rw [quieted]; rfl
    have sending : s.countTaken.goQuiet.server.sending = s.server.sending := (link_goQuiet _).sending
    simpa [NoticesKept, State.accept, unnoticed, sending] using notices
  · rw [quieted] at record
    exact record
  · have store : (s.takeRequest { kind := 0x71, tag := tag, payload := [] } takePartReset).store =
        { s.store with dirty := s.store.dirty || s.holder.marksAtReset } := congrArg State.store quieted
    have quiet : (s.takeRequest { kind := 0x71, tag := tag, payload := [] } takePartReset).quiet =
        some { replySent := false, writesLeft := 3 } := congrArg State.quiet quieted
    rw [closeStep_store, closeStep_quiet, closeStep_retained]
    simp only [State.writeDue, State.mayWrite, store, quiet]
    cases s.store.dirty || s.holder.marksAtReset <;> cases s.store.writing <;> simp

/-! ### The quiet time (R220 steps 3 and 4) -/

/-- What a step that ends a write in the quiet time goes on with: the next write, while the store is dirty and an attempt
is left. -/
theorem closeStep_in_quiet (u : State) (q : Quiet) (hq : u.quiet = some q) (hw : u.store.writing = none) :
    if u.store.dirty = true ∧ 0 < q.writesLeft then
      u.closeStep.store.dirty = false ∧ u.closeStep.store.writing = some u.retained ∧
        u.closeStep.quiet = some { q with writesLeft := q.writesLeft - 1 }
    else u.closeStep.store.dirty = u.store.dirty ∧ u.closeStep.store.writing = none ∧ u.closeStep.quiet = some q := by
  have due : u.writeDue = true ↔ u.store.dirty = true ∧ 0 < q.writesLeft := by
    simp [State.writeDue, State.mayWrite, hq, hw]
  rw [closeStep_store, closeStep_quiet]
  by_cases d : u.store.dirty = true ∧ 0 < q.writesLeft
  · rw [if_pos d, if_pos (due.2 d), if_pos (due.2 d), hq]
    exact ⟨rfl, rfl, rfl⟩
  · rw [if_neg d, if_neg (mt due.1 d), if_neg (mt due.1 d)]
    exact ⟨rfl, hw, hq⟩

theorem exec_storeWriteEnd (s : State) (copy : Retained) (held : s.held = false) (hw : s.store.writing = some copy)
    (result : WriteResult) : exec (.storeWriteEnd result) s = .next (s.endWrite copy result).closeStep := by
  show s.run (fun s => s.storeWriteEnd result) = _
  simp [State.run, held, State.storeWriteEnd, hw]

theorem system_mask : Category.system.mask = 128#8 := by decide

/-- The write that fails leaves the retained values alone, but for what the memory holds. -/
theorem keeps_endWrite_failed (s : State) (copy : Retained) (kept : Bool) :
    Keeps linkBlocks s (s.endWrite copy (.failed kept)) :=
  ((Keeps.refl _ s).then (keeps_setStore s _)).then (keeps_raise _ _)

theorem endWrite_failed_store (s : State) (copy : Retained) (kept : Bool) :
    (s.endWrite copy (.failed kept)).store = { s.store with
      image := if kept then s.store.image else .lost, writing := none, dirty := true,
      failedWrites := min 255 (s.store.failedWrites + 1), event := .storeFault, lastFailed := true } :=
  (keeps_raise _ _).at .store

theorem idle_of_quiet (s : State) (hq : s.quiet ≠ none) : s.working = false := by
  simpa [State.working, ← Option.not_isSome] using Option.isSome_iff_ne_none.mpr hq

/-- The retained set reads nothing of the link, the notices and the store. -/
theorem retained_of_keeps {s t : State} (h : Keeps linkBlocks s t) : t.retained = s.retained := by
  have media : t.media = s.media := h.at .media
  have colour : t.colour = s.colour := h.at .colour
  have editions : t.editions = s.editions := h.at .editions
  have costs : t.costs = s.costs := h.at .costs
  have ink : t.ink = s.ink := h.at .ink
  have uncut : t.uncut = s.uncut := h.at .uncut
  have engine : t.engine = s.engine := h.at .engine
  simp only [State.retained, media, colour, editions, costs, ink, uncut, engine]

/-- An event that no part acts on in the quiet time closes its step and does nothing else. -/
theorem exec_in_quiet (s : State) (held : s.held = false) (hq : s.quiet ≠ none) (c : Instr)
    (hc : (∃ x, reportOf c = some x) ∨ c ∈ [.dwellSecond, .dwellEnd, .probeInterval, .engineCommandTimeout,
        .engineBadFrame, .interByteGapTimeout .server, .interByteGapTimeout .engine] ∨
        (∃ k : Fin 12, c = .refillTimeout k ∨ c = .refillElapsedSecond k) ∨
        (∃ b : Byte, c = .rollEvent b ∨ c = .coverEvent b) ∨ (∃ x, c = .levels x) ∨
        (∃ bay present serial lot fill, c = .bayEvent bay present serial lot fill)) :
    exec c s = .next s.closeStep := by
  have idle := idle_of_quiet s hq
  have run_idle (f : State → State) (h : f s = s) : s.run f = .next s.closeStep := by simp [State.run, held, h]
  have when_idle (f : State → State) : s.run (fun s => s.whenWorking f) = .next s.closeStep :=
    run_idle _ (by simp [State.whenWorking, idle])
  obtain ⟨x, hx⟩ | hc | ⟨k, rfl | rfl⟩ | ⟨b, rfl | rfl⟩ | ⟨x, rfl⟩ | ⟨bay, present, serial, lot, fill, rfl⟩ := hc
  · rw [exec_report c x.1 x.2 s hx]
    exact run_idle _ (by simp [State.takeReport, idle])
  · simp only [List.mem_cons, List.not_mem_nil, or_false] at hc
    obtain rfl | rfl | rfl | rfl | rfl | rfl | rfl := hc
    · exact when_idle _
    · exact when_idle _
    · refine run_idle State.probeInterval ?_
      unfold State.probeInterval
      split <;> simp [idle]
    · refine run_idle State.takeTimeout ?_
      unfold State.takeTimeout
      split <;> simp [idle]
    · exact run_idle State.badFrame (by simp [State.badFrame, idle])
    · exact when_idle fun s => s.dropFrame .server
    · exact when_idle fun s => s.dropFrame .engine
  · exact when_idle _
  · exact when_idle _
  · exact when_idle fun s => s.takeRollEvent b
  · exact when_idle fun s => s.takeCoverEvent b
  · exact when_idle fun s => (s.takeLevels x).serveSlot
  · exact when_idle fun s => (s.takeBayEvent bay present serial lot fill.toNat).serveSlot

/-! ### The soft reset (R220 step 5) -/

theorem softReset_intact (s : State) (r : Retained) (due : s.softResetDue = true) (hi : s.store.image = .intact r) :
    s.softReset = (State.startOver r (.intact r) s.pending s.freeReads
      (.fresh (.intact r) (if s.store.lastFailed then .storeFault else .none) false) s.store.lastFailed).settle := by
  unfold State.softReset
  rw [if_pos due, hi, load_intact]
  cases s.store.lastFailed <;> rfl

theorem softReset_lost (s : State) (due : s.softResetDue = true) (hi : s.store.image = .lost) :
    s.softReset = (State.startOver Retained.factory .lost s.pending s.freeReads
      (.fresh .lost .storeLost true) true).settle := by
  unfold State.softReset
  rw [if_pos due, hi, load_lost]
  cases s.store.lastFailed with
  | false => rfl
  | true =>
    congr 1
    have again : (!Category.system.isIn 128#8 && Category.system.isIn 255#8) = false := by decide
    have pended : (128#8 ||| Category.system.mask) = 128#8 := by decide
    rw [startOver_eq]
    simp [State.faultAtReset, RetainedStore.fresh, State.raise, NoticeUnit.atStart, State.setNotices, again, pended]

theorem softReset_answers (s : State) (r : Retained) (image : Image) (event : StoreEvent) (dirty raised : Bool)
    (held : s.held = false) (e : s.softReset = (State.startOver r image s.pending s.freeReads
      (.fresh image event dirty) raised).settle) :
    ∃ t, exec .softReset s = .next t ∧ StartedUp s t ∧ LoadedFrom r t ∧
      t.notices.pending = (if raised then 128 else 0) ∧ t.store = { RetainedStore.fresh image event false with
        writing := if dirty || r.uncut then some t.retained else none } ∧
      (r = Retained.factory → t.retained = r) := by
  obtain ⟨started, loaded, notices, -, store⟩ := startOver_answers s r image (.fresh image event dirty) raised rfl
  rw [← e] at started loaded notices store
  refine ⟨s.softReset.closeStep, ?_, started, loaded, congrArg NoticeUnit.pending notices, store, ?_⟩
  · show s.run State.softReset = _
    simp [State.run, held]
  · rintro rfl
    rw [e]
    exact startOver_factory_retained _ _ _ _ _

/-- Settles O5: each of R220's steps by the law of what it leaves before the step is closed. -/
theorem partResetAndSoftReset : Obligations.PartResetAndSoftReset := by
  refine ⟨fun tag s h => ?_, fun s q copy held hq hw => ?_, fun s held hq => ⟨?_, exec_in_quiet s held hq⟩, ?_⟩
  · obtain ⟨t, ht, replied, notices, record, keeps, quiet, dirty, writing⟩ := partReset_answers tag s h
    have left := goQuiet_eq s
    have changed : Keeps [.holder, .engine, .media, .uncut, .quiet, .store] s s.goQuiet := by
      rw [left]
      intro b hb
      cases b <;> simp_all [Block.same]
    refine ⟨t, ht, replied, notices, record, changed.mono.trans keeps.mono, ?_, ?_, ?_, ?_, quiet, dirty, writing⟩
    · exact (keeps.at .holder).trans (by rw [left])
    · exact (keeps.at .engine).trans (by rw [left])
    · refine ((keeps.at .uncut).trans (congrArg State.uncut left)).trans ?_
      cases s.holder <;> rfl
    · refine ((keeps.at .media).trans (congrArg State.media left)).trans ?_
      unfold State.clearOutAtReset
      cases s.holder <;> rfl
  · intro goesOn
    refine ⟨⟨_, exec_storeWriteEnd s copy held hw .written, ?_, ?_, ?_⟩, fun kept =>
      ⟨_, exec_storeWriteEnd s copy held hw (.failed kept), ?_, ?_⟩⟩
    · exact ((Keeps.refl _ s).then (keeps_setStore s _)).then (keeps_closeStep _)
    · exact closeStep_notices_kept (s.endWrite copy .written)
    · obtain ⟨image, event, failed, last, lastFailed⟩ := (closeStep_link (s.endWrite copy .written)).2.2.2.2
      exact ⟨image, last, event, failed, lastFailed, closeStep_in_quiet (s.endWrite copy .written) q hq rfl⟩
    · exact (keeps_endWrite_failed s copy kept).mono.then (keeps_closeStep _)
    · have keeps := keeps_endWrite_failed s copy kept
      have store := endWrite_failed_store s copy kept
      have pended : (s.endWrite copy (.failed kept)).notices.pending = s.notices.pending ||| 128#8 :=
        (raise_pending _ _).trans (by rw [system_mask]; rfl)
      have retained := retained_of_keeps keeps
      obtain ⟨image, event, failed, last, lastFailed⟩ := (closeStep_link (s.endWrite copy (.failed kept))).2.2.2.2
      have next := closeStep_in_quiet (s.endWrite copy (.failed kept)) q ((keeps.at .quiet).trans hq) (by rw [store])
      rw [store] at image event failed last lastFailed next
      rw [retained] at next
      exact ⟨image, last, event, failed, lastFailed, (closeStep_notices_kept _).1.trans pended, next⟩
  · have ticked : s.tick = s.setOrders { s.orders with clock := s.orders.clock + 1 } := by
      simp [State.tick, State.clock, idle_of_quiet s hq]
    refine ⟨s.tick.closeStep, ?_, ?_, ?_, ?_⟩
    · show s.run State.tick = _
      simp [State.run, held]
    · rw [ticked]
      exact ((Keeps.refl _ s).then (keeps_setOrders s _)).then (keeps_closeStep _)
    · have notices := closeStep_notices_kept s.tick
      rw [ticked] at notices ⊢
      exact notices
    · exact ((keeps_closeStep s.tick).at .orders).trans (by rw [ticked]; rfl)
  · intro s q held hq sent idle rest
    have due : s.softResetDue = true := by
      rcases rest with h | h <;> simp [State.softResetDue, hq, sent, idle, h]
    cases hi : s.store.image with
    | intact r =>
      obtain ⟨t, ht, started, loaded, notices, store, -⟩ :=
        softReset_answers s r _ _ false _ held (softReset_intact s r due hi)
      refine ⟨t, ht, started, by rw [store]; rfl, by rw [store]; rfl, by rw [store]; rfl, fun x hx => ?_, nofun⟩
      obtain rfl := Image.intact.inj hx
      exact ⟨loaded, by rw [store]; rfl, by rw [store]; rfl, notices⟩
    | lost =>
      obtain ⟨t, ht, started, loaded, notices, store, retained⟩ :=
        softReset_answers s Retained.factory _ _ true _ held (softReset_lost s due hi)
      refine ⟨t, ht, started, by rw [store]; rfl, by rw [store]; rfl, by rw [store]; rfl, nofun, fun _ => ?_⟩
      exact ⟨loaded, by rw [store]; rfl, notices, by rw [store, retained rfl]; rfl⟩

end Sys2Proof.Machine

/-! Requests refused, held and taken when a frame leaves (O6 to O9; R191 to R196, R204, R205). -/

namespace Sys2Proof.Machine

/-! ### Refusals (R193, R194) -/

theorem wrongLength_eq_true {p : List Byte} {n : Nat} (h : p.length ≠ n) : wrongLength p n = true := by
  simp [wrongLength, h]

theorem withGainSet_badLength (s : State) {p : List Byte} {n : Nat} (h : p.length ≠ n) (malformed outOfRange : Bool)
    (act : Fin 24 → GainSet → Answer) : s.withGainSet p n malformed outOfRange act = s.refuse .badLength :=
  if_pos (by simp [selectorMalformed, wrongLength_eq_true h])

/-- The length is the first check of every request. -/
theorem ruleOf_badLength (c : Instr) (r : Request) (s : State) (h : requestOf c = some r)
    (hl : r.payload.length ≠ r.length) : ruleOf r.kind r.payload s = s.refuse .badLength := by
  have wrong := wrongLength_eq_true hl
  cases c <;> cases h
  case submit => exact if_pos (by simp [submitMalformed, wrong])
  case amend => exact if_pos (by simp [amendMalformed, wrong])
  case mediaDefine => exact if_pos (by simp [mediaDefineMalformed, wrong])
  case autoRecoverySet => exact if_pos (by simp [wrong])
  case editionOpen => exact if_pos (by simp [editionOpenMalformed, wrong])
  case historyQuery | historyRearm | captureModeSet | colourResume | gainsSet | correctionSet | gainsQuery =>
    exact withGainSet_badLength s hl _ _ _
  all_goals exact if_pos wrong

/-- A kind that is no request has the rule that refuses it (R193). -/
theorem ruleOf_unknown (kind : Byte) (h : kindUnknown kind = true) : ruleOf kind = takeUnknownKind := by
  unfold ruleOf
  split
  case h_53 => rfl
  all_goals next e => simp [kindUnknown, e, requestKinds] at h

/-- Settles O6, by the first check of each rule. -/
theorem unexaminedPayloadsRefused : Obligations.UnexaminedPayloadsRefused := by
  refine ⟨fun c r s hr h hl => ?_, fun kind tag p s h hk => ?_⟩
  · rw [exec_request c r s hr]
    exact runRequest_onlyReplied s h _ _ _ _ _ _ (ruleOf_badLength c r _ hr hl)
  · rw [exec_unknownKind, ruleOf_unknown kind hk]
    exact runRequest_onlyReplied s h _ _ _ _ _ _ rfl

/-! ### The queue under the transmitter -/

/-- Starting a frame drops NOTICE frames alone. -/
theorem replyCount_startFrom (l : List TxFrame) : ∀ s : State, replyCount (s.startFrom l).server.tx = replyCount l := by
  induction l with
  | nil => exact fun s => rfl
  | cons f rest ih =>
    intro s
    cases f with
    | reply tag kind status fields => rfl
    | notice =>
      simp only [State.startFrom]
      split
      · exact ih _
      · rfl

theorem replyCount_kick (s : State) : replyCount s.kick.server.tx = replyCount s.server.tx := by
  unfold State.kick
  split
  · rfl
  · exact replyCount_startFrom _ s

theorem replyCount_closeStep (s : State) : replyCount s.closeStep.server.tx = replyCount s.server.tx := by
  have server : s.closeStep.server = s.kick.server := (keeps_beginWrite s.kick).at .server
  rw [server, replyCount_kick]

/-- A transmitter that was free ends busy, or with nothing to send. -/
theorem startFrom_started (l : List TxFrame) : ∀ s : State, (s.startFrom l).server.sending.isSome = true ∨
    ((s.startFrom l).server.sending = none ∧ (s.startFrom l).server.tx = []) := by
  induction l with
  | nil => exact fun s => .inr ⟨rfl, rfl⟩
  | cons f rest ih =>
    intro s
    cases f with
    | reply tag kind status fields => exact .inl rfl
    | notice =>
      simp only [State.startFrom]
      split
      · exact ih _
      · exact .inl rfl

theorem startFrom_nil_self (s : State) (hs : s.server.sending = none) (ht : s.server.tx = []) : s.startFrom [] = s := by
  unfold State.startFrom State.setServer
  rw [← ht, ← hs]

/-- The transmitter takes what it may at once. -/
theorem kick_kick (s : State) : s.kick.kick = s.kick := by
  by_cases idle : (s.silent || s.server.sending.isSome) = true
  · have e : s.kick = s := if_pos idle
    rw [e, e]
  · have e : s.kick = s.startFrom s.server.tx := if_neg idle
    rcases startFrom_started s.server.tx s with busy | ⟨sending, tx⟩
    · rw [e, kick_busy _ busy]
    · rw [e]
      generalize s.startFrom s.server.tx = u at sending tx ⊢
      unfold State.kick
      rw [tx, startFrom_nil_self u sending tx, ite_self]

theorem closeStep_kick (s : State) : s.kick.closeStep = s.closeStep := by
  unfold State.closeStep
  rw [kick_kick]

/-- The state with other frames held. -/
def State.withHolding (s : State) (l : List Frame) : State := s.setServer { s.server with holding := l }

theorem startFrom_withHolding (tx : List TxFrame) (l : List Frame) :
    ∀ s : State, (s.withHolding l).startFrom tx = (s.startFrom tx).withHolding l := by
  induction tx with
  | nil => exact fun s => rfl
  | cons f rest ih =>
    intro s
    cases f with
    | reply tag kind status fields => rfl
    | notice =>
      have pending : (s.withHolding l).notices = s.notices := rfl
      simp only [State.startFrom, pending]
      split
      · exact ih (s.setNotices { s.notices with place := .none })
      · rfl

/-- The transmitter reads nothing of the frames held. -/
theorem kick_withHolding (s : State) (l : List Frame) : (s.withHolding l).kick = s.kick.withHolding l := by
  unfold State.kick
  have silent : (s.withHolding l).silent = s.silent := rfl
  have server : (s.withHolding l).server = { s.server with holding := l } := rfl
  rw [silent, server]
  split
  · rfl
  · exact startFrom_withHolding _ l s

/-! ### Every request taken (R192, R194) -/

theorem replyCount_takeRequest (s : State) (f : Frame) (rule : RequestRule) (law : RuleLaw rule) :
    replyCount (s.takeRequest f rule).server.tx = replyCount s.server.tx + 1 := by
  have replies : replyCount (rule f.payload s.countTaken).state.server.tx = replyCount s.server.tx :=
    (law f.payload s.countTaken).link.replies
  show replyCount (_ ++ [_]) = _
  rw [replyCount_append, replies]
  rfl

/-- Settles O7, by the law of answers. -/
theorem refusedRequestsChangeNothing : Obligations.RefusedRequestsChangeNothing := by
  intro c r s t hr h ht
  rw [exec_request c r s hr] at ht
  have et := Host.Outcome.next.inj (ht.symm.trans (runRequest_taken s h r.kind r.tag r.payload (ruleOf r.kind)))
  have law := law_ruleOf r.kind r.payload s.countTaken
  obtain ⟨-, -, last, -⟩ := takeRequest_closed s r.kind r.tag r.payload (ruleOf r.kind) _ rfl
  refine ⟨?_, (ruleOf r.kind r.payload s.countTaken).status, _, et ▸ last, fun refuses => ?_⟩
  · rw [et, replyCount_closeStep, replyCount_takeRequest _ _ _ (law_ruleOf r.kind)]
  · obtain ⟨t', ht', replied⟩ := runRequest_onlyReplied s h r.kind r.tag r.payload _ _ _ (law.refused refuses)
    exact Host.Outcome.next.inj (ht'.symm.trans ht) ▸ replied

/-! ### Frames that cannot be taken (R191) -/

theorem drain_not_taking (rules : Byte → RequestRule) (fuel : Nat) (s : State) (h : s.takesRequests = false) :
    State.drain rules fuel s = s := by
  cases fuel with
  | zero => rfl
  | succ fuel =>
    unfold State.drain
    split
    · rfl
    · simp [h]

theorem drain_nothing_held (rules : Byte → RequestRule) (fuel : Nat) (s : State) (h : s.server.holding = []) :
    State.drain rules fuel s = s := by
  cases fuel with
  | zero => rfl
  | succ fuel => simp [State.drain, h]

theorem takesRequests_eq_false {s : State} (h : s.quiet ≠ none ∨ 4 ≤ replyCount s.server.tx) :
    s.takesRequests = false := by
  rcases h with h | h
  · simp [State.takesRequests, idle_of_quiet s h]
  · simp [State.takesRequests, h]

theorem takesRequests_congr {s t : State} (hq : t.quiet = s.quiet)
    (hr : replyCount t.server.tx = replyCount s.server.tx) : t.takesRequests = s.takesRequests := by
  simp only [State.takesRequests, State.working, hq, hr]

/-- A frame that cannot be taken is only offered to the holding queue. -/
theorem receiveFrame_not_taken (s : State) (f : Frame) (rule : RequestRule)
    (h : s.quiet ≠ none ∨ 4 ≤ replyCount s.server.tx) : s.receiveFrame ruleOf f rule = s.hold f := by
  have taking := takesRequests_eq_false h
  have held : (s.hold f).takesRequests = false := by
    rw [← taking]
    unfold State.hold
    split <;> exact takesRequests_congr rfl rfl
  unfold State.receiveFrame
  rw [if_neg (by simp [taking]), drain_not_taking ruleOf 4 _ held]

theorem hold_eq (s : State) (f : Frame) : s.hold f = { s with server :=
    if s.server.holding.length < 4 then { s.server with holding := s.server.holding ++ [f] }
    else { s.server with counters :=
      { s.server.counters with overruns := min 65535 (s.server.counters.overruns + 1) } } } := by
  unfold State.hold
  split <;> rfl

/-- Settles O8: a frame that cannot be taken is offered to the holding queue, and the step is closed. -/
theorem untakenFramesAreHeld : Obligations.UntakenFramesAreHeld := by
  unfold Obligations.UntakenFramesAreHeld
  intro offered
  have offers (kind tag : Byte) (p : List Byte) (s : State) (held : s.held = false)
      (h : s.quiet ≠ none ∨ 4 ≤ replyCount s.server.tx) : s.runRequest kind tag p (ruleOf kind) =
        .next (offered s { kind := kind, tag := tag, payload := p }) := by
    simp only [State.runRequest, State.run, receiveFrame_not_taken s _ _ h, hold_eq]
    rw [if_neg (by simp [held])]
  refine ⟨fun c r s hr held h => ?_, fun kind tag p s held h => offers kind tag p s held h⟩
  rw [exec_request c r s hr]
  exact offers _ _ _ s held h

/-! ### A frame has left (R192, R196, R205) -/

/-- The part once its frame `f` has left the queue, before the transmitter goes on. -/
def State.frameLeft (s : State) (f : TxFrame) (rest : List TxFrame) : State :=
  (s.setServer { s.server with tx := rest, sending := none }).frameSent f

theorem exec_transmitComplete (s : State) (bytes : List Byte) (f : TxFrame) (rest : List TxFrame) (held : s.held = false)
    (hs : s.server.sending = some bytes) (ht : s.server.tx = f :: rest) :
    exec .transmitComplete s = .next (State.drain ruleOf 4 (s.frameLeft f rest).kick).closeStep := by
  show s.run (fun s => s.transmitComplete ruleOf) = _
  simp [State.run, held, State.transmitComplete, State.finishSending, hs, ht, State.frameLeft]

/-- A frame that leaves changes nothing outside the link, but the quiet time that waits for the PART_RESET reply. -/
theorem frameLeft_link (s : State) (f : TxFrame) (rest : List TxFrame) :
    (s.frameLeft f rest).server.holding = s.server.holding ∧
      replyCount (s.frameLeft f rest).server.tx = replyCount rest ∧ (s.frameLeft f rest).held = s.held ∧
      ((s.frameLeft f rest).quiet = none ↔ s.quiet = none) := by
  cases f with
  | notice =>
    simp only [State.frameLeft, State.frameSent, State.noticeSent]
    split <;> simp [replyCount_append, replyCount]
  | reply tag kind status fields =>
    simp only [State.frameLeft, State.frameSent]
    split <;> simp

theorem kick_quiet (s : State) : s.kick.quiet = s.quiet := (keeps_kick s).at .quiet

/-- The part with the oldest held frame taken off the queue takes it. -/
theorem drain_cons (rules : Byte → RequestRule) (fuel : Nat) (s : State) (g : Frame) (others : List Frame)
    (hh : s.server.holding = g :: others) (ht : s.takesRequests = true) : State.drain rules (fuel + 1) s =
      State.drain rules fuel ((s.withHolding others).takeRequest g (rules g.kind)) := by
  simp only [State.drain, hh, ht, if_true]
  rfl

theorem takeRequest_holding (s : State) (f : Frame) (rule : RequestRule) (law : RuleLaw rule) :
    (s.takeRequest f rule).server.holding = s.server.holding := (law f.payload s.countTaken).link.holding

/-- Settles O9: what is left of the queue decides whether a held frame is taken. -/
theorem transmitCompleteMakesRoom : Obligations.TransmitCompleteMakesRoom := by
  unfold Obligations.TransmitCompleteMakesRoom
  intro left
  have left_eq (s : State) (f : TxFrame) (rest : List TxFrame) : left s f rest = s.frameLeft f rest := by
    cases f with
    | notice =>
      simp only [left, State.frameLeft, State.frameSent, State.noticeSent, State.setServer, State.setNotices]
      split <;> simp_all
    | reply tag kind status fields =>
      simp only [left, State.frameLeft, State.frameSent, State.setServer, State.setQuiet]
      split <;> rfl
  refine ⟨fun s bytes f rest held free hs ht => ?_, fun s bytes f rest g others works hs ht room hh => ?_,
    ?_⟩
  · obtain ⟨holding, replies, -, quiet⟩ := frameLeft_link s f rest
    have stays : State.drain ruleOf 4 (s.frameLeft f rest).kick = (s.frameLeft f rest).kick := by
      rcases free with none | busy
      · exact drain_nothing_held _ _ _ (((kick_link _).2.1.trans holding).trans none)
      · refine drain_not_taking _ _ _ (takesRequests_eq_false ?_)
        rw [kick_quiet, replyCount_kick, replies]
        exact busy.imp_left (mt quiet.1)
    rw [exec_transmitComplete s bytes f rest held hs ht, stays, closeStep_kick, left_eq]
  · obtain ⟨held, unquiet⟩ := works
    obtain ⟨holding, replies, -, quiet⟩ := frameLeft_link s f rest
    rw [exec_transmitComplete s bytes f rest held hs ht]
    generalize hv : (s.frameLeft f rest).kick = v
    have vh : v.server.holding = g :: others := hv ▸ ((kick_link _).2.1.trans holding).trans hh
    have vr : replyCount v.server.tx = 3 := hv ▸ ((replyCount_kick _).trans replies).trans room
    have vq : v.quiet = none := hv ▸ (kick_quiet _).trans (quiet.2 unquiet)
    have taken : replyCount ((v.withHolding others).takeRequest g (ruleOf g.kind)).server.tx = 4 := by
      rw [replyCount_takeRequest _ _ _ (law_ruleOf g.kind)]
      exact congrArg (· + 1) vr
    have drained : State.drain ruleOf 4 v = (v.withHolding others).takeRequest g (ruleOf g.kind) := by
      rw [drain_cons ruleOf 3 v g others vh (by simp [State.takesRequests, State.working, vq, vr])]
      exact drain_not_taking _ _ _ (takesRequests_eq_false (.inr taken.ge))
    rw [drained]
    refine ⟨_, rfl, ?_, (replyCount_closeStep _).trans taken, ?_⟩
    · rw [(closeStep_link _).2.1, takeRequest_holding _ _ _ (law_ruleOf g.kind)]
      rfl
    · obtain ⟨-, -, last, -⟩ := takeRequest_closed (v.withHolding others) g.kind g.tag g.payload (ruleOf g.kind) _ rfl
      exact ⟨_, _, last⟩
  · intro c r s bytes f rest hr works hs ht room hh gone
    obtain ⟨held, unquiet⟩ := works
    obtain ⟨holding, replies, heldLeft, quiet⟩ := frameLeft_link s f rest
    have goneAlone : ({ gone with server := { gone.server with holding := [] } } : State) =
        (s.frameLeft f rest).withHolding [] := by
      show ({ left s f rest with server := { (left s f rest).server with holding := [] } } : State) = _
      rw [left_eq]
      rfl
    rw [goneAlone, kick_withHolding, exec_request c r _ hr, exec_transmitComplete s bytes f rest held hs ht]
    generalize hv : (s.frameLeft f rest).kick = v
    have vh : v.server.holding = [{ kind := r.kind, tag := r.tag, payload := r.payload }] :=
      hv ▸ ((kick_link _).2.1.trans holding).trans hh
    have vr : replyCount v.server.tx < 4 := hv ▸ ((replyCount_kick _).trans replies).trans_lt room
    have vq : v.quiet = none := hv ▸ (kick_quiet _).trans (quiet.2 unquiet)
    have vheld : v.held = false := hv ▸ ((keeps_kick _).at .held).trans (heldLeft.trans held)
    rw [drain_cons ruleOf 3 v _ _ vh (by simp [State.takesRequests, State.working, vq, vr]),
      drain_nothing_held _ _ _ (takeRequest_holding _ _ _ (law_ruleOf r.kind)),
      runRequest_taken (v.withHolding []) ⟨vheld, vq, rfl, vr⟩]

end Sys2Proof.Machine

/-! What a request's rule leaves of the store, and the queries (O12 to O18), each of which answers with the fields of its
record and changes nothing. -/

namespace Sys2Proof.Machine

/-! ### Marking the store -/

/-- From `s` to `u` the store was marked when `b` holds, and is otherwise as it was. -/
def Marks (b : Bool) (s u : State) : Prop := u.store = { s.store with dirty := s.store.dirty || b }

theorem Marks.of_store_eq {s u : State} (h : u.store = s.store) : Marks false s u := by
  unfold Marks
  rw [h, Bool.or_false]

theorem Marks.of_keeps {l : List Block} {s u : State} (h : Keeps l s u) (out : Block.store ∉ l := by decide) :
    Marks false s u := .of_store_eq (h.at .store out)

theorem marks_markDirtyIf (b : Bool) (s : State) : Marks b s (s.markDirtyIf b) := by
  cases b with
  | false => exact .of_store_eq rfl
  | true => simp [Marks, State.markDirtyIf, State.markDirty, State.setStore]

theorem marks_markDirty (s : State) : Marks true s s.markDirty := marks_markDirtyIf true s

theorem Marks.trans {a b : Bool} {s t u : State} (h : Marks a s t) (k : Marks b t u) : Marks (a || b) s u := by
  unfold Marks at *
  rw [k, h, Bool.or_assoc]

/-- An operation that leaves the store alone follows. -/
theorem Marks.then {b : Bool} {l : List Block} {s t u : State} (h : Marks b s t) (k : Keeps l t u)
    (out : Block.store ∉ l := by decide) : Marks b s u := by
  simpa using h.trans (Marks.of_keeps k out)

/-- An operation that leaves the store alone went before. -/
theorem Marks.after {b : Bool} {l : List Block} {s t u : State} (k : Keeps l s t) (h : Marks b t u)
    (out : Block.store ∉ l := by decide) : Marks b s u := (Marks.of_keeps k out).trans h

theorem Marks.congr {a b : Bool} {s u : State} (h : Marks a s u) (e : a = b) : Marks b s u := e ▸ h

theorem Marks.record {b : Bool} {s u : State} (h : Marks b s u) : StoreRecordKept s u := by
  unfold Marks at h
  unfold StoreRecordKept
  rw [h]
  exact ⟨rfl, rfl, rfl, rfl, rfl⟩

/-- What a step does to the store that its rule marked or left alone. -/
theorem Marks.markedIf {b : Bool} {P : Prop} {s u t : State} (h : Marks b s u) (iff : b = true ↔ P)
    (marked : u.store.dirty = true → StoreMarked u t) (unmarked : StoreUnmarked u t) : MarkedIf P s t := by
  refine ⟨fun holds => ?_, fun fails => ?_⟩
  · have dirty : u.store.dirty = true := by
      rw [show u.store = _ from h, iff.2 holds]
      exact Bool.or_true _
    simpa [StoreMarked, StoreRecordKept, show u.store = _ from h] using marked dirty
  · have clean : b = false := Bool.eq_false_iff.2 (mt iff.1 fails)
    refine unmarked.of_store_eq ((show u.store = _ from h).trans ?_)
    rw [clean, Bool.or_false]

theorem MarkedIf.congr {P Q : Prop} {s t : State} (h : MarkedIf P s t) (e : P ↔ Q) : MarkedIf Q s t :=
  ⟨fun q => h.1 (e.2 q), fun q => h.2 (mt e.1 q)⟩

theorem MarkedIf.marked {P : Prop} {s t : State} (h : MarkedIf P s t) (holds : P) : StoreMarked s t := h.1 holds

theorem MarkedIf.unmarked {P : Prop} {s t : State} (h : MarkedIf P s t) (fails : ¬P) : StoreUnmarked s t := h.2 fails

/-! ### A request that writes -/

/-- An answered request whose rule left the link and the notices alone, and marked the store when `b` holds. -/
theorem runRequest_writes (s : State) (h : Takes s) (kind tag : Byte) (p : List Byte) (rule : RequestRule)
    (status : Status) (fields : List Byte) (u : State) (changed : List Block) (b : Bool)
    (hr : rule p s.countTaken = { state := u, status := status, fields := fields })
    (hk : Keeps (.store :: changed) s.countTaken u) (hm : Marks b s.countTaken u)
    (out : (changed.all fun b => !(([Block.pending, .held, .quiet, .notices, .server] : List Block).contains b)) = true :=
      by decide) :
    ∃ t, s.runRequest kind tag p rule = .next t ∧ Replied s t kind tag status fields ∧ NoticesKept s t ∧
      MarkedIf (b = true) s t ∧ Keeps (changed ++ linkBlocks) s t ∧ Keeps linkBlocks u t := by
  obtain ⟨t, ht, keeps, replied, notices, -, marked, unmarked, all⟩ :=
    runRequest_quietly s h kind tag p rule _ (.store :: changed) hr hk (by simpa using out)
  refine ⟨t, ht, replied, notices, Marks.markedIf (s := s) hm .rfl marked unmarked, all.mono ?_, keeps⟩
  simp +contextual [linkBlocks]

/-- A request whose rule ends with the slot's turn from `u`, and marks the store when `b` holds. -/
theorem runRequest_serves (s : State) (h : Takes s) (kind tag : Byte) (p : List Byte) (rule : RequestRule)
    (status : Status) (fields : List Byte) (u : State) (changed : List Block) (b : Bool) (P : State → Prop)
    (hr : rule p s.countTaken = { state := u.serveSlot, status := status, fields := fields }) (hp : P u)
    (hk : Keeps (changed ++ linkBlocks) s.countTaken u) (hl : LinkKept s.countTaken u) (hm : Marks b s.countTaken u)
    (out : (!changed.contains .quiet) = true := by decide) :
    ∃ t, s.runRequest kind tag p rule = .next t ∧ Replied s t kind tag status fields ∧ MarkedIf (b = true) s t ∧
      Served changed s t P := by
  have store : u.store = { s.store with dirty := s.store.dirty || b } := hm
  obtain ⟨t, ht, replied, served, marked, unmarked⟩ := runRequest_served s h kind tag p rule status fields u changed P hr
    hp hk hl (Marks.record (s := s) hm) (by rw [store]) out
  refine ⟨t, ht, replied, ⟨fun holds => marked ?_, fun fails => unmarked ?_⟩, served⟩
  · rw [store, holds]
    exact Bool.or_true _
  · rw [store, Bool.eq_false_iff.2 fails, Bool.or_false]

/-! ### The checks of a request -/

theorem wrongLength_eq_false {p : List Byte} {n : Nat} (h : p.length = n) : wrongLength p n = false := by
  simp [wrongLength, h]

@[simp] theorem wrongLength_nil : wrongLength [] 0 = false := rfl

@[simp] theorem checked_nil (s : State) (a : Answer) : s.checked [] a = a := rfl

@[simp] theorem checked_cons (s : State) (fails : Bool) (status : Status) (rest : List (Bool × Status)) (a : Answer) :
    s.checked ((fails, status) :: rest) a = if fails then s.refuse status else s.checked rest a := by
  unfold State.checked
  cases fails <;> rfl

theorem finOfNat_eq {n m : Nat} [NeZero n] {k : Fin n} (h : m = k.val) : Fin.ofNat n m = k := by
  subst h
  exact Fin.ofNat_val_eq_self k

theorem kindAt_eq {p : List Byte} {i : Nat} {k : Fin 8} (h : byteAt p i = k.val) : kindAt p i = k := finOfNat_eq h

theorem channelAt_eq {p : List Byte} {i : Nat} {k : Fin 12} (h : byteAt p i = k.val) : channelAt p i = k := finOfNat_eq h

theorem accountAt_eq {p : List Byte} {i : Nat} {k : Fin 64} (h : byteAt p i = k.val) : accountAt p i = k := finOfNat_eq h

/-- The sets of the media kinds and those of the editions are apart. -/
theorem selected_of_selects {s : State} {p : List Byte} {g : Fin 24} {x : GainSet} (h : SelectsGainSet s p g x) :
    selectorOutOfRange p = false ∧ flagOk p 0 = true ∧ s.selected? p = some g := by
  obtain ⟨-, ⟨k, type, number, defined, name⟩ | ⟨i, type, found, name⟩⟩ := h
  · have notEdition : flagAt p 0 = false := by simp [flagAt, type]
    have kind : Fin.ofNat 8 (u32At p 1) = k := finOfNat_eq number
    refine ⟨by simp [selectorOutOfRange, number]; omega, by simp [flagOk, type], ?_⟩
    have named : kindSet k = g := Fin.ext name.symm
    simp only [State.selected?, notEdition, kind, Option.isSome_iff_ne_none.2 defined, named]
    rfl
  · have edition : flagAt p 0 = true := by simp [flagAt, type]
    have named : editionSet i = g := Fin.ext name.symm
    exact ⟨by simp [selectorOutOfRange, edition], by simp [flagOk, type], by simp [State.selected?, edition, found, named]⟩

/-- A request whose selector names the set `g` in use acts on it, once its other fields are in range. -/
theorem withGainSet_selected {s : State} {p : List Byte} {n : Nat} {g : Fin 24} {x : GainSet} (hl : p.length = n)
    (h : SelectsGainSet s p g x) (malformed outOfRange : Bool) (act : Fin 24 → GainSet → Answer) :
    s.withGainSet p n malformed outOfRange act =
      if malformed then s.refuse .badLength else if outOfRange then s.refuse .badField else act g x := by
  obtain ⟨inRange, typeOk, selected⟩ := selected_of_selects h
  obtain ⟨inUse, -⟩ := h
  simp [State.withGainSet, selectorMalformed, wrongLength_eq_false hl, typeOk, inRange, selected, inUse]

theorem withEdition_absent {s : State} {p : List Byte} (hl : p.length = 4) (h : s.findEdition (word32At p 0) = none)
    (act : Fin 16 → Edition → Answer) : s.withEdition p act = s.refuse .notFound := by
  simp [State.withEdition, wrongLength_eq_false hl, h]

theorem withEdition_present {s : State} {p : List Byte} {i : Fin 16} {e : Edition} (hl : p.length = 4)
    (h : s.findEdition (word32At p 0) = some i) (he : s.editions[i] = some e) (act : Fin 16 → Edition → Answer) :
    s.withEdition p act = act i e := by
  simp [State.withEdition, wrongLength_eq_false hl, h, he]

/-! ### Lookups (R1, R146) -/

/-- The lowest index that satisfies `p`. -/
theorem firstIndex_eq_some_iff {n : Nat} (p : Fin n → Bool) (i : Fin n) :
    firstIndex p = some i ↔ p i = true ∧ ∀ j < i, p j = false := by
  unfold firstIndex
  rw [List.find?_eq_some_iff_getElem]
  constructor
  · rintro ⟨holds, m, hm, rfl, before⟩
    refine ⟨holds, fun j hj => ?_⟩
    simpa using before j.val (by simpa [Fin.lt_def] using hj)
  · rintro ⟨holds, before⟩
    refine ⟨holds, i.val, by simp, by simp, fun j hj => ?_⟩
    simpa using before ⟨j, by omega⟩ hj

/-! ### ORDER_QUERY and ORDER_LIST (R13, R14) -/

theorem takeOrderQuery_absent {s : State} {p : List Byte} (hl : p.length = 4) (h : s.findOrder (word32At p 0) = none) :
    takeOrderQuery p s = s.refuse .notFound := by
  simp [takeOrderQuery, wrongLength_eq_false hl, h]

theorem takeOrderQuery_present {s : State} {p : List Byte} {i : Fin 40} {o : Order} (hl : p.length = 4)
    (h : s.findOrder (word32At p 0) = some i) (ho : s.orders.slots[i] = some o) :
    takeOrderQuery p s = s.accept (o.fields i) := by
  simp [takeOrderQuery, wrongLength_eq_false hl, h, ho]

theorem listed_unfinished (s : State) (p : List Byte) (i : Fin 40) : s.listed (p.getD 0 0) true i =
    match s.orders.slots[i] with
    | some o => if o.state.unfinished && (byteAt p 0).testBit o.state.code then some o.reference else none
    | none => none := by
  unfold State.listed
  cases s.orders.slots[i] with
  | none => rfl
  | some o =>
    show (if (byteAt p 0).testBit o.state.code && o.state.unfinished == true then some o.reference else none) = _
    rw [Bool.and_comm, beq_true]

theorem listed_final (s : State) (p : List Byte) (i : Fin 40) : s.listed (p.getD 0 0) false i =
    match s.orders.slots[i] with
    | some o => if !o.state.unfinished && (byteAt p 0).testBit o.state.code then some o.reference else none
    | none => none := by
  unfold State.listed
  cases s.orders.slots[i] with
  | none => rfl
  | some o =>
    show (if (byteAt p 0).testBit o.state.code && o.state.unfinished == false then some o.reference else none) = _
    rw [Bool.and_comm, beq_false]

/-- Settles O12: lookups by the lowest index that matches, queries by the rule's equation. -/
theorem recordsAndOrderQueries : Obligations.RecordsAndOrderQueries := by
  refine ⟨⟨fun s ref i => ?_, fun s ref i => ?_, fun s i => ?_, fun s i => ?_⟩, fun tag p s h => ⟨?_, ?_, ?_, ?_⟩⟩
  · refine (firstIndex_eq_some_iff _ i).trans (and_congr ?_ (forall₂_congr fun j _ => ?_))
    · cases s.orders.slots[i] <;> simp
    · cases s.orders.slots[j] <;> simp
  · refine (firstIndex_eq_some_iff _ i).trans (and_congr ?_ (forall₂_congr fun j _ => ?_))
    · cases s.editions[i] <;> simp
    · cases s.editions[j] <;> simp
  · refine (firstIndex_eq_some_iff _ i).trans (and_congr ?_ (forall₂_congr fun j _ => ?_))
    · exact Option.isNone_iff_eq_none
    · exact Option.isNone_eq_false_iff.trans Option.isSome_iff_ne_none
  · refine (firstIndex_eq_some_iff _ i).trans (and_congr ?_ (forall₂_congr fun j _ => ?_))
    · exact Option.isNone_iff_eq_none
    · exact Option.isNone_eq_false_iff.trans Option.isSome_iff_ne_none
  · intro i o hl hf ho
    exact runRequest_onlyReplied s h _ _ _ takeOrderQuery _ _ (takeOrderQuery_present (s := s.countTaken) hl hf ho)
  · exact fun hl hf => runRequest_onlyReplied s h _ _ _ takeOrderQuery _ _ (takeOrderQuery_absent (s := s.countTaken) hl hf)
  · exact fun hl bad => runRequest_onlyReplied s h _ _ _ takeOrderList _ _
      (by simp [takeOrderList, wrongLength_eq_false hl, bad, State.refuse])
  · intro hl good
    refine runRequest_onlyReplied s h _ _ _ takeOrderList _ _ ?_
    have inRange : ¬128 ≤ byteAt p 0 := by omega
    simp only [takeOrderList, wrongLength_eq_false hl, checked_cons, inRange, checked_nil, State.orderList,
      funext (listed_unfinished s.countTaken p), funext (listed_final s.countTaken p)]
    rfl

/-- A block of the list that in the end reads as before can be left out of it. -/
theorem Keeps.without {l : List Block} {b : Block} {s t : State} (h : Keeps (b :: l) s t) (same : b.same s t) :
    Keeps l s t := fun c hc => by
  by_cases e : c = b
  · exact e ▸ same
  · exact h c (by simp [e, hc])

/-! ### READ_CLOCK, IDENTIFY, STATUS_QUERY and COUNTERS_QUERY (R20, R197, R198, R210) -/

theorem store_stateCode (r : RetainedStore) :
    u8 r.stateCode = [if r.writing ≠ none then 2 else if r.dirty then 1 else 0] := by
  unfold RetainedStore.stateCode
  cases r.writing <;> cases r.dirty <;> rfl

theorem keeps_clearCounters (s : State) : Keeps [.server, .engine] s s.clearCounters :=
  ((Keeps.refl _ s).then (keeps_setServer s _)).then (keeps_setEngine _ _)

theorem takeCountersQuery_eq (p : List Byte) (s : State) (hl : p.length = 1) (h : byteAt p 0 ≤ 1) :
    takeCountersQuery p s = (if byteAt p 0 = 1 then s.clearCounters else s).accept s.counterFields := by
  simp [takeCountersQuery, wrongLength_eq_false hl, h]

/-- COUNTERS_QUERY: its own frame is counted before the fields are read (R208, R210). -/
theorem countersQuery_answers (tag : Byte) (p : List Byte) (s : State) (h : Takes s) (hl : p.length = 1)
    (hp : byteAt p 0 ≤ 1) :
    ∃ t, exec (.countersQuery tag p) s = .next t ∧
      t.server.tx.getLast? = some (.reply tag 0x6A .ok s.countTaken.counterFields) ∧
      NoticesKept s t ∧ StoreUnmarked s t ∧ Keeps (.engine :: linkBlocks) s t ∧
      (byteAt p 0 = 0 → t.engine = s.engine ∧ t.server.counters = s.countTaken.server.counters) ∧
      (byteAt p 0 = 1 → t.engine = { s.engine with counters := {} } ∧ t.server.counters = {}) := by
  refine ⟨_, runRequest_taken s h _ _ _ takeCountersQuery, ?_⟩
  obtain ⟨keeps, quiet, last, -, -, counters, notices, record, -, clean, writing, -⟩ :=
    takeRequest_closed s 0x6A tag p takeCountersQuery _ (takeCountersQuery_eq p s.countTaken hl hp)
  generalize ht : (s.takeRequest { kind := 0x6A, tag := tag, payload := p } takeCountersQuery).closeStep = t at *
  generalize hu : (if byteAt p 0 = 1 then s.countTaken.clearCounters else s.countTaken) = u at *
  have taken : Keeps [.server, .engine] s.countTaken u := by
    rw [← hu]
    exact keeps_ite _ (keeps_clearCounters _) (Keeps.refl _ _)
  have all : Keeps [.server, .engine] s u := ((Keeps.refl _ s).then (keeps_countTaken s)).then taken
  have sending : u.server.sending = s.server.sending := by
    rw [← hu]
    split <;> rfl
  have sameNotices : u.notices = s.notices := all.at .notices
  have sameStore : u.store = s.store := all.at .store
  have sameQuiet : u.quiet = s.quiet := all.at .quiet
  have unquiet : u.quiet = none := sameQuiet.trans h.2.1
  have engine : t.engine = u.engine := keeps.at .engine
  refine ⟨last, ?_, ⟨?_, ?_, ?_⟩, ?_, fun zero => ?_, fun one => ?_⟩
  · simpa [NoticesKept, State.accept, sameNotices, sending] using notices
  · simpa [StoreRecordKept, State.accept, sameStore] using record
  · simpa [State.accept, sameStore] using clean
  · simpa [State.accept, sameStore] using writing
  · have left : Keeps (.quiet :: .engine :: linkBlocks) s t := all.mono.trans keeps.mono
    exact left.without ((quiet unquiet).trans h.2.1.symm)
  · rw [engine, counters, ← hu, if_neg (by omega)]
    exact ⟨rfl, rfl⟩
  · rw [engine, counters, ← hu, if_pos one]
    exact ⟨rfl, rfl⟩

/-- Settles O13: COUNTERS_QUERY by `countersQuery_answers`, the others by their fields. -/
theorem statusQueries : Obligations.StatusQueries := by
  refine ⟨fun tag s h => ⟨?_, ?_, ?_⟩, fun tag p s h hl hp => ?_⟩
  · exact runRequest_onlyReplied s h _ _ _ takeReadClock _ _ rfl
  · exact runRequest_onlyReplied s h _ _ _ takeIdentify _ _ rfl
  · refine runRequest_onlyReplied s h _ _ _ takeStatusQuery _ _ ?_
    rw [← store_stateCode s.store]
    rfl
  · exact countersQuery_answers tag p s h hl hp

/-! ### MEDIA_QUERY, ROLL_QUERY, ATTEMPT_QUERY and ENGINE_QUERY (R28, R33, R68, R88) -/

theorem takeMediaQuery_kind {s : State} {p : List Byte} {k : Fin 8} (hl : p.length = 1) (h : byteAt p 0 = k.val) :
    takeMediaQuery p s = match s.media.kinds[k] with
      | none => s.refuse .notFound
      | some m => s.accept m.fields := by
  have inRange : ¬7 < byteAt p 0 := by omega
  simp only [takeMediaQuery, wrongLength_eq_false hl, if_neg inRange, kindAt_eq h] <;> rfl

theorem MediaKind.fields_eq (m : MediaKind) : m.fields =
    m.name.toList ++ u8 m.bandLength ++ u8 (if m.bandLength ∈ [10, 20, 25, 40, 50, 100] then m.bandLength else 25) ++
      u16 m.lead ++ u16 m.tail ++ u8 m.stripMargin ++ u16 m.dwell := by
  unfold MediaKind.fields effectiveBand
  simp only [List.contains_iff_mem]
  rfl

theorem takeAttemptQuery_attempt {s : State} {a : Attempt} (h : s.holder = .attempt a) :
    takeAttemptQuery [] s = s.accept a.fields := by
  simp [takeAttemptQuery, State.attempt?, h]

theorem takeAttemptQuery_none {s : State} (h : ∀ a, s.holder ≠ .attempt a) :
    takeAttemptQuery [] s = s.refuse .notFound := by
  unfold takeAttemptQuery State.attempt?
  cases hh : s.holder with
  | attempt a => exact absurd hh (h a)
  | _ => rfl

theorem keeps_readTimer (s : State) : Keeps [.engine, .freeReads] s s.readTimer := by
  obtain ⟨-, e⟩ | ⟨o, -, e⟩ := readTimer_cases s
  · exact e.symm ▸ Keeps.refl _ s
  · rw [e]
    intro b hb
    cases b <;> simp_all [Block.same]

/-- ENGINE_QUERY: the timer is brought up to now, within the command's timeout, before the fields are read (R88). -/
theorem readTimer_seconds (s : State) : ∃ seconds,
    (∀ o, s.engine.outstanding = some o →
      o.elapsed ≤ seconds ∧ (o.elapsed ≤ o.command.timeout → seconds ≤ o.command.timeout)) ∧
    s.readTimer.engine =
      { s.engine with outstanding := s.engine.outstanding.map fun o => { o with elapsed := seconds } } := by
  obtain ⟨none, e⟩ | ⟨o, some, e⟩ := readTimer_cases s
  · refine ⟨0, by simp [none], ?_⟩
    rw [e, none]
    exact congrArg (fun x => { s.engine with outstanding := x }) none
  · refine ⟨(o.later (Config.secondsPassed s.freeReads)).elapsed, fun o' h => ?_, ?_⟩
    · obtain rfl : o = o' := Option.some.inj (some.symm.trans h)
      exact ⟨le_later_elapsed o _, later_elapsed_le o _⟩
    · rw [e, some]
      rfl

theorem engineFields_at {s u : State} (seconds : Nat)
    (h : u.engine = { s.engine with outstanding := s.engine.outstanding.map fun o => { o with elapsed := seconds } })
    (k : Keeps [.engine, .freeReads] s u) : u.engineFields =
      u8 s.engine.state.code ++ u8 s.engine.errorCount ++ flag s.engine.autoRecovery ++ u8 s.engine.probeRun ++
        u8 s.holder.activityCode ++
        optionalField 6 (fun o => u8 o.command.kind ++ [o.tag] ++ u32 seconds) s.engine.outstanding ++
        optionalField 1 (fun x => [x]) s.engine.expiredTag ++ [s.engine.nextTag] ++ flag s.engine.coverClosed ++
        flag s.engine.startUpFlag ++ flag s.media.roll.clearOutPending ++ optionalField 2 u16 s.engine.pendingTrim := by
  unfold State.engineFields
  rw [h, show u.holder = s.holder from k.at .holder, show u.media = s.media from k.at .media]
  cases s.engine.outstanding <;> rfl

/-- Settles O14: reading the timer is the one query that writes. -/
theorem printerQueries : Obligations.PrinterQueries := by
  refine ⟨fun tag p s h => ⟨?_, ?_, ?_⟩, fun tag s h => ⟨?_, ?_⟩, fun tag s h => ?_⟩
  · intro hl bad
    exact runRequest_onlyReplied s h _ _ _ takeMediaQuery _ _
      (by simp [takeMediaQuery, wrongLength_eq_false hl, bad, State.refuse])
  · intro k hl hk
    have rule := takeMediaQuery_kind (s := s.countTaken) hl hk
    cases hm : s.media.kinds[k] with
    | none =>
      rw [show s.countTaken.media.kinds[k] = none from hm] at rule
      exact runRequest_onlyReplied s h _ _ _ takeMediaQuery _ _ rule
    | some m =>
      rw [show s.countTaken.media.kinds[k] = some m from hm] at rule
      exact runRequest_onlyReplied s h _ _ _ takeMediaQuery _ _
        (rule.trans (congrArg s.countTaken.accept m.fields_eq))
  · exact runRequest_onlyReplied s h _ _ _ takeRollQuery _ _ rfl
  · exact fun a ha => runRequest_onlyReplied s h _ _ _ takeAttemptQuery _ _ (takeAttemptQuery_attempt (s := s.countTaken) ha)
  · exact fun ha => runRequest_onlyReplied s h _ _ _ takeAttemptQuery _ _ (takeAttemptQuery_none (s := s.countTaken) ha)
  · obtain ⟨seconds, within, engine⟩ := readTimer_seconds s.countTaken
    obtain ⟨t, ht, replied, notices, marked, keeps, left⟩ := runRequest_writes s h 0x32 tag [] takeEngineQuery _ _
      s.countTaken.readTimer [.engine, .freeReads] false rfl (keeps_readTimer _).mono (.of_keeps (keeps_readTimer _))
    refine ⟨t, seconds, ht, within, (left.at .engine).trans engine, ?_, notices, marked.unmarked Bool.false_ne_true, keeps⟩
    rw [engineFields_at seconds engine (keeps_readTimer _)] at replied
    exact replied

/-! ### SUPPLY_QUERY, COLOUR_QUERY, HISTORY_QUERY and GAINS_QUERY (R114, R121, R130, R145) -/

theorem takeSupplyQuery_channel {s : State} {p : List Byte} {k : Fin 12} (hl : p.length = 1) (h : byteAt p 0 = k.val) :
    takeSupplyQuery p s = s.accept ((s.channel k).fields ++ u32 (s.baySum k) ++ (s.bay k .first).fields ++
      (s.bay k .second).fields ++ s.ink.sizes.fields) := by
  have inRange : ¬11 < byteAt p 0 := by omega
  simp [takeSupplyQuery, wrongLength_eq_false hl, inRange, channelAt_eq h]

theorem takeColourQuery_absent {s : State} {p : List Byte} {k : Fin 8} (hl : p.length = 1) (h : byteAt p 0 = k.val)
    (hs : s.colour.settings[k] = none) : takeColourQuery p s = s.refuse .notFound := by
  have inRange : ¬7 < byteAt p 0 := by omega
  simp [takeColourQuery, wrongLength_eq_false hl, inRange, kindAt_eq h, hs]

theorem takeColourQuery_present {s : State} {p : List Byte} {k : Fin 8} {v : VerdictSettings} (hl : p.length = 1)
    (h : byteAt p 0 = k.val) (hs : s.colour.settings[k] = some v) : takeColourQuery p s = s.accept v.fields := by
  have inRange : ¬7 < byteAt p 0 := by omega
  simp [takeColourQuery, wrongLength_eq_false hl, inRange, kindAt_eq h, hs]

theorem HistoryEntry.fields_eq (e : HistoryEntry) : e.fields =
    u32 e.order.toNat ++ u8 e.attempt ++ u32 e.clock.toNat ++ [if e.passed then 1 else 2] ++ u16 e.mean ++ u16 e.max ++
      u8 e.worst := by
  unfold HistoryEntry.fields
  cases e.passed <;> rfl

/-- Settles O15: each query by its rule's equation. -/
theorem supplyAndColourQueries : Obligations.SupplyAndColourQueries := by
  refine ⟨fun tag p s h hl => ⟨fun bad => ?_, fun k hk => ?_⟩, fun tag p s h hl => ⟨fun bad => ?_, fun k hk => ?_⟩,
    fun tag p s g x h hl hs => ?_⟩
  · exact runRequest_onlyReplied s h _ _ _ takeSupplyQuery _ _
      (by simp [takeSupplyQuery, wrongLength_eq_false hl, bad, State.refuse])
  · intro c one two bay
    refine runRequest_onlyReplied s h _ _ _ takeSupplyQuery _ _
      ((takeSupplyQuery_channel (s := s.countTaken) hl hk).trans rfl)
  · exact runRequest_onlyReplied s h _ _ _ takeColourQuery _ _
      (by simp [takeColourQuery, wrongLength_eq_false hl, bad, State.refuse])
  · cases hv : s.colour.settings[k] with
    | none => exact runRequest_onlyReplied s h _ _ _ takeColourQuery _ _ (takeColourQuery_absent (s := s.countTaken) hl hk hv)
    | some v =>
      exact runRequest_onlyReplied s h _ _ _ takeColourQuery _ _ (takeColourQuery_present (s := s.countTaken) hl hk hv)
  · have selects : SelectsGainSet s.countTaken p g x := hs
    refine ⟨runRequest_onlyReplied s h _ _ _ takeHistoryQuery _ _ ((withGainSet_selected hl selects _ _ _).trans ?_),
      runRequest_onlyReplied s h _ _ _ takeGainsQuery _ _ (withGainSet_selected hl selects _ _ _)⟩
    rw [← funext HistoryEntry.fields_eq]
    rfl

/-! ### EDITION_QUERY, PRICES_QUERY and ACCOUNT_QUERY (R157, R161, R179) -/

/-- Settles O16: the two counts are the model's own. -/
theorem editionQueryReturnsRecord : Obligations.EditionQueryReturnsRecord := by
  refine fun tag p s h => ⟨fun hl => ?_, fun hl absent => ?_, fun i e hl found present => ?_⟩
  · exact runRequest_onlyReplied s h _ _ _ takeEditionQuery _ _ (if_pos (wrongLength_eq_true hl))
  · exact runRequest_onlyReplied s h _ _ _ takeEditionQuery _ _ (withEdition_absent (s := s.countTaken) hl absent _)
  · intro unfinished
    have counted : s.unfinishedNaming e.reference = unfinished := by
      unfold State.unfinishedNaming
      refine congrFun (congrArg List.countP (funext fun j => ?_)) _
      cases s.orders.slots[j] <;> rfl
    refine runRequest_onlyReplied s h _ _ _ takeEditionQuery _ _
      ((withEdition_present (s := s.countTaken) hl found present _).trans (congrArg s.countTaken.accept ?_))
    rw [← counted]
    show s.editionFields i e = _
    unfold State.editionFields State.editionSuspended
    cases s.colour.gainSets[editionSet i] <;> rfl

/-- Settles O17: the table's fields in their order. -/
theorem pricesQueryReturnsTable : Obligations.PricesQueryReturnsTable := by
  refine fun tag p s h => ⟨fun hl => ?_, fun hl => ?_⟩
  · exact runRequest_onlyReplied s h _ _ _ takePricesQuery _ _
      (if_pos (wrongLength_eq_true (mt List.eq_nil_of_length_eq_zero hl)))
  · subst hl
    exact runRequest_onlyReplied s h _ _ _ takePricesQuery _ _ (congrArg s.countTaken.accept (by
      simp only [PriceTable.fields, fieldsOf, List.append_assoc]
      rfl))

theorem takeAccountQuery_account {s : State} {p : List Byte} {k : Fin 64} (hl : p.length = 1) (h : byteAt p 0 = k.val) :
    takeAccountQuery p s = s.accept (s.costs.accounts[k]).fields := by
  have inRange : ¬63 < byteAt p 0 := by omega
  simp [takeAccountQuery, wrongLength_eq_false hl, inRange, accountAt_eq h]

/-- Settles O18: the record's fields in their order. -/
theorem accountQueryReturnsRecord : Obligations.AccountQueryReturnsRecord := by
  refine fun tag p s h => ⟨fun hl => ?_, fun hl bad => ?_, fun k hl hk => ?_⟩
  · exact runRequest_onlyReplied s h _ _ _ takeAccountQuery _ _ (if_pos (wrongLength_eq_true hl))
  · exact runRequest_onlyReplied s h _ _ _ takeAccountQuery _ _
      (by simp [takeAccountQuery, wrongLength_eq_false hl, bad, State.refuse])
  · exact runRequest_onlyReplied s h _ _ _ takeAccountQuery _ _ (takeAccountQuery_account (s := s.countTaken) hl hk)

end Sys2Proof.Machine

/-! Placement past flaw zones, the bands of a print, and the posting to an account (O52, O55). -/

namespace Sys2Proof.Machine

/-! ### The search of a placement (R35) -/

/-- The running maximum of `f` over a list, from `s` on. -/
theorem foldl_max_spec {α : Type} (f : α → Nat) (l : List α) (s : Nat) :
    let r := l.foldl (fun best x => Nat.max best (f x)) s
    s ≤ r ∧ (∀ x ∈ l, f x ≤ r) ∧ (r = s ∨ ∃ x ∈ l, r = f x) := by
  induction l generalizing s with
  | nil => simp
  | cons x l ih =>
    obtain ⟨start, all, attained⟩ := ih (Nat.max s (f x))
    have left : s ≤ Nat.max s (f x) := Nat.le_max_left _ _
    have right : f x ≤ Nat.max s (f x) := Nat.le_max_right _ _
    refine ⟨left.trans start, fun y hy => ?_, ?_⟩
    · obtain rfl | hy := List.mem_cons.1 hy
      · exact right.trans start
      · exact all y hy
    · obtain same | ⟨y, hy, e⟩ := attained
      · obtain e | e := max_choice s (f x)
        · exact .inl (same.trans e)
        · exact .inr ⟨x, List.mem_cons_self, same.trans e⟩
      · exact .inr ⟨y, List.mem_cons_of_mem _ hy, e⟩

theorem Zone.hits_iff (z : Zone) (s need : Nat) :
    z.hits s need = true ↔ z.start ≤ z.stop ∧ s ≤ z.stop ∧ z.start < s + need := by
  simp [Zone.hits, Zone.active, and_assoc]

/-- Step 3 of R35: past every zone hit, and no further than one of them demands. -/
theorem pastZones_spec (zones : List Zone) (need s : Nat) :
    s ≤ pastZones zones need s ∧ (∀ z ∈ zones, z.hits s need = true → z.stop < pastZones zones need s) ∧
      (pastZones zones need s = s ∨ ∃ z ∈ zones, z.hits s need = true ∧ pastZones zones need s = z.stop + 1) := by
  obtain ⟨start, all, attained⟩ := foldl_max_spec (fun z : Zone => z.stop + 1) (zones.filter (·.hits s need)) s
  refine ⟨start, fun z hz hit => all z (List.mem_filter.2 ⟨hz, hit⟩), attained.imp_right ?_⟩
  rintro ⟨z, hz, e⟩
  obtain ⟨mem, hit⟩ := List.mem_filter.1 hz
  exact ⟨z, mem, hit, e⟩

/-- The zones not yet passed at `s`. -/
def zonesAhead (zones : List Zone) (s : Nat) : Nat := zones.countP fun z => decide (s ≤ z.stop)

/-- A step that passes a zone leaves fewer zones ahead. -/
theorem zonesAhead_lt {zones : List Zone} {z : Zone} {s u : Nat} (hz : z ∈ zones) (ahead : s ≤ z.stop)
    (passed : z.stop < u) : zonesAhead zones u < zonesAhead zones s := by
  unfold zonesAhead
  induction zones with
  | nil => cases hz
  | cons y zones ih =>
    have mono : zones.countP (fun z => decide (u ≤ z.stop)) ≤ zones.countP fun z => decide (s ≤ z.stop) :=
      List.countP_mono_left fun x _ h => by simp at h ⊢; omega
    simp only [List.countP_cons, decide_eq_true_eq]
    obtain rfl | hz := List.mem_cons.1 hz
    · rw [if_pos ahead, if_neg (by omega)]
      omega
    · have := ih hz
      split <;> split <;> omega

/-- With a repetition left for each zone ahead, the search ends at the first start that no zone hits. -/
theorem searchStart_spec (zones : List Zone) (need fuel s : Nat) (enough : zonesAhead zones s ≤ fuel) :
    s ≤ searchStart zones need fuel s ∧ (∀ z ∈ zones, z.hits (searchStart zones need fuel s) need = false) ∧
      ∀ u, s ≤ u → u < searchStart zones need fuel s → ∃ z ∈ zones, z.hits u need = true := by
  induction fuel generalizing s with
  | zero =>
    refine ⟨Nat.le_refl s, fun z hz => ?_, fun u h k => absurd k (Nat.not_lt.2 h)⟩
    have passed := List.countP_eq_zero.1 (Nat.le_zero.1 enough) z hz
    rw [Bool.eq_false_iff]
    intro hit
    exact passed (decide_eq_true ((z.hits_iff s need).1 hit).2.1)
  | succ fuel ih =>
    unfold searchStart
    split
    · next hit =>
      obtain ⟨z, hz, hit⟩ := List.any_eq_true.1 hit
      obtain ⟨start, past, attained⟩ := pastZones_spec zones need s
      have fewer := zonesAhead_lt hz ((z.hits_iff _ _).1 hit).2.1 (past z hz hit)
      obtain ⟨grows, clear, first⟩ := ih (pastZones zones need s) (by omega)
      refine ⟨start.trans grows, clear, fun u h k => ?_⟩
      by_cases later : pastZones zones need s ≤ u
      · exact first u later k
      · obtain same | ⟨y, hy, hitY, e⟩ := attained
        · omega
        · obtain ⟨active, -, reaches⟩ := (y.hits_iff _ _).1 hitY
          exact ⟨y, hy, (y.hits_iff _ _).2 ⟨active, by omega, by omega⟩⟩
    · next none =>
      refine ⟨Nat.le_refl s, fun z hz => ?_, fun u h k => absurd k (Nat.not_lt.2 h)⟩
      simp only [List.any_eq_true, not_exists, not_and, Bool.not_eq_true] at none
      exact none z hz

/-! ### The bands of a print (R25) -/

/-- The bands but the last are whole, and the last is not empty. -/
theorem bandCount_bounds {length band : Nat} (hl : 0 < length) (hb : 0 < band) :
    (bandCount length band - 1) * band < length ∧ length ≤ bandCount length band * band := by
  unfold bandCount
  have below := Nat.div_mul_le_self (length + band - 1) band
  have above := Nat.lt_div_mul_add (a := length + band - 1) hb
  rw [Nat.sub_mul, Nat.one_mul]
  omega

/-- All bands but the last are of the effective length, and the last takes what is left. -/
theorem bands_eq (length band n : Nat) : (List.range (n + 1)).map (fun i => bandMm length band (n + 1) (i + 1)) =
    List.replicate n band ++ [length - n * band] := by
  rw [List.range_succ, List.map_append]
  congr 1
  · rw [← List.length_range (n := n), ← List.map_const, List.length_range]
    refine List.map_congr_left fun i hi => if_pos ?_
    have := List.mem_range.1 hi
    omega
  · simp [bandMm]

/-- Settles O52: the search by the zones still ahead of it, the bands as whole ones and a last. -/
theorem placementAndBands : Obligations.PlacementAndBands := by
  refine ⟨fun r need => ?_, fun length band hl hb => ?_⟩
  · intro clear start
    have clear_iff (s : Nat) : clear s ↔ ∀ z ∈ r.zones.toList, z.hits s need = false := by
      simp only [clear, ← Bool.not_eq_true, Zone.hits_iff, not_and]
      constructor
      · intro h z hz
        obtain ⟨i, hi, rfl⟩ := List.mem_iff_getElem.1 hz
        exact h ⟨i, by simpa using hi⟩
      · exact fun h i => h _ (by simp [Vector.getElem_mem])
    have enough : zonesAhead r.zones.toList r.positionMm ≤ 8 := List.countP_le_length.trans (by simp)
    obtain ⟨after, none, first⟩ := searchStart_spec r.zones.toList need 8 r.positionMm enough
    refine ⟨after, (clear_iff _).2 none, fun s h k c => ?_, rfl⟩
    obtain ⟨z, hz, hit⟩ := first s h k
    exact Bool.false_ne_true (((clear_iff s).1 c z hz).symm.trans hit)
  · intro total bands
    obtain ⟨below, above⟩ := bandCount_bounds hl hb
    obtain ⟨n, hn⟩ : ∃ n, total = n + 1 := Nat.exists_eq_succ_of_ne_zero fun zero => by
      have : length ≤ total * band := above
      rw [zero, Nat.zero_mul] at this
      omega
    have split : bands = List.replicate n band ++ [length - n * band] := by
      rw [← bands_eq, ← hn]
    have last : n * band < length := by simpa [show bandCount length band = n + 1 from hn] using below
    have whole : length ≤ n * band + band := by
      simpa [show bandCount length band = n + 1 from hn, Nat.succ_mul] using above
    refine ⟨below, above, ?_, ?_⟩
    · rw [split, List.sum_append, List.sum_replicate]
      simp
      omega
    · intro b hb
      rw [split, List.mem_append, List.mem_replicate, List.mem_singleton] at hb
      omega

/-! ### A posting (R176, R177) -/

theorem min_eq_ite (bound n : Nat) : min bound n = if bound < n then bound else n := by
  split <;> omega

/-- A sum that passes its bound, or an ink cost that had (R177). -/
theorem Account.saturates_iff (a : Account) (p : Posting) :
    let field (old added : Nat) : Nat := if max48 < old + added then max48 else old + added
    a.saturates p = true ↔
      max48 < a.ink + p.ink ∨ max48 < a.media + p.media ∨ max48 < a.cut + p.cut ∨ max48 < a.handling + p.handling ∨
        max48 < field a.ink p.ink + field a.media p.media + field a.cut p.cut + field a.handling p.handling ∨
        65535 < a.acceptedPrints + p.prints ∨ 65535 < a.attemptsPosted + p.attempts ∨ p.inkSaturated = true := by
  simp only [Account.saturates, Account.posted, satAdd, min_eq_ite, Bool.false_or, Bool.or_eq_true, decide_eq_true_eq]
  tauto

theorem Account.posted_saturated (a : Account) (p : Posting) :
    (a.posted p).saturated = (a.saturated || a.saturates p) := by
  simp only [Account.saturates, Account.posted, Bool.false_or, Bool.or_assoc]

theorem post_costs (s : State) (i : Fin 64) (p : Posting) : (s.post i p).costs =
    { s.costs with accounts := s.costs.accounts.set i (s.costs.accounts[i].posted p) } := (keeps_raiseIf _ _ _).at .costs

theorem post_store (s : State) (i : Fin 64) (p : Posting) : (s.post i p).store = { s.store with dirty := true } :=
  (keeps_raiseIf _ _ _).at .store

theorem post_pending (s : State) (i : Fin 64) (p : Posting) : (s.post i p).notices.pending =
    if s.costs.accounts[i].saturates p then s.notices.pending ||| 32#8 else s.notices.pending := raiseIf_pending _ _ _

/-- Settles O55: the account's record by its fields, the flag and COST by the one condition of `saturates_iff`. -/
theorem postingAddsToOneAccount : Obligations.PostingAddsToOneAccount := by
  intro s i p a field sum noted t
  have flagged : a.saturates p = decide noted := Bool.eq_iff_iff.2 ((a.saturates_iff p).trans decide_eq_true_iff.symm)
  refine ⟨keeps_post s i p, post_store s i p, by rw [post_costs], by rw [post_costs], fun j other => ?_, ?_, ?_⟩
  · rw [post_costs]
    exact Vector.getElem_set_ne i.isLt j.isLt fun same => other (Fin.ext same.symm)
  · have record : t.costs.accounts[i] = a.posted p := by
      rw [post_costs]
      exact Vector.getElem_set_self _
    rw [record, ← flagged, ← Account.posted_saturated]
    simp only [Account.posted, accountTotal, satAdd, min_eq_ite]
    rfl
  · rw [post_pending, flagged]
    simp only [decide_eq_true_eq]

end Sys2Proof.Machine

/-! The requests to the order table (O19 to O21). -/

namespace Sys2Proof.Machine

/-! ### A request that may raise categories -/

/-- An answered request whose rule raised categories at most, and marked the store when `b` holds. -/
theorem runRequest_raises (s : State) (h : Takes s) (kind tag : Byte) (p : List Byte) (rule : RequestRule)
    (status : Status) (fields : List Byte) (u : State) (changed : List Block) (b : Bool)
    (hr : rule p s.countTaken = { state := u, status := status, fields := fields })
    (hk : Keeps (changed ++ linkBlocks) s.countTaken u) (hl : LinkKept s.countTaken u) (hm : Marks b s.countTaken u)
    (out : (!changed.contains .quiet) = true := by decide) :
    ∃ t, s.runRequest kind tag p rule = .next t ∧ Replied s t kind tag status fields ∧ MarkedIf (b = true) s t ∧
      Keeps (changed ++ linkBlocks) s t ∧ Keeps linkBlocks u t ∧ t.notices.pending = u.notices.pending := by
  obtain ⟨-, unquiet, nothingHeld, -⟩ := id h
  have quiet : u.quiet = none := by
    refine (hk.at .quiet ?_).trans unquiet
    simp only [List.mem_append, linkBlocks]
    simpa using out
  obtain ⟨t, ht, left, replied, notices, -, marked, unmarked⟩ := runRequest_answered s h kind tag p rule _ hr quiet
    hl.receiver (hl.holding.trans nothingHeld) hl.counters
    fun _ => ⟨hl.sending, hl.queue.imp_left fun q => ⟨q.1, q.2.trans (List.append_nil _).symm⟩⟩
  refine ⟨t, ht, replied, Marks.markedIf (s := s) hm .rfl marked unmarked, ?_, left, notices.1⟩
  refine ((keeps_countTaken s).mono ?_).trans (hk.trans (left.mono ?_)) <;> simp [linkBlocks]

/-! ### The deadline (R21) -/

theorem Order.pastDeadline_some {o : Order} {d : Word32} (h : o.deadline = some d) (clock : Word32) :
    o.pastDeadline clock = decide (d.toNat ≤ clock.toNat) := by
  simp [Order.pastDeadline, h, BitVec.le_def]

theorem Order.pastDeadline_none {o : Order} (h : o.deadline = none) (clock : Word32) : o.pastDeadline clock = false := by
  simp [Order.pastDeadline, h]

/-! ### An order becomes final (R22) -/

theorem finishOrder_orders (s : State) (i : Fin 40) (o : Order) (final : OrderState) :
    (s.finishOrder i o final).orders = { s.orders with
      slots := s.orders.slots.set i (some { o with
        state := final, holds := {}, endTime := some s.orders.clock, cancelRequested := false,
        late := o.late || (!o.late && o.pastDeadline s.orders.clock) }),
      arrival := s.orders.arrival.filter fun j => j != i } :=
  ((keeps_raise _ .order).at .orders).trans ((keeps_raiseIf _ _ _).at .orders)

theorem finishOrder_pending (s : State) (i : Fin 40) (o : Order) (final : OrderState) :
    (s.finishOrder i o final).notices.pending =
      s.notices.pending ||| (if !o.late && o.pastDeadline s.orders.clock then 3#8 else 1#8) := by
  refine (raise_pending _ _).trans ?_
  rw [raiseIf_pending]
  show (if !o.late && o.pastDeadline s.orders.clock then s.notices.pending ||| 2#8 else s.notices.pending) ||| 1#8 = _
  split
  · exact BitVec.or_assoc _ _ _
  · rfl

/-! ### CANCEL and RELEASE (R11, R12) -/

section
variable {s : State} {p : List Byte} {i : Fin 40} {o : Order}

theorem takeCancel_absent (hl : p.length = 4) (h : s.findOrder (word32At p 0) = none) :
    takeCancel p s = s.refuse .notFound := by
  simp [takeCancel, wrongLength_eq_false hl, h]

theorem takeCancel_waiting (hl : p.length = 4) (h : s.findOrder (word32At p 0) = some i) (ho : s.orders.slots[i] = some o)
    (hw : o.state.waiting = true) : takeCancel p s = (s.finishOrder i o .cancelled).accept [] := by
  cases hs : o.state <;> simp_all [takeCancel, wrongLength_eq_false hl, OrderState.waiting]

theorem takeCancel_active (hl : p.length = 4) (h : s.findOrder (word32At p 0) = some i) (ho : s.orders.slots[i] = some o)
    (ha : o.state = .active) : takeCancel p s = (s.setOrder i { o with cancelRequested := true }).accept [] := by
  simp [takeCancel, wrongLength_eq_false hl, h, ho, ha]

theorem takeCancel_final (hl : p.length = 4) (h : s.findOrder (word32At p 0) = some i) (ho : s.orders.slots[i] = some o)
    (hf : o.state.unfinished = false) : takeCancel p s = s.refuse .wrongState := by
  cases hs : o.state <;> simp_all [takeCancel, wrongLength_eq_false hl, OrderState.unfinished]

theorem takeRelease_absent (hl : p.length = 4) (h : s.findOrder (word32At p 0) = none) :
    takeRelease p s = s.refuse .notFound := by
  simp [takeRelease, wrongLength_eq_false hl, h]

theorem takeRelease_present (hl : p.length = 4) (h : s.findOrder (word32At p 0) = some i)
    (ho : s.orders.slots[i] = some o) : takeRelease p s = if o.state.unfinished then s.refuse .wrongState
      else (s.setOrders { s.orders with slots := s.orders.slots.set i none }).accept [] := by
  simp [takeRelease, wrongLength_eq_false hl, h, ho]

end

/-- Settles O21: by the state of the order. -/
theorem cancelAndRelease : Obligations.CancelAndRelease := by
  refine fun tag p s h hl => ⟨fun absent => ⟨?_, ?_⟩, fun i o found present => ⟨fun waiting => ?_, fun active => ?_,
    fun final => ⟨?_, ?_⟩, fun unfinished => ?_⟩⟩
  · exact runRequest_onlyReplied s h _ _ _ takeCancel _ _ (takeCancel_absent (s := s.countTaken) hl absent)
  · exact runRequest_onlyReplied s h _ _ _ takeRelease _ _ (takeRelease_absent (s := s.countTaken) hl absent)
  · intro late
    have becomesLate : (!o.late && o.pastDeadline s.orders.clock) = late := by
      simp only [late]
      cases hd : o.deadline with
      | none => simp [Order.pastDeadline_none hd]
      | some d => simp [Order.pastDeadline_some hd]
    obtain ⟨t, ht, replied, marked, keeps, left, pending⟩ := runRequest_raises s h 0x12 tag p takeCancel _ _ _ [.orders] false
      (takeCancel_waiting (s := s.countTaken) hl found present waiting) (keeps_finishOrder _ _ _ _).mono
      (link_finishOrder _ _ _ _) (.of_keeps (keeps_finishOrder _ _ _ _))
    refine ⟨t, ht, replied, marked.unmarked Bool.false_ne_true, keeps, ?_, pending.trans ((finishOrder_pending _ _ _ _).trans
      (congrArg (s.notices.pending ||| ·) (if_congr (Bool.eq_iff_iff.1 becomesLate) rfl rfl)))⟩
    rw [← becomesLate]
    exact (left.at .orders).trans (finishOrder_orders _ _ _ _)
  · obtain ⟨t, ht, replied, notices, marked, keeps, left⟩ := runRequest_writes s h 0x12 tag p takeCancel _ _ _ [.orders] false
      (takeCancel_active (s := s.countTaken) hl found present active) (keeps_setOrders _ _).mono (.of_store_eq rfl)
    exact ⟨t, ht, ⟨replied, notices, marked.unmarked Bool.false_ne_true, keeps⟩, left.at .orders⟩
  · exact runRequest_onlyReplied s h _ _ _ takeCancel _ _ (takeCancel_final (s := s.countTaken) hl found present final)
  · obtain ⟨t, ht, replied, notices, marked, keeps, left⟩ := runRequest_writes s h 0x13 tag p takeRelease _ _ _ [.orders] false
      ((takeRelease_present (s := s.countTaken) hl found present).trans (if_neg (by simp [final])))
      (keeps_setOrders _ _).mono (.of_store_eq rfl)
    exact ⟨t, ht, ⟨replied, notices, marked.unmarked Bool.false_ne_true, keeps⟩, left.at .orders⟩
  · exact runRequest_onlyReplied s h _ _ _ takeRelease _ _
      ((takeRelease_present (s := s.countTaken) hl found present).trans (if_pos unfinished))

/-! ### The end of an accepted change to an order (R8, R10, R17) -/

/-- What the re-evaluation does depends on the orders and the pending categories it starts from. -/
theorem Reevaluated.of_eq {v w u : State} (h : Reevaluated v u) (ho : w.orders = v.orders)
    (hn : w.notices.pending = v.notices.pending) : Reevaluated w u := by
  unfold Reevaluated at *
  rw [ho, hn]
  exact h

theorem acceptIf_eq (s : State) (fields : List Byte) {b : Bool} {P : Prop} [Decidable P] (h : b = true ↔ P) :
    s.acceptIf b fields = { state := s, status := if P then .adjusted else .ok, fields := fields } := by
  simp only [State.acceptIf, h]

/-- An order record written, LATE raised when `late` holds, the re-evaluation and the slot's turn: the end of SUBMIT and
of AMEND. -/
theorem runRequest_orders (s : State) (h : Takes s) (kind tag : Byte) (p : List Byte) (rule : RequestRule)
    (status : Status) (fields : List Byte) (orders : OrderBlock) (late : Bool)
    (hr : rule p s.countTaken = { state := ((s.countTaken.setOrders orders).raiseIf late .late).reevaluate.serveSlot,
                                  status := status, fields := fields }) :
    ∃ t, s.runRequest kind tag p rule = .next t ∧ Replied s t kind tag status fields ∧ StoreUnmarked s t ∧
      Served [.orders] s t fun u => Reevaluated { s with
        orders := orders,
        notices := { s.notices with pending := if late then s.notices.pending ||| 2#8 else s.notices.pending } } u := by
  have raised : Keeps [.orders, .notices, .server] s.countTaken
      ((s.countTaken.setOrders orders).raiseIf late .late).reevaluate :=
    (((Keeps.refl _ _).then (keeps_setOrders s.countTaken orders)).then (keeps_raiseIf _ _ _)).then (keeps_reevaluate _)
  obtain ⟨t, ht, replied, marked, served⟩ := runRequest_serves s h kind tag p rule status fields _ [.orders] false _ hr
    ((reevaluated_reevaluate _).of_eq (w := { s with
        orders := orders,
        notices := { s.notices with pending := if late then s.notices.pending ||| 2#8 else s.notices.pending } })
      ((keeps_raiseIf (s.countTaken.setOrders orders) late .late).at .orders).symm (raiseIf_pending (s.countTaken.setOrders orders) late .late).symm)
    raised.mono (((link_setOrders _ _).trans (link_raiseIf _ _ _)).trans (link_reevaluate _)) (.of_keeps raised)
  exact ⟨t, ht, replied, marked.unmarked Bool.false_ne_true, served⟩

/-! ### AMEND (R9, R10) -/

theorem amendMalformed_iff (p : List Byte) : amendMalformed p = true ↔
    p.length ≠ 20 ∨ 1 < byteAt p 4 ∨ 2 < byteAt p 6 ∨ 2 < byteAt p 11 ∨ 1 < byteAt p 18 ∨
      (byteAt p 18 = 1 ∧ 1 < byteAt p 19) := by
  simp [amendMalformed, wrongLength, flagOk, or_assoc]

theorem takeAmend_absent {s : State} {p : List Byte} (hm : amendMalformed p = false)
    (h : s.findOrder (word32At p 0) = none) : takeAmend p s = s.refuse .notFound := by
  simp [takeAmend, hm, h]

theorem takeAmend_present {s : State} {p : List Byte} {i : Fin 40} {o : Order} (hm : amendMalformed p = false)
    (h : s.findOrder (word32At p 0) = some i) (ho : s.orders.slots[i] = some o) : takeAmend p s =
      if o.state = .active then s.refuse .busy else if o.state.unfinished = false then s.refuse .wrongState
      else if s.amendOverCeiling p o then s.refuse .overCeiling else s.amend i o p := by
  simp [takeAmend, hm, h, ho]

theorem OrderState.waiting_iff (x : OrderState) : x.waiting = true ↔ x ≠ .active ∧ x.unfinished = true := by
  cases x <;> decide

theorem Order.pastDeadline_eq (o : Order) (clock : Word32) : o.pastDeadline clock =
    match o.deadline with
    | some d => decide (d.toNat ≤ clock.toNat)
    | none => false := by
  cases hd : o.deadline with
  | none => exact Order.pastDeadline_none hd clock
  | some d => exact Order.pastDeadline_some hd clock

/-- Settles O20: the checks in their order, then the law of a record written (`runRequest_orders`). -/
theorem amendChangesWaitingOrder : Obligations.AmendChangesWaitingOrder := by
  refine ⟨fun tag p s h bad => ?_, fun tag p s h hl h4 h6 h11 h18 h19 => ?_⟩
  · exact runRequest_onlyReplied s h _ _ _ takeAmend _ _ (if_pos ((amendMalformed_iff p).2 bad))
  have wellFormed : amendMalformed p = false := by
    rw [Bool.eq_false_iff, Ne, amendMalformed_iff]
    omega
  refine ⟨fun absent => ?_, fun i o found present => ?_⟩
  · exact runRequest_onlyReplied s h _ _ _ takeAmend _ _ (takeAmend_absent (s := s.countTaken) wellFormed absent)
  have rule := takeAmend_present (s := s.countTaken) wellFormed found present
  refine ⟨fun active => ?_, fun final => ?_, fun waiting => ?_⟩
  · exact runRequest_onlyReplied s h _ _ _ takeAmend _ _ (rule.trans (if_pos active))
  · have inactive : o.state ≠ .active := fun e => by rw [e] at final; cases final
    exact runRequest_onlyReplied s h _ _ _ takeAmend _ _ (rule.trans ((if_neg inactive).trans (if_pos final)))
  · intro estimate
    obtain ⟨inactive, unfinished⟩ := (OrderState.waiting_iff _).1 waiting
    have notFinal : ¬o.state.unfinished = false := by simp [unfinished]
    rw [if_neg inactive, if_neg notFinal] at rule
    have exceeds : s.countTaken.amendOverCeiling p o = true ↔ byteAt p 11 = 1 ∧ u48At p 12 < estimate := by
      simp only [State.amendOverCeiling, Bool.and_eq_true, decide_eq_true_eq]
      rfl
    refine ⟨fun set below => ?_, fun within => ?_⟩
    · exact runRequest_onlyReplied s h _ _ _ takeAmend _ _ (rule.trans (if_pos (exceeds.2 ⟨set, below⟩)))
    · intro deadline late o'
      have amended : o.amended p s.orders.clock = o' := by
        unfold Order.amended
        dsimp only
        rw [Order.pastDeadline_eq]
        rfl
      have below : ¬s.countTaken.amendOverCeiling p o = true := fun e => by
        obtain ⟨set, low⟩ := exceeds.1 e
        exact Nat.not_le.2 low (within set)
      rw [if_neg below] at rule
      refine runRequest_orders s h 0x11 tag p takeAmend _ _ _ (late && !o.late) (rule.trans ?_)
      show s.countTaken.amend i o p = _
      unfold State.amend
      rw [acceptIf_eq _ _ (P := byteAt p 4 = 1 ∧ 7 < byteAt p 5) (by simp), show o.amended p s.countTaken.clock = o' from amended]
      rfl

end Sys2Proof.Machine

/-! SUBMIT (O19): what admission rests on, the checks in their order, and the record placed (R1 to R8, R16, R122). -/

namespace Sys2Proof.Machine

/-! ### Hold reasons, need, estimate and reference (R16, R34, R122, R169) -/

theorem margins_some {s : State} {k : Fin 8} {m : MediaKind} (h : s.media.kinds[k] = some m) :
    s.margins k = (m.lead, m.stripMargin, m.tail) := by
  simp [State.margins, h]

theorem margins_none {s : State} {k : Fin 8} (h : s.media.kinds[k] = none) : s.margins k = (0, 0, 0) := by
  simp [State.margins, h]

theorem holdsOrders_eq (x : SupplyState) : x.holdsOrders = decide (x ∈ [.reserve, .dry, .refilling, .fault]) := by
  cases x <;> decide

theorem chosenReference_named {s : State} {edition : Option Word32} {k : Fin 8} {i : Fin 16} {e : Edition}
    (h : edition.bind s.findEdition = some i) (he : s.editions[i] = some e) :
    s.chosenReference edition k =
      if e.state = .fixed then e.readings else (s.colour.settings[k]).bind (·.reference) := by
  simp [State.chosenReference, h, he]

theorem chosenReference_unnamed {s : State} {edition : Option Word32} {k : Fin 8}
    (h : edition.bind s.findEdition = none) :
    s.chosenReference edition k = (s.colour.settings[k]).bind (·.reference) := by
  simp [State.chosenReference, h]

theorem chosenReference_absent {s : State} {edition : Option Word32} {k : Fin 8} {i : Fin 16}
    (h : edition.bind s.findEdition = some i) (he : s.editions[i] = none) :
    s.chosenReference edition k = (s.colour.settings[k]).bind (·.reference) := by
  simp [State.chosenReference, h, he]

/-! ### The checks (R4 to R6) -/

section
variable {s : State} {p : List Byte}

theorem submitMalformed_iff (p : List Byte) : submitMalformed p = true ↔
    p.length ≠ 34 ∨ 1 < byteAt p 6 ∨ 1 < byteAt p 15 ∨ 1 < byteAt p 19 ∨ 1 < byteAt p 24 ∨ 1 < byteAt p 31 := by
  simp [submitMalformed, wrongLength, flagOk, or_assoc]

/-- An optional field is present when its indicator is 1 (R222). -/
theorem optionalAt_eq {α : Type} (p : List Byte) (i : Nat) (value : Nat → α) :
    optionalAt p i value = if byteAt p i = 1 then some (value (i + 1)) else none := by
  simp [optionalAt, flagAt]

theorem namedEdition_eq_some_iff (e : Edition) : s.namedEdition (submitFields p).edition = some e ↔
    ∃ i : Fin 16, byteAt p 6 = 1 ∧ s.findEdition (word32At p 7) = some i ∧ s.editions[i] = some e := by
  simp only [State.namedEdition, submitFields, optionalAt_eq, Option.bind_eq_some_iff]
  constructor
  · rintro ⟨i, ⟨ref, named, found⟩, present⟩
    split at named
    · next set =>
      obtain rfl := Option.some.inj named
      exact ⟨i, set, found, present⟩
    · cases named
  · rintro ⟨i, set, found, present⟩
    exact ⟨i, ⟨_, if_pos set, found⟩, present⟩

/-- SUBMIT's checks in their order, on a part whose link alone has counted the frame. -/
theorem takeSubmit_wellFormed (h : submitMalformed p = false) : takeSubmit p s.countTaken =
    if s.submitOutOfRange (submitFields p) then s.countTaken.refuse .badField
    else if (s.findOrder (word32At p 0)).isSome then s.countTaken.refuse .duplicate
    else if s.submitNotFound (submitFields p) then s.countTaken.refuse .notFound
    else if s.submitEditionClosed (submitFields p) then s.countTaken.refuse .wrongState
    else if s.submitEditionFull (submitFields p) then s.countTaken.refuse .editionFull
    else if s.submitNoReference (submitFields p) then s.countTaken.refuse .noReference
    else if s.submitOverCeiling (submitFields p) then s.countTaken.refuse .overCeiling
    else if s.freeSlot?.isNone then s.countTaken.refuse .full
    else s.countTaken.placeOrder (submitFields p) := by
  simp only [takeSubmit, h, State.submitChecks, checked_cons, checked_nil]
  rfl

theorem submitOutOfRange_of (h : byteAt p 4 < 2 ∨ 63 < byteAt p 4 ∨ 7 < byteAt p 5 ∨ u16At p 11 < 50 ∨
    30000 < u16At p 11 ∨ u16At p 13 < 100 ∨ 1600 < u16At p 13 ∨
    (byteAt p 15 = 1 ∧ (u16At p 16 = 0 ∨ 4096 ≤ u16At p 16)) ∨ 1 < byteAt p 32 ∨
    (∃ e, s.namedEdition (submitFields p).edition = some e ∧ e.mediaKind.val ≠ byteAt p 5)) :
    s.submitOutOfRange (submitFields p) = true := by
  unfold State.submitOutOfRange
  obtain h | h | h | h | h | h | h | h | h | ⟨e, named, other⟩ := h
  case inr.inr.inr.inr.inr.inr.inr.inl =>
    obtain ⟨set, bad⟩ := h
    have channels : (submitFields p).channels = some (u16At p 16) := (optionalAt_eq _ _ _).trans (if_pos set)
    obtain none | above := bad
    · simp [channels, none]
    · simp [channels, badChannelSet, above]
  case inr.inr.inr.inr.inr.inr.inr.inr.inr => simp [named, show e.mediaKind.val ≠ (submitFields p).mediaKind from other]
  all_goals simp [submitFields, h]

theorem submitNotFound_of (h : s.media.kinds[(submitFields p).kind] = none ∨
    (byteAt p 6 = 1 ∧ s.findEdition (word32At p 7) = none)) : s.submitNotFound (submitFields p) = true := by
  obtain undefined | ⟨set, absent⟩ := h
  · simp [State.submitNotFound, undefined]
  · have edition : (submitFields p).edition = some (word32At p 7) := (optionalAt_eq _ _ _).trans (if_pos set)
    simp [State.submitNotFound, State.namedEdition, edition, absent]

theorem submitEditionClosed_of {e : Edition} (h : s.namedEdition (submitFields p).edition = some e)
    (closed : e.state ∈ [.complete, .closed]) : s.submitEditionClosed (submitFields p) = true := by
  simpa [State.submitEditionClosed, h] using closed

theorem submitEditionFull_of {e : Edition} (h : s.namedEdition (submitFields p).edition = some e)
    (full : e.accepted + s.unfinishedNaming e.reference = e.size) : s.submitEditionFull (submitFields p) = true := by
  simp [State.submitEditionFull, h, full]

theorem submitEdition_eq (p : List Byte) :
    (submitFields p).edition = if byteAt p 6 = 1 then some (word32At p 7) else none := optionalAt_eq _ _ _

theorem submitChecks_eq (p : List Byte) : (submitFields p).checks =
    (byteAt p 32 == 1 || (if byteAt p 6 = 1 then some (word32At p 7) else none).isSome) := by
  rw [← submitEdition_eq]
  rfl

theorem submitCeiling_eq (p : List Byte) :
    (submitFields p).ceiling = if byteAt p 24 = 1 then some (u48At p 25) else none := optionalAt_eq _ _ _

theorem submitDeadline_eq (p : List Byte) :
    (submitFields p).deadline = if byteAt p 19 = 1 then some (word32At p 20) else none := optionalAt_eq _ _ _

theorem submitChannels_eq (p : List Byte) : channelSet ((submitFields p).channels.getD 4095) =
    if byteAt p 15 = 1 then BitVec.ofNat 12 (u16At p 16) else 4095#12 := by
  simp only [submitFields, optionalAt_eq]
  split <;> rfl

theorem submitNoReference_of (checked : (submitFields p).checks = true)
    (none : s.chosenReference (submitFields p).edition (submitFields p).kind = none) :
    s.submitNoReference (submitFields p) = true := by
  simp [State.submitNoReference, checked, none]

theorem submitOverCeiling_of (set : byteAt p 24 = 1)
    (low : u48At p 25 < s.estimate (needMm (s.margins (submitFields p).kind) (u16At p 11) (submitFields p).checks)
      (submitFields p).kind) : s.submitOverCeiling (submitFields p) = true := by
  unfold State.submitOverCeiling
  rw [submitCeiling_eq, if_pos set]
  exact decide_eq_true low

theorem freeSlot_none (h : ∀ i : Fin 40, s.orders.slots[i] ≠ none) : s.freeSlot? = none := by
  unfold State.freeSlot? firstIndex
  simpa using h

end

/-! ### The record placed (R2, R7, R8) -/

theorem submitClamped_iff (p : List Byte) : (submitFields p).clamped = true ↔
    7 < byteAt p 18 ∨ byteAt p 33 = 0 ∨ 4 < byteAt p 33 ∨ (byteAt p 6 = 1 ∧ byteAt p 32 = 0) := by
  have edition : (submitFields p).edition.isSome = true ↔ byteAt p 6 = 1 := by
    rw [submitEdition_eq]
    split <;> simp [*]
  simp only [SubmitFields.clamped, Bool.or_eq_true, Bool.and_eq_true, decide_eq_true_eq, edition, or_assoc]
  rfl

/-- Settles O19: the parts that admission rests on by their definitions, the refusals by the order of the checks, and the
placed order by the law of a record written (`runRequest_orders`). -/
theorem submitAdmitsOrder : Obligations.SubmitAdmitsOrder := by
  refine ⟨fun s o => ?_, fun s k m length check defined => ?_, fun s edition k => ?_, fun tag p s h => ?_,
    fun tag p s i h wellFormed inRange new known opened room referenced affordable free => ?_⟩
  · intro r need set
    have needs : s.orderNeed o = need := by
      simp only [State.orderNeed, need]
      cases hm : s.media.kinds[o.mediaKind] with
      | none => simp [margins_none hm, needMm]
      | some m => simp [margins_some hm, needMm]
    have suspended : s.orderSuspended o = match set with
        | none => false
        | some g => match s.colour.gainSets[g] with
          | none => false
          | some x => x.suspended := by
      simp only [State.orderSuspended, State.orderSet?, set]
      cases o.edition with
      | none => cases s.colour.gainSets[kindSet o.mediaKind] <;> rfl
      | some ref => 
        cases hf : s.findEdition ref with
        | none => simp [hf]
        | some i => simp [hf] <;> rfl
    unfold State.holdReasons InkUnit.anyChannel
    rw [needs, suspended]
    simp only [beq_eq_decide, bne, ← decide_not, Roll.fits, Nat.not_le, holdsOrders_eq]
    rfl
  · intro need
    rw [margins_some defined]
    rfl
  · intro own ofKind
    have kindReference : (s.colour.settings[k]).bind (·.reference) = ofKind := by
      simp only [ofKind]
      cases s.colour.settings[k] <;> rfl
    cases edition with
    | none => exact (chosenReference_unnamed rfl).trans kindReference
    | some ref =>
      cases hf : s.findEdition ref with
      | none =>
        rw [chosenReference_unnamed (by simpa using hf), kindReference]
        simp [own, hf]
      | some i =>
        cases he : s.editions[i] with
        | none =>
          rw [chosenReference_absent (by simpa using hf) he, kindReference]
          simp only [own, hf, he]
        | some e =>
          rw [chosenReference_named (by simpa using hf) he, kindReference]
          simp only [own, hf, he]
  · intro f refused kind edition named checked
    have named_iff (e : Edition) : named e ↔ s.namedEdition (submitFields p).edition = some e :=
      (namedEdition_eq_some_iff e).symm
    have only {st : Status} (hr : takeSubmit p s.countTaken = s.countTaken.refuse st) : refused st :=
      runRequest_onlyReplied s h _ _ _ takeSubmit _ _ hr
    have editionOf : (submitFields p).edition = edition := submitEdition_eq p
    have checks : (submitFields p).checks = checked := submitChecks_eq p
    refine ⟨fun bad => only (if_pos ((submitMalformed_iff p).2 bad)), fun wellFormed => ?_⟩
    have rule := takeSubmit_wellFormed (s := s) wellFormed
    refine ⟨fun bad => only (rule.trans (if_pos (submitOutOfRange_of ?_))), fun inRange => ?_⟩
    · simpa only [← named_iff] using bad
    rw [if_neg (ne_true_of_eq_false inRange)] at rule
    refine ⟨fun known => only (rule.trans (if_pos (Option.isSome_iff_ne_none.2 known))), fun new => ?_⟩
    rw [new, if_neg (by simp)] at rule
    refine ⟨fun bad => only (rule.trans (if_pos (submitNotFound_of bad))), fun found => ?_⟩
    rw [if_neg (ne_true_of_eq_false found)] at rule
    refine ⟨fun ⟨e, name, closed⟩ => only (rule.trans (if_pos (submitEditionClosed_of ((named_iff e).1 name) closed))),
      fun opened => ?_⟩
    rw [if_neg (ne_true_of_eq_false opened)] at rule
    refine ⟨fun ⟨e, name, full⟩ => only (rule.trans (if_pos (submitEditionFull_of ((named_iff e).1 name) full))),
      fun room => ?_⟩
    rw [if_neg (ne_true_of_eq_false room)] at rule
    refine ⟨fun check none => only (rule.trans (if_pos (submitNoReference_of (checks.trans check) ?_))),
      fun referenced => ?_⟩
    · rw [editionOf]
      exact none
    rw [if_neg (ne_true_of_eq_false referenced)] at rule
    refine ⟨fun set low => only (rule.trans (if_pos (submitOverCeiling_of set ?_))), fun affordable all => ?_⟩
    · rw [checks]
      exact low
    rw [if_neg (ne_true_of_eq_false affordable), freeSlot_none all] at rule
    exact only rule
  · intro edition deadline late o holds o'
    have record : (submitFields p).record s.orders.clock = o := by
      unfold SubmitFields.record
      rw [submitEdition_eq, submitDeadline_eq, submitCeiling_eq, submitChannels_eq, submitChecks_eq]
      rfl
    have rule := takeSubmit_wellFormed (s := s) wellFormed
    rw [if_neg (ne_true_of_eq_false inRange), new, if_neg (by simp), if_neg (ne_true_of_eq_false known),
      if_neg (ne_true_of_eq_false opened), if_neg (ne_true_of_eq_false room), if_neg (ne_true_of_eq_false referenced),
      if_neg (ne_true_of_eq_false affordable), free, if_neg (by simp)] at rule
    refine runRequest_orders s h 0x10 tag p takeSubmit _ _ _ late (rule.trans ?_)
    simp only [State.placeOrder, show s.countTaken.freeSlot? = some i from free,
      show (submitFields p).record s.countTaken.clock = o from record]
    rw [acceptIf_eq _ _ (submitClamped_iff p)]
    rfl

end Sys2Proof.Machine

/-! MEDIA_DEFINE, the requests about the roll, TRIM and CLEAN_REQUEST (O23 to O25). -/

namespace Sys2Proof.Machine

/-! ### A request that writes and re-evaluates -/

theorem Served.imp {changed : List Block} {s t : State} {P Q : State → Prop} (h : Served changed s t P)
    (imp : ∀ u, P u → Q u) : Served changed s t Q := by
  obtain ⟨u, hp, rest⟩ := h
  exact ⟨u, imp u hp, rest⟩

/-- A request whose rule writes `v`, then re-evaluates the orders and serves the slot (R17, R77). -/
theorem runRequest_reevaluates (s : State) (h : Takes s) (kind tag : Byte) (p : List Byte) (rule : RequestRule)
    (status : Status) (fields : List Byte) (v : State) (changed : List Block) (b : Bool)
    (hr : rule p s.countTaken = { state := v.reevaluate.serveSlot, status := status, fields := fields })
    (hk : Keeps (.store :: changed) s.countTaken v) (hm : Marks b s.countTaken v)
    (out : ([Block.quiet, .orders, .notices, .server].all fun b => !changed.contains b) = true := by decide) :
    ∃ t, s.runRequest kind tag p rule = .next t ∧ Replied s t kind tag status fields ∧ MarkedIf (b = true) s t ∧
      Served (changed ++ [.orders]) s t fun u => Keeps [.orders, .notices, .server] v u ∧ Reevaluated s u := by
  simp only [List.all_cons, List.all_nil, Bool.and_true, Bool.and_eq_true, Bool.not_eq_true', List.contains_eq_mem,
    decide_eq_false_iff_not] at out
  obtain ⟨quiet, orders, notices, server⟩ := out
  have sameOrders : v.orders = s.orders := hk.at .orders (by simpa using orders)
  have sameNotices : v.notices = s.notices := hk.at .notices (by simpa using notices)
  have sameServer : v.server = s.countTaken.server := hk.at .server (by simpa using server)
  have link : LinkKept s.countTaken v.reevaluate := (LinkKept.of_same _ _ sameServer sameNotices).trans (link_reevaluate v)
  have keeps : Keeps (changed ++ [.orders] ++ linkBlocks) s.countTaken v.reevaluate := by
    refine (hk.mono ?_).trans ((keeps_reevaluate v).mono ?_) <;> simp +contextual [linkBlocks]
  exact runRequest_serves s h kind tag p rule status fields v.reevaluate (changed ++ [.orders]) b
    (fun u => Keeps [.orders, .notices, .server] v u ∧ Reevaluated s u) hr
    ⟨keeps_reevaluate v, (reevaluated_reevaluate v).of_eq sameOrders.symm (congrArg _ sameNotices.symm)⟩ keeps link
    (hm.then (keeps_reevaluate v)) (by simpa using quiet)

/-! ### MEDIA_DEFINE (R26, R27) -/

theorem mediaDefineMalformed_iff (p : List Byte) : mediaDefineMalformed p = true ↔
    p.length ≠ 20 ∨ 1 < byteAt p 12 ∨ 1 < byteAt p 15 ∨ 1 < byteAt p 18 := by
  simp [mediaDefineMalformed, wrongLength, flagOk, or_assoc]

theorem kindActive_iff (s : State) (k : Fin 8) : s.kindActive k = true ↔
    ∃ i : Fin 40, ∃ o, s.orders.slots[i] = some o ∧ o.state = .active ∧ o.mediaKind = k := by
  simp only [State.kindActive, List.any_eq_true, List.mem_finRange, true_and]
  refine exists_congr fun i => ?_
  cases s.orders.slots[i] <;> simp

theorem mediaDefineClamped_iff (p : List Byte) : mediaDefineClamped p = true ↔
    600 < u16At p 10 ∨ (byteAt p 12 = 1 ∧ 200 < u16At p 13) ∨ (byteAt p 15 = 1 ∧ 500 < u16At p 16) ∨
      (byteAt p 18 = 1 ∧ (byteAt p 19 < 30 ∨ 80 < byteAt p 19)) := by
  simp only [mediaDefineClamped, flagAt, Bool.or_eq_true, Bool.and_eq_true, decide_eq_true_eq, beq_iff_eq]
  tauto

theorem takeMediaDefine_inRange {s : State} {p : List Byte} {k : Fin 8} (wellFormed : mediaDefineMalformed p = false)
    (hk : byteAt p 0 = k.val) (hb : byteAt p 9 ≠ 0) : takeMediaDefine p s =
      if s.kindActive k then s.refuse .busy
      else ((s.defineKind k (mediaDefined p s.media.kinds[k])).reevaluate.serveSlot).acceptIf (mediaDefineClamped p) [] := by
  have inRange : ¬7 < byteAt p 0 := by omega
  simp [takeMediaDefine, wellFormed, inRange, hb, kindAt_eq hk]

theorem defineKind_media (s : State) (k : Fin 8) (m : MediaKind) :
    (s.defineKind k m).media = { s.media with kinds := s.media.kinds.set k (some m) } := by
  unfold State.defineKind
  dsimp only
  split <;> rfl

/-- The first definition of a kind brings its settings and its gain set into use (R118, R127, R137, R139). -/
theorem defineKind_colour (s : State) (k : Fin 8) (m : MediaKind) : (s.defineKind k m).colour =
    if s.media.kinds[k] = none then
      { settings := s.colour.settings.set k (some VerdictSettings.first)
        gainSets := s.colour.gainSets.set (kindSet k) (some GainSet.first)
        checks := s.colour.checks.set (kindSet k) (CheckState.fresh .continuous) }
    else s.colour := by
  unfold State.defineKind
  cases hm : s.media.kinds[k] <;> rfl

theorem keeps_defineKind (s : State) (k : Fin 8) (m : MediaKind) :
    Keeps [.store, .media, .colour] s (s.defineKind k m) := by
  have media := keeps_setMedia s { s.media with kinds := s.media.kinds.set k (some m) }
  refine Keeps.then (Keeps.trans media.mono ?_) (keeps_markDirty _)
  exact keeps_ite _ (Keeps.refl _ _) (keeps_setColour _ _).mono

theorem marks_defineKind (s : State) (k : Fin 8) (m : MediaKind) : Marks true s (s.defineKind k m) := by
  refine Marks.trans (a := false) (.of_store_eq ?_) (marks_markDirty _)
  split <;> rfl

/-- Settles O23: the two checks, then the entry written and re-evaluated over. -/
theorem mediaDefineWritesKind : Obligations.MediaDefineWritesKind := by
  refine ⟨fun tag p s h hl bad => ?_, fun tag p s h hl h12 h15 h18 => ?_⟩
  · exact runRequest_onlyReplied s h _ _ _ takeMediaDefine _ _ (if_pos ((mediaDefineMalformed_iff p).2 (.inr bad)))
  have wellFormed : mediaDefineMalformed p = false := by
    rw [Bool.eq_false_iff, Ne, mediaDefineMalformed_iff]
    omega
  refine ⟨fun bad => ?_, fun k hk hb => ?_⟩
  · exact runRequest_onlyReplied s h _ _ _ takeMediaDefine _ _
      (by simp [takeMediaDefine, wellFormed, bad, State.refuse])
  · intro active
    have rule := takeMediaDefine_inRange (s := s.countTaken) wellFormed hk hb
    refine ⟨fun isActive => ?_, fun inactive => ?_⟩
    · exact runRequest_onlyReplied s h _ _ _ takeMediaDefine _ _ (rule.trans (if_pos ((kindActive_iff _ _).2 isActive)))
    · intro kept m clamped
      have entry : mediaDefined p s.media.kinds[k] = m := by
        simp only [m, kept]
        cases s.media.kinds[k] <;> simp [mediaDefined, flagAt, textAt]
      replace rule := rule.trans (if_neg (mt (kindActive_iff s.countTaken k).1 inactive))
      rw [acceptIf_eq _ _ (mediaDefineClamped_iff p),
        show mediaDefined p s.countTaken.media.kinds[k] = m from entry] at rule
      obtain ⟨t, ht, replied, marked, served⟩ := runRequest_reevaluates s h 0x20 tag p takeMediaDefine _ _ _
        [.media, .colour] true rule (keeps_defineKind _ _ _) (marks_defineKind _ _ _)
      refine ⟨t, ht, replied, marked.marked rfl, served.imp fun u ⟨keeps, reevaluated⟩ => ⟨?_, reevaluated, ?_⟩⟩
      · exact (keeps.at .media).trans (defineKind_media _ _ _)
      · exact (keeps.at .colour).trans (defineKind_colour _ _ _)

/-! ### ROLL_DECLARE, FLAW_MARK and FLAW_CLEAR (R31, R32) -/

theorem usesRoll_iff (x : Holder) : x.usesRoll = true ↔ x.activityCode ∈ [1, 2, 4] := by
  cases x <;> simp [Holder.usesRoll, Holder.activityCode]

theorem marks_setRoll (s : State) (r : Roll) : Marks (decide (r ≠ s.media.roll)) s (s.setRoll r) :=
  Marks.after (keeps_setMedia s _) (marks_markDirtyIf _ _)

theorem setRoll_media (s : State) (r : Roll) : (s.setRoll r).media = { s.media with roll := r } :=
  (keeps_markDirtyIf _ _).at .media

/-- A roll record written, then re-evaluated over: the end of the three requests that write it. -/
theorem runRequest_setRoll (s : State) (h : Takes s) (kind tag : Byte) (p : List Byte) (rule : RequestRule) (r : Roll)
    (hr : rule p s.countTaken = ((s.countTaken.setRoll r).reevaluate.serveSlot).accept []) :
    ∃ t, s.runRequest kind tag p rule = .next t ∧ Replied s t kind tag .ok [] ∧ MarkedIf (r ≠ s.media.roll) s t ∧
      Served [.media, .orders] s t fun u => u.media = { s.media with roll := r } ∧ Reevaluated s u := by
  obtain ⟨t, ht, replied, marked, served⟩ := runRequest_reevaluates s h kind tag p rule _ _ _ [.media] _ hr
    (keeps_setRoll _ _).mono (marks_setRoll s.countTaken r)
  exact ⟨t, ht, replied, marked.congr decide_eq_true_iff, served.imp fun u ⟨keeps, reevaluated⟩ =>
    ⟨(keeps.at .media).trans (setRoll_media _ _), reevaluated⟩⟩

theorem takeRollDeclare_inRange {s : State} {p : List Byte} {k : Fin 8} (hl : p.length = 7)
    (good : ¬(7 < byteAt p 0 ∨ u16At p 1 < 300 ∨ 1600 < u16At p 1 ∨ u32At p 3 < 1000 ∨ 200000 < u32At p 3))
    (hk : byteAt p 0 = k.val) : takeRollDeclare p s =
      if s.media.kinds[k] = none then s.refuse .notFound
      else if s.media.present = false then s.refuse .wrongState
      else if s.holder.activityCode ∈ [1, 2, 4] ∨ s.engine.pendingTrim ≠ none then s.refuse .busy
      else ((s.setRoll (s.media.roll.declare k (u16At p 1) (u32At p 3))).reevaluate.serveSlot).accept [] := by
  simp only [not_or] at good
  obtain ⟨h1, h2, h3, h4, h5⟩ := good
  simp only [takeRollDeclare, wrongLength_eq_false hl, checked_cons, checked_nil, h1, h2, h3, h4, h5, kindAt_eq hk,
    Bool.or_eq_true, usesRoll_iff, Option.isNone_iff_eq_none, Option.isSome_iff_ne_none]
  simp

theorem takeRollDeclare_outOfRange {s : State} {p : List Byte} (hl : p.length = 7)
    (bad : 7 < byteAt p 0 ∨ u16At p 1 < 300 ∨ 1600 < u16At p 1 ∨ u32At p 3 < 1000 ∨ 200000 < u32At p 3) :
    takeRollDeclare p s = s.refuse .badField := by
  have fails : (decide (7 < byteAt p 0) || decide (u16At p 1 < 300) || decide (1600 < u16At p 1) ||
      decide (u32At p 3 < 1000) || decide (200000 < u32At p 3)) = true := by
    simpa [or_assoc] using bad
  simp only [takeRollDeclare, wrongLength_eq_false hl, checked_cons, fails]
  rfl

theorem takeFlawMark_zone {s : State} {p : List Byte} {z : Fin 8} (hl : p.length = 9) (hz : byteAt p 0 = z.val)
    (start : u32At p 1 ≤ 200000) (stop : u32At p 5 ≤ 200000) : takeFlawMark p s =
      if s.media.roll.declared then s.writeZone z { start := u32At p 1, stop := u32At p 5 } else s.refuse .wrongState := by
  have inRange : ¬7 < byteAt p 0 := by omega
  have h1 : ¬200000 < u32At p 1 := by omega
  have h5 : ¬200000 < u32At p 5 := by omega
  cases hd : s.media.roll.declared <;>
    simp [takeFlawMark, wrongLength_eq_false hl, inRange, h1, h5, hd, kindAt_eq hz]

theorem takeFlawClear_zone {s : State} {p : List Byte} {z : Fin 8} (hl : p.length = 1) (hz : byteAt p 0 = z.val) :
    takeFlawClear p s = if s.media.roll.declared then s.writeZone z Zone.inert else s.refuse .wrongState := by
  have inRange : ¬7 < byteAt p 0 := by omega
  cases hd : s.media.roll.declared <;> simp [takeFlawClear, wrongLength_eq_false hl, inRange, hd, kindAt_eq hz]

/-- Settles O24: the checks of each request, then the law of a roll record written (`runRequest_setRoll`). -/
theorem rollAndFlawRequests : Obligations.RollAndFlawRequests := by
  refine ⟨fun tag p s h hl => ?_, fun tag p s h => ?_⟩
  · intro bad
    refine ⟨fun isBad => ?_, fun k good hk => ?_⟩
    · exact runRequest_onlyReplied s h _ _ _ takeRollDeclare _ _ (takeRollDeclare_outOfRange hl isBad)
    have rule := takeRollDeclare_inRange (s := s.countTaken) hl good hk
    refine ⟨fun undefined => ?_, fun defined absent => ?_, ?_⟩
    · exact runRequest_onlyReplied s h _ _ _ takeRollDeclare _ _ (rule.trans (if_pos undefined))
    · exact runRequest_onlyReplied s h _ _ _ takeRollDeclare _ _
        (rule.trans ((if_neg defined).trans (if_pos absent)))
    · intro busy defined present
      have notAbsent : ¬s.media.present = false := by simp [present]
      replace rule := rule.trans ((if_neg defined).trans (if_neg notAbsent))
      refine ⟨fun isBusy => ?_, fun free => ?_⟩
      · exact runRequest_onlyReplied s h _ _ _ takeRollDeclare _ _ (rule.trans (if_pos isBusy))
      · exact runRequest_setRoll s h 0x22 tag p takeRollDeclare _ (rule.trans (if_neg free))
  · intro written
    have writes (kind : Byte) (rule : RequestRule) (z : Fin 8) (zone : Zone)
        (hr : rule p s.countTaken =
          if s.media.roll.declared then s.countTaken.writeZone z zone else s.countTaken.refuse .wrongState) :
        ∃ t, s.runRequest kind tag p rule = .next t ∧
          if s.media.roll.declared then written kind z zone t else OnlyReplied s t kind tag .wrongState [] := by
      cases hd : s.media.roll.declared with
      | true =>
        rw [hd] at hr
        exact runRequest_setRoll s h kind tag p rule _ hr
      | false =>
        rw [hd] at hr
        exact runRequest_onlyReplied s h kind tag p rule _ _ hr
    refine ⟨fun hl => ⟨fun bad => ?_, fun z hz start stop => ?_⟩, fun hl => ⟨fun bad => ?_, fun z hz => ?_⟩⟩
    · refine runRequest_onlyReplied s h _ _ _ takeFlawMark _ _ ?_
      have fails : (decide (7 < byteAt p 0) || decide (200000 < u32At p 1) || decide (200000 < u32At p 5)) = true := by
        simpa [or_assoc] using bad
      simp only [takeFlawMark, wrongLength_eq_false hl, checked_cons, fails]
      rfl
    · exact writes 0x23 takeFlawMark z _ (takeFlawMark_zone hl hz start stop)
    · exact runRequest_onlyReplied s h _ _ _ takeFlawClear _ _
        (by simp [takeFlawClear, wrongLength_eq_false hl, bad, State.refuse])
    · exact writes 0x24 takeFlawClear z _ (takeFlawClear_zone hl hz)

/-! ### TRIM and CLEAN_REQUEST (R43, R110, R111) -/

theorem trimBusy_iff (s : State) : s.trimBusy = true ↔ ¬(s.holder = .idle ∧ s.engine.pendingTrim = none ∧
    s.engine.state ∈ [.ok, .warn, .limited] ∧ s.engine.coverClosed = true) := by
  have idle : s.holder.isIdle = true ↔ s.holder = .idle := by cases s.holder <;> simp [Holder.isIdle]
  have running : s.engine.state.running = true ↔ s.engine.state ∈ [.ok, .warn, .limited] := by
    cases s.engine.state <;> decide
  rw [← idle, ← running]
  simp only [State.trimBusy, Bool.or_eq_true, Bool.not_eq_true', ← Option.not_isSome_iff_eq_none]
  cases s.holder.isIdle <;> cases s.engine.pendingTrim.isSome <;> cases s.engine.state.running <;> simp

theorem takeTrim_inRange {s : State} {p : List Byte} (hl : p.length = 2) (low : 10 ≤ u16At p 0) (high : u16At p 0 ≤ 2000) :
    takeTrim p s = if s.media.roll.declared = false then s.refuse .wrongState
      else if s.media.roll.length < s.media.roll.position / 40 + u16At p 0 then s.refuse .badField
      else if s.trimBusy then s.refuse .busy
      else ((s.setEngine { s.engine with pendingTrim := some (u16At p 0) }).serveSlot).accept [] := by
  have h1 : ¬u16At p 0 < 10 := by omega
  have h2 : ¬2000 < u16At p 0 := by omega
  unfold takeTrim Roll.positionMm
  cases hd : s.media.roll.declared <;> simp [wrongLength_eq_false hl, h1, h2]

theorem takeCleanRequest_eq {s : State} {p : List Byte} (hl : p.length = 12) : takeCleanRequest p s =
    if (List.finRange 12).any fun c => decide (3 < (levelsAt p)[c]) then s.refuse .badField
    else ((s.requestCleanings (levelsAt p)).serveSlot).accept [] := by
  simp only [takeCleanRequest, wrongLength_eq_false hl, checked_cons, checked_nil]
  rfl

theorem cleanLevelTooHigh_iff (p : List Byte) :
    ((List.finRange 12).any fun c => decide (3 < (levelsAt p)[c])) = true ↔ ∃ c : Fin 12, 3 < byteAt p c.val := by
  simp [levelsAt]

theorem requestCleanings_levelsAt (s : State) (p : List Byte) : (s.requestCleanings (levelsAt p)).ink = { s.ink with
    channels := Vector.ofFn fun c =>
      { s.ink.channels[c] with cleaning := max s.ink.channels[c].cleaning (byteAt p c.val) } } := by
  simp [State.requestCleanings, levelsAt]

/-- Settles O25: TRIM's checks in their order and CLEAN_REQUEST's one, then the slot's turn. -/
theorem trimAndCleanRequests : Obligations.TrimAndCleanRequests := by
  refine ⟨fun tag p s h hl => ⟨fun bad => ?_, fun low high => ?_⟩, fun tag p s h hl => ⟨fun bad => ?_, fun good => ?_⟩⟩
  · refine runRequest_onlyReplied s h _ _ _ takeTrim _ _ ?_
    have fails : (decide (u16At p 0 < 10) || decide (2000 < u16At p 0)) = true := by simpa using bad
    simp only [takeTrim, wrongLength_eq_false hl, checked_cons, fails]
    rfl
  · have rule := takeTrim_inRange (s := s.countTaken) hl low high
    have notUndeclared (declared : s.media.roll.declared = true) : ¬s.media.roll.declared = false := by simp [declared]
    refine ⟨fun undeclared => ?_, fun declared long => ?_, fun declared fits => ?_⟩
    · exact runRequest_onlyReplied s h _ _ _ takeTrim _ _ (rule.trans (if_pos undeclared))
    · exact runRequest_onlyReplied s h _ _ _ takeTrim _ _
        (rule.trans ((if_neg (notUndeclared declared)).trans (if_pos long)))
    · intro free
      replace rule := rule.trans ((if_neg (notUndeclared declared)).trans (if_neg (Nat.not_lt.2 fits)))
      refine ⟨fun busy => ?_, fun isFree => ?_⟩
      · exact runRequest_onlyReplied s h _ _ _ takeTrim _ _
          (rule.trans (if_pos ((trimBusy_iff s.countTaken).2 busy)))
      · obtain ⟨t, ht, replied, marked, served⟩ := runRequest_serves s h 0x26 tag p takeTrim _ _ _ [.engine] false
          (fun u => u.engine = { s.engine with pendingTrim := some (u16At p 0) } ∧
            u.notices.pending = s.notices.pending)
          (rule.trans (if_neg (mt (trimBusy_iff s.countTaken).1 (not_not.2 isFree)))) ⟨rfl, rfl⟩
          (keeps_setEngine _ _).mono (link_setEngine _ _) (.of_store_eq rfl)
        exact ⟨t, ht, replied, marked.unmarked Bool.false_ne_true, served⟩
  · exact runRequest_onlyReplied s h _ _ _ takeCleanRequest _ _
      ((takeCleanRequest_eq hl).trans (if_pos ((cleanLevelTooHigh_iff p).2 bad)))
  · have inRange : ¬((List.finRange 12).any fun c => decide (3 < (levelsAt p)[c])) = true := by
      rw [cleanLevelTooHigh_iff]
      simpa using good
    obtain ⟨t, ht, replied, marked, served⟩ := runRequest_serves s h 0x3B tag p takeCleanRequest _ _ _ [.ink] false
      (fun u => u.notices.pending = s.notices.pending ∧ u.ink = (s.requestCleanings (levelsAt p)).ink)
      ((takeCleanRequest_eq hl).trans (if_neg inRange)) ⟨rfl, rfl⟩
      (keeps_requestCleanings _ _).mono (link_requestCleanings _ _) (.of_store_eq rfl)
    exact ⟨t, ht, replied, marked.unmarked Bool.false_ne_true, served.imp fun u ⟨pending, ink⟩ =>
      ⟨pending, ink.trans (requestCleanings_levelsAt s p)⟩⟩

end Sys2Proof.Machine

/-! The requests to the ink supply unit and the refill timer (O27, O28). -/

namespace Sys2Proof.Machine

/-! ### A channel record written (R90, R96, R98) -/

theorem setChannel_channel (s : State) (k : Fin 12) (x : Channel) : (s.setChannel k x).channel k = x := by
  unfold State.channel
  rw [setChannel_ink]
  exact Vector.getElem_set_self _

theorem setChannel_bays (s : State) (k : Fin 12) (x : Channel) : (s.setChannel k x).ink.bays = s.ink.bays := by
  rw [setChannel_ink]

theorem marks_setChannel (s : State) (k : Fin 12) (x : Channel) :
    Marks (decide (x.retained ≠ (s.channel k).retained)) s (s.setChannel k x) :=
  Marks.after (keeps_setInk s _) (marks_markDirtyIf _ _)

theorem marks_writeSupply (s : State) (k : Fin 12) (x : Channel) :
    Marks (decide (x.retained ≠ (s.channel k).retained)) s (s.writeSupply k x) := by
  unfold State.writeSupply
  dsimp only
  split
  · exact marks_setChannel s k x
  · exact ((marks_setChannel s k x).then (keeps_raise _ _)).then (keeps_reevaluate _)

/-- A write that keeps the supply state moves no order and raises nothing. -/
theorem writeSupply_same (s : State) (k : Fin 12) (x : Channel) (h : x.supply = (s.channel k).supply) :
    (s.writeSupply k x).orders = s.orders ∧ (s.writeSupply k x).notices = s.notices := by
  have written : s.writeSupply k x = s.setChannel k x := if_pos h
  rw [written]
  exact ⟨(keeps_setChannel s k x).at .orders, (keeps_setChannel s k x).at .notices⟩

/-- A change of supply state makes SUPPLY pending, and the orders are re-evaluated (R98). -/
theorem writeSupply_changed (s : State) (k : Fin 12) (x : Channel) (h : x.supply ≠ (s.channel k).supply) :
    Reevaluated { s with notices := { s.notices with pending := s.notices.pending ||| 4#8 } } (s.writeSupply k x) := by
  have written : s.writeSupply k x = ((s.setChannel k x).raise .supply).reevaluate := if_neg h
  rw [written]
  refine (reevaluated_reevaluate _).of_eq ?_ ?_
  · exact (((keeps_setChannel s k x).mono.then (keeps_raise _ _) : Keeps [.ink, .store, .notices, .server] _ _).at .orders).symm
  · refine Eq.trans ?_ (raise_pending (s.setChannel k x) .supply).symm
    rw [show (s.setChannel k x).notices = s.notices from (keeps_setChannel s k x).at .notices]
    rfl

/-- The supply state the evaluation of R96 gives, in whatever state it finds the channel. -/
def State.evaluatedSupply (s : State) (k : Fin 12) : SupplyState :=
  if (s.channel k).supply = .supplied ∨ (s.channel k).supply = .low then s.suppliedState k else (s.channel k).supply

theorem evaluateSupply_eq_writeSupply (s : State) (k : Fin 12) :
    s.evaluateSupply k = s.writeSupply k { s.channel k with supply := s.evaluatedSupply k } := by
  unfold State.evaluateSupply State.evaluatedSupply
  split
  · rfl
  · exact (writeSupply_self s k).symm

/-! ### What the image holds of a channel (R212) -/

/-- The image tells supply states apart, REFILLING and DRY excepted. -/
theorem retained_eq_iff {c : Channel} {x : SupplyState} (hx : x ≠ .refilling) (hc : c.supply ≠ .refilling) :
    Channel.retained { c with supply := x } = c.retained ↔ x = c.supply := by
  simp [Channel.retained, hx, hc]

theorem suppliedState_ne_refilling (s : State) (k : Fin 12) : s.suppliedState k ≠ .refilling := by
  unfold State.suppliedState
  split <;> split <;> simp

/-- The evaluation marks the store exactly when it changes the state. -/
theorem evaluated_retained_iff (s : State) (k : Fin 12) :
    Channel.retained { s.channel k with supply := s.evaluatedSupply k } ≠ (s.channel k).retained ↔
      s.evaluatedSupply k ≠ (s.channel k).supply := by
  unfold State.evaluatedSupply
  split
  · next h =>
    refine not_congr (retained_eq_iff (suppliedState_ne_refilling s k) ?_)
    obtain h | h := h <;> simp [h]
  · simp

/-! ### DROP_SIZES_SET and CHANNEL_SET (R92, R113) -/

theorem sizeLimited_eq (n : Nat) : sizeLimited n = if n < 10 then 10 else if 999 < n then 999 else n := by
  unfold sizeLimited
  split
  · omega
  · split <;> omega

theorem takeDropSizesSet_eq {s : State} {p : List Byte} (hl : p.length = 6) : takeDropSizesSet p s =
    { state := s.setSizes (dropSizesAt p), fields := [],
      status := if (dropSizesAt p).small = u16At p 0 ∧ (dropSizesAt p).medium = u16At p 2 ∧
        (dropSizesAt p).large = u16At p 4 then .ok else .adjusted } := by
  have rule : takeDropSizesSet p s = _ := if_neg (by simp [wrongLength_eq_false hl])
  rw [rule, acceptIf_eq _ _ (P := ¬((dropSizesAt p).small = u16At p 0 ∧ (dropSizesAt p).medium = u16At p 2 ∧
    (dropSizesAt p).large = u16At p 4)) (by simp [dropSizesAt]; tauto), ite_not]

theorem takeChannelSet_channel {s : State} {p : List Byte} {k : Fin 12} (hl : p.length = 5) (h : byteAt p 0 = k.val) :
    takeChannelSet p s = ((s.setThreshold k (min 500000000 (u32At p 1))).serveSlot).acceptIf
      (decide (500000000 < u32At p 1)) [] := by
  have inRange : ¬11 < byteAt p 0 := by omega
  simp [takeChannelSet, wrongLength_eq_false hl, inRange, channelAt_eq h]

theorem thresholdRetained_iff (c : Channel) (low : Nat) :
    Channel.retained { c with lowThreshold := low } ≠ c.retained ↔ low ≠ c.lowThreshold := by
  simp [Channel.retained]

/-- Settles O27: the threshold and the evaluation are two writes of one record. -/
theorem sizesAndThreshold : Obligations.SizesAndThreshold := by
  refine ⟨fun tag p s h hl => ?_, fun tag p s h hl => ⟨fun bad => ?_, fun k hk => ?_⟩⟩
  · intro limited z
    have sizes : dropSizesAt p = z := by simp only [dropSizesAt, sizeLimited_eq, z, limited]
    have rule := takeDropSizesSet_eq (s := s.countTaken) hl
    rw [sizes] at rule
    obtain ⟨t, ht, replied, notices, marked, keeps, left⟩ := runRequest_writes s h 0x38 tag p takeDropSizesSet _ _ _ [.ink]
      (decide (z ≠ s.ink.sizes)) rule ((keeps_setInk _ _).mono.then (keeps_markDirtyIf _ _))
      (Marks.after (keeps_setInk _ _) (marks_markDirtyIf _ _))
    exact ⟨t, ht, replied, notices, marked.congr decide_eq_true_iff, keeps,
      (left.at .ink).trans ((keeps_markDirtyIf _ _).at .ink)⟩
  · exact runRequest_onlyReplied s h _ _ _ takeChannelSet _ _
      (by simp [takeChannelSet, wrongLength_eq_false hl, bad, State.refuse])
  · intro c low evaluated
    generalize hv : s.countTaken.setChannel k { c with lowThreshold := low } = v
    have channel : v.channel k = { c with lowThreshold := low } := hv ▸ setChannel_channel _ _ _
    have bays : v.ink.bays = s.ink.bays := hv ▸ setChannel_bays s.countTaken _ _
    have orders : v.orders = s.orders := hv ▸ (keeps_setChannel s.countTaken k _).at .orders
    have notices : v.notices = s.notices := hv ▸ (keeps_setChannel s.countTaken k _).at .notices
    have supply : v.evaluatedSupply k = evaluated := by
      simp only [State.evaluatedSupply, State.suppliedState, channel, baySum_of_bays_eq bays,
        anySupplying_of_bays_eq bays]
      rfl
    have rule := takeChannelSet_channel (s := s.countTaken) hl hk
    rw [acceptIf_eq _ _ decide_eq_true_iff] at rule
    have threshold : s.countTaken.setThreshold k low = v.writeSupply k { v.channel k with supply := evaluated } := by
      rw [← supply, ← evaluateSupply_eq_writeSupply, ← hv]
      rfl
    rw [threshold] at rule
    generalize hu : v.writeSupply k { v.channel k with supply := evaluated } = u at rule
    have keeps : Keeps [.ink, .orders, .store, .notices, .server] s.countTaken u :=
      hu ▸ hv ▸ (keeps_setChannel s.countTaken k _).mono.then (keeps_writeSupply _ _ _)
    have link : LinkKept s.countTaken u := hu ▸ hv ▸ (link_setChannel s.countTaken k _).trans (link_writeSupply _ _ _)
    have marks := (hv ▸ marks_setChannel s.countTaken k { c with lowThreshold := low } : Marks _ s.countTaken v).trans
      (hu ▸ marks_writeSupply v k { v.channel k with supply := evaluated } : Marks _ v u)
    obtain ⟨t, ht, replied, marked, served⟩ := runRequest_serves s h 0x39 tag p takeChannelSet _ _ u [.ink, .orders] _
      (fun w => w = u) rule rfl keeps.mono link marks
    refine ⟨t, ht, replied, marked.congr ?_, served.imp fun w hw => ?_⟩
    · have moved := evaluated_retained_iff v k
      rw [supply] at moved
      rw [Bool.or_eq_true, decide_eq_true_iff, decide_eq_true_iff, moved, channel]
      exact or_congr_left (thresholdRetained_iff c low)
    · subst hw hu
      refine ⟨?_, fun same => ?_, fun moved => ?_⟩
      · rw [writeSupply_ink, channel, ← hv, setChannel_ink, Vector.set_set]
        rfl
      · obtain ⟨sameOrders, sameNotices⟩ := writeSupply_same v k { v.channel k with supply := evaluated }
          (same.trans (congrArg Channel.supply channel).symm)
        exact ⟨sameOrders.trans orders, congrArg NoticeUnit.pending (sameNotices.trans notices)⟩
      · refine (writeSupply_changed v k { v.channel k with supply := evaluated } ?_).of_eq orders.symm ?_
        · rw [channel]
          exact moved
        · rw [notices]

/-! ### CHANNEL_RESET and the refill timer (R105, R108, R109) -/

/-- The record an accepted CHANNEL_RESET leaves of a channel. -/
def State.resetRecord (s : State) (k : Fin 12) : Channel :=
  let c := s.channel k
  if (s.bay k c.active).hasInk then
    { c with supply := .refilling, refillBay := some c.active, refillElapsed := 0, fullRun := 0, lowRun := 0, emptyRun := 0 }
  else if (s.bay k c.active.other).hasInk then
    { c with supply := .refilling, refillBay := some c.active.other, active := c.active.other, refillElapsed := 0,
             fullRun := 0, lowRun := 0, emptyRun := 0 }
  else { c with supply := .dry }

theorem resetChannel_eq_writeSupply (s : State) (k : Fin 12) : s.resetChannel k = s.writeSupply k (s.resetRecord k) := by
  unfold State.resetChannel State.resetBay State.resetRecord State.enterRefill
  dsimp only
  split_ifs <;> rfl

/-- A reset leaves FAULT, for REFILLING or DRY: both are held as DRY. -/
theorem resetRecord_leavesFault (s : State) (k : Fin 12) (h : (s.channel k).supply = .fault) :
    (s.resetRecord k).supply ≠ (s.channel k).supply ∧ (s.resetRecord k).retained ≠ (s.channel k).retained := by
  unfold State.resetRecord
  dsimp only
  split_ifs <;> simp [Channel.retained, h]

theorem takeChannelReset_channel {s : State} {p : List Byte} {k : Fin 12} (hl : p.length = 1) (h : byteAt p 0 = k.val) :
    takeChannelReset p s = if (s.channel k).supply ≠ .fault then s.refuse .wrongState
      else ((s.resetChannel k).serveSlot).accept [] := by
  have inRange : ¬11 < byteAt p 0 := by omega
  simp [takeChannelReset, wrongLength_eq_false hl, inRange, channelAt_eq h]

theorem exec_refillTimeout (k : Fin 12) (s : State) (h : Works s) :
    exec (.refillTimeout k) s = s.run fun _ => (s.refillTimeout k).serveSlot := by
  obtain ⟨held, quiet⟩ := h
  show s.run (fun s => s.whenWorking fun s => (s.refillTimeout k).serveSlot) = _
  simp [State.run, held, State.whenWorking, State.working, quiet]

theorem exec_refillElapsedSecond (k : Fin 12) (s : State) (h : Works s) :
    exec (.refillElapsedSecond k) s = s.run fun _ => (s.refillSecond k).serveSlot := by
  obtain ⟨held, quiet⟩ := h
  show s.run (fun s => s.whenWorking fun s => (s.refillSecond k).serveSlot) = _
  simp [State.run, held, State.whenWorking, State.working, quiet]

/-- Settles O28: each refill's start and end is one supply state written. -/
theorem refillsRestartAndExpire : Obligations.RefillsRestartAndExpire := by
  unfold Obligations.RefillsRestartAndExpire
  intro changed
  have changed_of (s : State) (k : Fin 12) (x : Channel) (moves : x.supply ≠ (s.channel k).supply) :
      changed s (s.writeSupply k x) k x := ⟨writeSupply_ink s k x, writeSupply_changed s k x moves⟩
  refine ⟨fun tag p s h hl => ⟨fun bad => ?_, fun k hk => ?_⟩, fun s k works refilling => ?_⟩
  · exact runRequest_onlyReplied s h _ _ _ takeChannelReset _ _
      (by simp [takeChannelReset, wrongLength_eq_false hl, bad, State.refuse])
  · intro c ink
    have rule := takeChannelReset_channel (s := s.countTaken) hl hk
    refine ⟨fun other => ?_, fun fault => ?_⟩
    · exact runRequest_onlyReplied s h _ _ _ takeChannelReset _ _ (rule.trans (if_pos other))
    · obtain ⟨leaves, remembered⟩ := resetRecord_leavesFault s.countTaken k fault
      replace rule := rule.trans (if_neg (not_not.2 fault))
      rw [resetChannel_eq_writeSupply] at rule
      obtain ⟨t, ht, replied, marked, served⟩ := runRequest_serves s h 0x3A tag p takeChannelReset _ _ _ [.ink, .orders] _
        (fun w => w = s.countTaken.writeSupply k (s.countTaken.resetRecord k)) rule rfl (keeps_writeSupply _ _ _).mono
        (link_writeSupply _ _ _) (marks_writeSupply _ _ _)
      refine ⟨t, ht, replied, marked.marked (decide_eq_true remembered), served.imp fun w hw => ?_⟩
      subst hw
      exact changed_of s.countTaken k _ leaves
  · intro c
    refine ⟨fun early => ?_, fun late => ?_⟩
    · have second : s.refillSecond k = s.setChannel k { c with refillElapsed := c.refillElapsed + 1 } :=
        (if_pos refilling).trans (if_pos early)
      obtain ⟨t, ht, served, -⟩ := run_served s works (fun _ => (s.refillSecond k).serveSlot) _ [.ink]
        (fun u => u.ink = (s.setChannel k { c with refillElapsed := c.refillElapsed + 1 }).ink ∧
          u.notices.pending = s.notices.pending) (congrArg State.serveSlot second)
        ⟨rfl, congrArg NoticeUnit.pending ((keeps_setChannel s k _).at .notices)⟩ (keeps_setChannel s k _).mono
      exact ⟨t, (exec_refillElapsedSecond k s works).trans ht, served.imp fun u ⟨ink, pending⟩ =>
        ⟨ink.trans (setChannel_ink s k _), pending⟩⟩
    · have expires : s.refillTimeout k = s.refillExpires k := if_pos ⟨refilling, late⟩
      have second : s.refillSecond k = s.refillExpires k :=
        (if_pos refilling).trans (if_neg (Nat.not_lt.2 (Nat.succ_le_succ late)))
      refine ⟨?_, ?_⟩
      · rw [exec_refillElapsedSecond k s works, exec_refillTimeout k s works, second, expires]
      · obtain ⟨t, ht, served, -⟩ := run_served s works (fun _ => (s.refillTimeout k).serveSlot) _ [.ink, .orders]
          (fun u => u = s.refillExpires k) (congrArg State.serveSlot expires) rfl (keeps_writeSupply _ _ _).mono
        refine ⟨t, (exec_refillTimeout k s works).trans ht, served.imp fun w hw => ?_⟩
        subst hw
        refine changed_of s k _ ?_
        rw [show (s.channel k).supply = .refilling from refilling]
        simp

end Sys2Proof.Machine

/-! The requests to the colour check unit (O29 to O31). -/

namespace Sys2Proof.Machine

/-! ### A retained field written -/

/-- A request that only writes a retained field of one block: the store is marked (R213). -/
theorem runRequest_records (s : State) (h : Takes s) (kind tag : Byte) (p : List Byte) (rule : RequestRule)
    (status : Status) (fields : List Byte) (u : State) (changed : List Block)
    (hr : rule p s.countTaken = { state := u, status := status, fields := fields })
    (hk : Keeps (.store :: changed) s.countTaken u) (hm : Marks true s.countTaken u)
    (out : (changed.all fun b => !(([Block.pending, .held, .quiet, .notices, .server] : List Block).contains b)) = true :=
      by decide) :
    ∃ t, s.runRequest kind tag p rule = .next t ∧ Recorded changed s t kind tag status fields ∧ Keeps linkBlocks u t := by
  obtain ⟨t, ht, replied, notices, marked, keeps, left⟩ :=
    runRequest_writes s h kind tag p rule status fields u changed true hr hk hm out
  exact ⟨t, ht, ⟨replied, notices, marked.marked rfl, keeps⟩, left⟩

/-! ### REFERENCE_SET and COLOUR_LIMITS_SET (R117, R119, R120) -/

theorem keeps_setSettings (s : State) (k : Fin 8) (v : VerdictSettings) : Keeps [.store, .colour] s (s.setSettings k v) :=
  (keeps_setColour s _).mono.then (keeps_markDirty _)

theorem marks_setSettings (s : State) (k : Fin 8) (v : VerdictSettings) : Marks true s (s.setSettings k v) :=
  Marks.after (keeps_setColour s _) (marks_markDirty _)

/-- The verdict settings of a kind written. -/
theorem runRequest_setSettings (s : State) (h : Takes s) (kind tag : Byte) (p : List Byte) (rule : RequestRule)
    (status : Status) (k : Fin 8) (v : VerdictSettings)
    (hr : rule p s.countTaken = { state := s.countTaken.setSettings k v, status := status, fields := [] }) :
    ∃ t, s.runRequest kind tag p rule = .next t ∧ Recorded [.colour] s t kind tag status [] ∧
      t.colour = { s.colour with settings := s.colour.settings.set k (some v) } := by
  obtain ⟨t, ht, recorded, left⟩ := runRequest_records s h kind tag p rule status [] _ [.colour] hr
    (keeps_setSettings _ _ _) (marks_setSettings _ _ _)
  exact ⟨t, ht, recorded, left.at .colour⟩

theorem labsAt_one (p : List Byte) : labsAt p 1 = Vector.ofFn fun j =>
    { L := u16At p (1 + 6 * j.val), a := s16At p (3 + 6 * j.val), b := s16At p (5 + 6 * j.val) } := by
  unfold labsAt
  refine congrArg Vector.ofFn (funext fun j => ?_)
  rw [show 1 + 6 * j.val + 2 = 3 + 6 * j.val by omega, show 1 + 6 * j.val + 4 = 5 + 6 * j.val by omega]

theorem clampLabs_of_nonneg {v : Vector Lab 16} (h : ∀ j : Fin 16, 0 ≤ v[j].L) : clampLabs v = Vector.ofFn fun j =>
    { L := min 10000 v[j].L, a := max (-12800) (min 12700 v[j].a), b := max (-12800) (min 12700 v[j].b) } := by
  unfold clampLabs
  refine congrArg Vector.ofFn (funext fun j => ?_)
  have inRange : clampL v[j].L = min 10000 v[j].L := max_eq_right (le_min (by decide) (h j))
  simp only [Lab.clamped, clampAB, inRange]

section
variable {s : State} {p : List Byte} {k : Fin 8}

theorem takeReferenceSet_absent (hl : p.length = 97) (h : byteAt p 0 = k.val) (hs : s.colour.settings[k] = none) :
    takeReferenceSet p s = s.refuse .notFound := by
  have inRange : ¬7 < byteAt p 0 := by omega
  simp [takeReferenceSet, wrongLength_eq_false hl, inRange, kindAt_eq h, hs]

theorem takeReferenceSet_present {v : VerdictSettings} (hl : p.length = 97) (h : byteAt p 0 = k.val)
    (hs : s.colour.settings[k] = some v) : takeReferenceSet p s =
      (s.setSettings k { v with reference := some (clampLabs (labsAt p 1)) }).acceptIf
        (decide (clampLabs (labsAt p 1) ≠ labsAt p 1)) [] := by
  have inRange : ¬7 < byteAt p 0 := by omega
  simp [takeReferenceSet, wrongLength_eq_false hl, inRange, kindAt_eq h, hs]

theorem takeColourLimitsSet_absent (hl : p.length = 9) (h : byteAt p 0 = k.val) (some : u16At p 7 ≠ 0)
    (hs : s.colour.settings[k] = none) : takeColourLimitsSet p s = s.refuse .notFound := by
  have inRange : ¬7 < byteAt p 0 := by omega
  simp [takeColourLimitsSet, wrongLength_eq_false hl, inRange, kindAt_eq h, hs, some]

theorem takeColourLimitsSet_present {v : VerdictSettings} (hl : p.length = 9) (h : byteAt p 0 = k.val)
    (patches : u16At p 7 ≠ 0) (hs : s.colour.settings[k] = some v) : takeColourLimitsSet p s =
      (s.setSettings k { v with maxTolerance := min 2000 (u16At p 1), meanTolerance := min 2000 (u16At p 3),
                                driftLevel := min 2000 (u16At p 5), patches := BitVec.ofNat 16 (u16At p 7) }).acceptIf
        (decide (2000 < u16At p 1) || decide (2000 < u16At p 3) || decide (2000 < u16At p 5)) [] := by
  have inRange : ¬7 < byteAt p 0 := by omega
  simp [takeColourLimitsSet, wrongLength_eq_false hl, inRange, kindAt_eq h, hs, patches]

end

/-- Settles O29: the checks of each request, then the law of settings written (`runRequest_setSettings`). -/
theorem verdictSettingsWritten : Obligations.VerdictSettingsWritten := by
  unfold Obligations.VerdictSettingsWritten
  intro written
  refine ⟨fun tag p s h hl => ⟨fun bad => ?_, fun k hk => ?_⟩, fun tag p s h hl => ⟨fun bad => ?_, fun k hk patches => ?_⟩⟩
  · exact runRequest_onlyReplied s h _ _ _ takeReferenceSet _ _
      (by simp [takeReferenceSet, wrongLength_eq_false hl, bad, State.refuse])
  · cases hv : s.colour.settings[k] with
    | none =>
      exact runRequest_onlyReplied s h _ _ _ takeReferenceSet _ _ (takeReferenceSet_absent (s := s.countTaken) hl hk hv)
    | some v =>
      have rule := takeReferenceSet_present (s := s.countTaken) hl hk hv
      rw [acceptIf_eq _ _ decide_eq_true_iff, labsAt_one, clampLabs_of_nonneg fun j => by simp] at rule
      exact runRequest_setSettings s h 0x40 tag p takeReferenceSet _ k _ rule
  · exact runRequest_onlyReplied s h _ _ _ takeColourLimitsSet _ _
      (by simp [takeColourLimitsSet, wrongLength_eq_false hl, bad, State.refuse])
  · cases hv : s.colour.settings[k] with
    | none =>
      exact runRequest_onlyReplied s h _ _ _ takeColourLimitsSet _ _
        (takeColourLimitsSet_absent (s := s.countTaken) hl hk patches hv)
    | some v =>
      have rule := takeColourLimitsSet_present (s := s.countTaken) hl hk patches hv
      rw [acceptIf_eq _ _ (P := 2000 < u16At p 1 ∨ 2000 < u16At p 3 ∨ 2000 < u16At p 5) (by simp [or_assoc])] at rule
      exact runRequest_setSettings s h 0x41 tag p takeColourLimitsSet _ k _ rule

/-! ### The gain-set selector (R129, R222) -/

section
variable {s : State} {p : List Byte} {n : Nat} {malformed outOfRange : Bool} {act : Fin 24 → GainSet → Answer}

theorem withGainSet_badType (h : 1 < byteAt p 0) : s.withGainSet p n malformed outOfRange act = s.refuse .badLength :=
  if_pos (by simp [selectorMalformed, flagOk, h])

theorem withGainSet_badKind (hl : p.length = n) (type : byteAt p 0 = 0) (h : 7 < u32At p 1) :
    s.withGainSet p n false outOfRange act = s.refuse .badField := by
  simp [State.withGainSet, selectorMalformed, wrongLength_eq_false hl, flagOk, type, selectorOutOfRange, flagAt, h]

theorem withGainSet_absent (hl : p.length = n)
    (h : (∃ k : Fin 8, byteAt p 0 = 0 ∧ u32At p 1 = k.val ∧ s.media.kinds[k] = none) ∨
      (byteAt p 0 = 1 ∧ s.findEdition (word32At p 1) = none)) :
    s.withGainSet p n false false act = s.refuse .notFound := by
  obtain ⟨k, type, number, undefined⟩ | ⟨type, absent⟩ := h
  · have inRange : ¬7 < u32At p 1 := by omega
    have kind : Fin.ofNat 8 (u32At p 1) = k := finOfNat_eq number
    have selected : s.selected? p = none := by
      simp only [State.selected?, flagAt, type, kind, undefined]
      rfl
    simp [State.withGainSet, selectorMalformed, wrongLength_eq_false hl, flagOk, type, selectorOutOfRange, flagAt,
      inRange, selected]
  · have selected : s.selected? p = none := by simp [State.selected?, flagAt, type, absent]
    simp [State.withGainSet, selectorMalformed, wrongLength_eq_false hl, flagOk, type, selectorOutOfRange, flagAt,
      selected]

end

/-- A mode above 2 is no capture mode. -/
theorem ofCode_isNone_iff (n : Nat) : (CaptureMode.ofCode n).isNone = decide (2 < n) := by
  match n with
  | 0 | 1 | 2 => rfl
  | n + 3 => simp [CaptureMode.ofCode]

/-- The seven requests that carry a selector check it alike; CORRECTION_SET's on/off flag and CAPTURE_MODE_SET's mode are
checked with it. -/
theorem ruleOf_selector {c : Instr} {r : Request} (h : requestOf c = some r)
    (hk : r.kind ∈ [0x43, 0x44, 0x45, 0x46, 0x48, 0x49, 0x4A]) (u : State) : ∃ malformed outOfRange act,
      ruleOf r.kind r.payload u = u.withGainSet r.payload r.length malformed outOfRange act ∧
        ((r.kind = 0x49 → byteAt r.payload 5 ≤ 1) → malformed = false) ∧
        ((r.kind = 0x45 → byteAt r.payload 5 ≤ 2) → outOfRange = false) := by
  cases c <;> cases h
  case captureModeSet tag p =>
    refine ⟨_, _, _, rfl, fun _ => rfl, fun inRange => ?_⟩
    rw [ofCode_isNone_iff]
    exact decide_eq_false (Nat.not_lt.2 (inRange rfl))
  case correctionSet tag p =>
    exact ⟨_, _, _, rfl, fun inRange => by simp [flagOk, inRange rfl], fun _ => rfl⟩
  case historyQuery | historyRearm | colourResume | gainsSet | gainsQuery =>
    exact ⟨_, _, _, rfl, fun _ => rfl, fun _ => rfl⟩
  all_goals simp at hk

/-! ### A gain set and its check state written (R129, R135, R143, R144) -/

theorem setGainSet_colour (s : State) (g : Fin 24) (x : GainSet) :
    (s.setGainSet g x).colour = { s.colour with gainSets := s.colour.gainSets.set g (some x) } :=
  (keeps_markDirtyIf _ _).at .colour

theorem marks_setGainSet {s : State} {g : Fin 24} {x : GainSet} (h : s.colour.gainSets[g] = some x) (y : GainSet) :
    Marks (decide (y ≠ x)) s (s.setGainSet g y) := by
  refine (Marks.after (keeps_setColour s _) (marks_markDirtyIf _ _)).congr ?_
  rw [h]
  simp

theorem setCheck_setGainSet_colour (s : State) (g : Fin 24) (x : GainSet) (k : CheckState) :
    ((s.setGainSet g x).setCheck g k).colour =
      { s.colour with gainSets := s.colour.gainSets.set g (some x), checks := s.colour.checks.set g k } := by
  unfold State.setCheck
  rw [setGainSet_colour]
  rfl

theorem rearmed_eq (k : CheckState) (m : CaptureMode) :
    k.rearmed m = { k with ring := [], status := if m = .startOnFail then .waiting else .recording } := by
  cases m <;> rfl

theorem modeAt_eq {p : List Byte} {m : CaptureMode} (h : byteAt p 5 = m.code) :
    modeAt p = m ∧ (CaptureMode.ofCode (byteAt p 5)).isNone = false := by
  unfold modeAt
  rw [h]
  cases m <;> exact ⟨rfl, rfl⟩

/-- Settles O30: the selector's checks once for its seven requests, then what each writes. -/
theorem checkStateRequests : Obligations.CheckStateRequests := by
  refine ⟨fun c r s hr hk h hl h49 => ?_, fun tag p s g x h selects => ?_, fun tag p s g x h hl selects => ?_⟩
  · obtain ⟨malformed, outOfRange, act, rule, noFlag, noMode⟩ := ruleOf_selector hr hk s.countTaken
    obtain rfl := noFlag h49
    refine ⟨fun type => ?_, fun type number => ?_, fun mode absent => ?_⟩
    all_goals rw [exec_request c r s hr]
    · exact runRequest_onlyReplied s h _ _ _ _ _ _ (rule.trans (withGainSet_badType type))
    · exact runRequest_onlyReplied s h _ _ _ _ _ _ (rule.trans (withGainSet_badKind hl type number))
    · obtain rfl := noMode mode
      exact runRequest_onlyReplied s h _ _ _ _ _ _ (rule.trans (withGainSet_absent (s := s.countTaken) hl absent))
  · intro rearmed
    have named : SelectsGainSet s.countTaken p g x := selects
    have inUse : s.countTaken.colour.gainSets[g] = some x := named.1
    refine ⟨fun hl => ?_, fun hl bad => ?_, fun m hl hm => ?_⟩
    · obtain ⟨t, ht, replied, notices, marked, keeps, left⟩ := runRequest_writes s h 0x44 tag p takeHistoryRearm _ _ _
        [.colour] false (withGainSet_selected hl named _ _ _) (keeps_setCheck _ _ _).mono (.of_keeps (keeps_setCheck _ _ _))
      refine ⟨t, ht, ⟨replied, notices, marked.unmarked Bool.false_ne_true, keeps⟩, (left.at .colour).trans ?_⟩
      simp only [State.setCheck, rearmed_eq]
      rfl
    · refine runRequest_onlyReplied s h _ _ _ takeCaptureModeSet _ _ ((withGainSet_selected hl named _ _ _).trans ?_)
      rw [ofCode_isNone_iff, decide_eq_true bad]
      rfl
    · obtain ⟨mode, known⟩ := modeAt_eq hm
      have rule : takeCaptureModeSet p s.countTaken = _ := withGainSet_selected hl named _ _ _
      rw [known, mode] at rule
      obtain ⟨t, ht, replied, notices, marked, keeps, left⟩ := runRequest_writes s h 0x45 tag p takeCaptureModeSet _ _ _
        [.colour] _ rule ((keeps_setGainSet _ _ _).mono.then (keeps_setCheck _ _ _))
        ((marks_setGainSet inUse _).then (keeps_setCheck _ _ _))
      refine ⟨t, ht, replied, notices, marked.congr (decide_eq_true_iff.trans (not_congr ?_)), keeps,
        (left.at .colour).trans ?_⟩
      · exact ⟨fun e => congrArg GainSet.captureMode e, fun e => by rw [e]⟩
      · rw [setCheck_setGainSet_colour, rearmed_eq]
        rfl
  · have named : SelectsGainSet s.countTaken p g x := selects
    have inUse : s.countTaken.colour.gainSets[g] = some x := named.1
    have rule : takeColourResume p s.countTaken = _ := withGainSet_selected hl named _ _ _
    refine ⟨fun running => ?_, fun suspended => ?_⟩
    · refine runRequest_onlyReplied s h _ _ _ takeColourResume _ _ (rule.trans ?_)
      rw [running]
      rfl
    · rw [suspended] at rule
      obtain ⟨t, ht, replied, marked, served⟩ := runRequest_reevaluates s h 0x46 tag p takeColourResume _ _ _ [.colour] _ rule
        (((keeps_setGainSet _ _ _).mono.then (keeps_setCheck _ _ _)).then (keeps_markDirty _))
        (((marks_setGainSet inUse _).then (keeps_setCheck _ _ _)).trans (marks_markDirty _))
      refine ⟨t, ht, replied, marked.marked (Bool.or_true _), served.imp fun u ⟨keeps, reevaluated⟩ => ⟨?_, reevaluated⟩⟩
      exact (keeps.at .colour).trans (setCheck_setGainSet_colour _ _ _ _)

/-- The answer is OK when the value `P` speaks of was within its range. -/
theorem acceptIf_eq_not (s : State) (fields : List Byte) {b : Bool} {P : Prop} [Decidable P] (h : b = true ↔ ¬P) :
    s.acceptIf b fields = { state := s, status := if P then .ok else .adjusted, fields := fields } := by
  rw [acceptIf_eq s fields h, ite_not]

theorem gainsClamped_iff (p : List Byte) :
    ((List.finRange 12).any fun c => decide (gainLimited (u16sAt 12 p 5)[c] ≠ (u16sAt 12 p 5)[c])) = true ↔
      ¬∀ c : Fin 12, 850 ≤ u16At p (5 + 2 * c.val) ∧ u16At p (5 + 2 * c.val) ≤ 1150 := by
  simp only [List.any_eq_true, List.mem_finRange, true_and, decide_eq_true_eq, not_forall]
  refine exists_congr fun c => ?_
  simp only [u16sAt, gainLimited, Fin.getElem_fin, Vector.getElem_ofFn]
  omega

theorem gainsLimited_eq (p : List Byte) : (Vector.ofFn fun c : Fin 12 => gainLimited (u16sAt 12 p 5)[c]) =
    Vector.ofFn fun c => max 850 (min 1150 (u16At p (5 + 2 * c.val))) := by
  simp [u16sAt, gainLimited]

/-- A gain set written, the store marked when `b` holds. -/
theorem runRequest_setGainSet (s : State) (h : Takes s) (kind tag : Byte) (p : List Byte) (rule : RequestRule)
    (status : Status) (g : Fin 24) (y : GainSet) (u : State) (b : Bool)
    (hr : rule p s.countTaken = { state := u, status := status, fields := [] })
    (hk : Keeps [.store] (s.countTaken.setGainSet g y) u) (hm : Marks b s.countTaken u) :
    ∃ t, s.runRequest kind tag p rule = .next t ∧ Replied s t kind tag status [] ∧ NoticesKept s t ∧
      MarkedIf (b = true) s t ∧ Keeps (.colour :: linkBlocks) s t ∧
      t.colour = { s.colour with gainSets := s.colour.gainSets.set g (some y) } := by
  obtain ⟨t, ht, replied, notices, marked, keeps, left⟩ := runRequest_writes s h kind tag p rule status [] u [.colour] b hr
    ((keeps_setGainSet s.countTaken g y).mono.then hk) hm
  exact ⟨t, ht, replied, notices, marked, keeps,
    (left.at .colour).trans ((hk.at .colour).trans (setGainSet_colour s.countTaken g y))⟩

/-- Settles O31: each writes one gain set, GAINS_SET marking the store in any case. -/
theorem gainsAndCorrectionWritten : Obligations.GainsAndCorrectionWritten := by
  intro tag p s g x h selects gain
  have named : SelectsGainSet s.countTaken p g x := selects
  have inUse : s.countTaken.colour.gainSets[g] = some x := named.1
  refine ⟨fun hl => ?_, fun hl bad => ?_, fun hl good => ?_⟩
  · have rule : takeGainsSet p s.countTaken = State.acceptIf _ _ _ := withGainSet_selected hl named _ _ _
    rw [acceptIf_eq_not _ _ (gainsClamped_iff p), gainsLimited_eq] at rule
    obtain ⟨t, ht, replied, notices, marked, keeps, colour⟩ := runRequest_setGainSet s h 0x48 tag p takeGainsSet _ g _ _ _
      rule (keeps_markDirty _) ((marks_setGainSet inUse _).trans (marks_markDirty _))
    exact ⟨t, ht, ⟨replied, notices, marked.marked (Bool.or_true _), keeps⟩, colour⟩
  · refine runRequest_onlyReplied s h _ _ _ takeCorrectionSet _ _ ((withGainSet_selected hl named _ _ _).trans ?_)
    simp [flagOk, bad, State.refuse]
  · intro y
    have rule : takeCorrectionSet p s.countTaken = _ := withGainSet_selected hl named _ _ _
    rw [show (!flagOk p 5) = false by simp [flagOk, good], if_neg Bool.false_ne_true, if_neg Bool.false_ne_true,
      acceptIf_eq_not _ _ (P := y.deadband = u16At p 6 ∧ y.rate = u16At p 8 ∧ y.maxStep = u16At p 10)
        (by simp only [y, Bool.or_eq_true, decide_eq_true_eq]; omega)] at rule
    obtain ⟨t, ht, replied, notices, marked, keeps, colour⟩ := runRequest_setGainSet s h 0x49 tag p takeCorrectionSet _ g _ _
      _ rule (Keeps.refl _ _) (marks_setGainSet inUse _)
    exact ⟨t, ht, replied, notices, marked.congr decide_eq_true_iff, keeps, colour⟩

end Sys2Proof.Machine

/-! The requests to the edition table and the cost unit (O32, O33). -/

namespace Sys2Proof.Machine

/-! ### EDITION_OPEN (R148, R149) -/

theorem carriedPart_eq (p : List Byte) :
    carriedPart p = if byteAt p 7 = 1 then some (u16At p 8, labsAt p 10) else none := optionalAt_eq _ _ _

theorem editionOpenOutOfRange_iff (p : List Byte) : editionOpenOutOfRange p = true ↔
    7 < byteAt p 4 ∨ u16At p 5 = 0 ∨ 999 < u16At p 5 ∨ (byteAt p 7 = 1 ∧ (u16At p 8 = 0 ∨ u16At p 5 < u16At p 8)) := by
  unfold editionOpenOutOfRange
  rw [carriedPart_eq]
  by_cases h : byteAt p 7 = 1 <;> simp [h, or_assoc]

section
variable {s : State} {p : List Byte}

theorem takeEditionOpen_outOfRange (hl : p.length = 106) (type : byteAt p 7 ≤ 1)
    (bad : 7 < byteAt p 4 ∨ u16At p 5 = 0 ∨ 999 < u16At p 5 ∨
      (byteAt p 7 = 1 ∧ (u16At p 8 = 0 ∨ u16At p 5 < u16At p 8))) : takeEditionOpen p s = s.refuse .badField := by
  simp only [takeEditionOpen, editionOpenMalformed, wrongLength_eq_false hl, flagOk, type, checked_cons,
    (editionOpenOutOfRange_iff p).2 bad]
  rfl

/-- EDITION_OPEN's checks 3 to 6 in their order, then the record placed. -/
theorem takeEditionOpen_inRange {k : Fin 8} (hl : p.length = 106) (type : byteAt p 7 ≤ 1) (hk : byteAt p 4 = k.val)
    (low : 1 ≤ u16At p 5) (high : u16At p 5 ≤ 999) (carried : byteAt p 7 = 1 → 1 ≤ u16At p 8 ∧ u16At p 8 ≤ u16At p 5) :
    takeEditionOpen p s =
      if s.findEdition (word32At p 0) ≠ none then s.refuse .duplicate
      else if s.media.kinds[k] = none then s.refuse .notFound
      else if s.kindReference k = none then s.refuse .noReference
      else match s.freeEditionSlot? with
        | none => s.refuse .full
        | some i => ((s.useEditionSet i k).setEdition i (some (openedEdition p s.clock))).acceptIf
            (carriedClamped p) (u8 i.val) := by
  have inRange : editionOpenOutOfRange p = false := by
    rw [Bool.eq_false_iff, Ne, editionOpenOutOfRange_iff]
    omega
  simp only [takeEditionOpen, editionOpenMalformed, wrongLength_eq_false hl, flagOk, type, checked_cons, checked_nil,
    inRange, kindAt_eq hk, Option.isSome_iff_ne_none, Option.isNone_iff_eq_none]
  cases s.freeEditionSlot? <;> rfl

theorem openedEdition_eq {k : Fin 8} (hk : byteAt p 4 = k.val) (clock : Word32) : openedEdition p clock =
    { reference := word32At p 0, mediaKind := k, size := u16At p 5,
      accepted := if byteAt p 7 = 1 then u16At p 8 else 0,
      state := if byteAt p 7 = 1 then (if u16At p 8 = u16At p 5 then .complete else .fixed) else .opened,
      readings := if byteAt p 7 = 1 then some (clampLabs (labsAt p 10)) else none, openedAt := clock,
      fixedAt := if byteAt p 7 = 1 then some clock else none } := by
  unfold openedEdition
  rw [carriedPart_eq, kindAt_eq hk]
  by_cases h : byteAt p 7 = 1 <;> simp [h]

theorem carriedClamped_iff (p : List Byte) :
    carriedClamped p = true ↔ byteAt p 7 = 1 ∧ clampLabs (labsAt p 10) ≠ labsAt p 10 := by
  unfold carriedClamped
  rw [carriedPart_eq]
  by_cases h : byteAt p 7 = 1 <;> simp [h]

theorem freeEditionSlot_none (h : ∀ i : Fin 16, s.editions[i] ≠ none) : s.freeEditionSlot? = none := by
  unfold State.freeEditionSlot? firstIndex
  simpa using h

end

/-! ### The gain set of an edition (R137, R139, R156) -/

theorem useEditionSet_colour {s : State} {i : Fin 16} {k : Fin 8} {x : GainSet}
    (h : s.colour.gainSets[kindSet k] = some x) : (s.useEditionSet i k).colour = { s.colour with
      gainSets := s.colour.gainSets.set (editionSet i) (some { x with limitFlags := 0, suspended := false }),
      checks := s.colour.checks.set (editionSet i)
        { ring := [], status := if x.captureMode = .startOnFail then .waiting else .recording, failRun := 0,
          driftRun := 0, driftFlag := false } } := by
  have status : x.captureMode.startStatus = if x.captureMode = .startOnFail then .waiting else .recording := by
    cases x.captureMode <;> rfl
  unfold State.useEditionSet
  rw [h, setCheck_setGainSet_colour]
  simp only [Option.getD_some, GainSet.forEdition, CheckState.fresh, status]

theorem keeps_useEditionSet (s : State) (i : Fin 16) (k : Fin 8) : Keeps [.colour, .store] s (s.useEditionSet i k) :=
  (keeps_setGainSet s _ _).then (keeps_setCheck _ _ _)

theorem marks_useEditionSet (s : State) (i : Fin 16) (k : Fin 8) : ∃ b, Marks b s (s.useEditionSet i k) :=
  ⟨_, (Marks.after (keeps_setColour s _) (marks_markDirtyIf _ _)).then (keeps_setCheck _ _ _)⟩

theorem marks_setEdition (s : State) (i : Fin 16) (e : Option Edition) : Marks true s (s.setEdition i e) :=
  Marks.after (keeps_setEditions s _) (marks_markDirty _)

theorem keeps_dropEditionSet (s : State) (i : Fin 16) : Keeps [.colour] s (s.dropEditionSet i) :=
  (keeps_setColour s _).then (keeps_setCheck _ _ _)

/-! ### EDITION_CLOSE and EDITION_REMOVE (R155, R156) -/

section
variable {s : State} {p : List Byte} {i : Fin 16} {e : Edition}

theorem takeEditionClose_present (hl : p.length = 4) (h : s.findEdition (word32At p 0) = some i)
    (he : s.editions[i] = some e) : takeEditionClose p s = if e.state = .closed then s.refuse .wrongState
      else if 0 < s.unfinishedNaming e.reference then s.refuse .busy
      else (s.setEdition i (some (e.closedWith (s.kindReference e.mediaKind)))).accept [] := by
  have rule : takeEditionClose p s = _ := withEdition_present hl h he _
  simpa only [checked_cons, checked_nil, decide_eq_true_eq] using rule

theorem takeEditionRemove_present (hl : p.length = 4) (h : s.findEdition (word32At p 0) = some i)
    (he : s.editions[i] = some e) : takeEditionRemove p s = if e.state ≠ .closed then s.refuse .wrongState
      else ((s.dropEditionSet i).setEdition i none).accept [] := by
  have rule : takeEditionRemove p s = _ := withEdition_present hl h he _
  simpa only [checked_cons, checked_nil, decide_eq_true_eq] using rule

end

/-- Settles O32: the checks of each request, then the record and its gain set written. -/
theorem editionsOpenCloseRemove : Obligations.EditionsOpenCloseRemove := by
  refine ⟨fun tag p s h hl => ?_, fun tag p s i k x h hl type hk low high carriedOk new defined referenced free inUse => ?_,
    fun tag p s h hl absent => ⟨?_, ?_⟩, fun tag p s i e h hl found present => ⟨fun closed => ?_, fun opened named => ?_,
      fun opened unnamed => ?_, fun opened => ?_, fun closed => ?_⟩⟩
  · intro refused
    have only {st : Status} (hr : takeEditionOpen p s.countTaken = s.countTaken.refuse st) : refused st :=
      runRequest_onlyReplied s h _ _ _ takeEditionOpen _ _ hr
    refine ⟨fun bad => only (if_pos (by simp [editionOpenMalformed, flagOk, bad])), fun type => ⟨fun bad =>
      only (takeEditionOpen_outOfRange hl type bad), fun k hk low high carried => ?_⟩⟩
    have rule := takeEditionOpen_inRange (s := s.countTaken) hl type hk low high carried
    refine ⟨fun known => only (rule.trans (if_pos known)), fun new => ?_⟩
    replace rule := rule.trans (if_neg (not_not.2 new))
    refine ⟨fun undefined => only (rule.trans (if_pos undefined)), fun defined none => ?_, fun defined referenced all => ?_⟩
    · exact only (rule.trans ((if_neg defined).trans (if_pos none)))
    · replace rule := rule.trans ((if_neg defined).trans (if_neg referenced))
      rw [freeEditionSlot_none (s := s.countTaken) all] at rule
      exact only rule
  · intro given carried e
    have rule := ((takeEditionOpen_inRange (s := s.countTaken) hl type hk low high carriedOk).trans
      (if_neg (not_not.2 new))).trans ((if_neg defined).trans (if_neg referenced))
    rw [show s.countTaken.freeEditionSlot? = some i from free] at rule
    dsimp only at rule
    rw [acceptIf_eq _ _ (carriedClamped_iff p), openedEdition_eq hk] at rule
    obtain ⟨b, marks⟩ := marks_useEditionSet s.countTaken i k
    obtain ⟨t, ht, recorded, left⟩ := runRequest_records s h 0x50 tag p takeEditionOpen _ _ _ [.editions, .colour] rule
      ((keeps_useEditionSet _ _ _).mono.then (keeps_setEdition _ _ _))
      ((marks.trans (marks_setEdition _ _ _)).congr (Bool.or_true b))
    refine ⟨t, ht, recorded, ?_, ?_⟩
    · refine (left.at .editions).trans ?_
      exact congrArg (fun v => v.set i (some e)) ((keeps_useEditionSet s.countTaken i k).at .editions)
    · exact (left.at .colour).trans (((keeps_setEdition _ _ _).at .colour).trans (useEditionSet_colour (s := s.countTaken) inUse))
  · exact runRequest_onlyReplied s h _ _ _ takeEditionClose _ _ (withEdition_absent (s := s.countTaken) hl absent _)
  · exact runRequest_onlyReplied s h _ _ _ takeEditionRemove _ _ (withEdition_absent (s := s.countTaken) hl absent _)
  · exact runRequest_onlyReplied s h _ _ _ takeEditionClose _ _
      ((takeEditionClose_present (s := s.countTaken) hl found present).trans (if_pos closed))
  · exact runRequest_onlyReplied s h _ _ _ takeEditionClose _ _
      ((takeEditionClose_present (s := s.countTaken) hl found present).trans ((if_neg opened).trans (if_pos named)))
  · obtain ⟨t, ht, recorded, left⟩ := runRequest_records s h 0x51 tag p takeEditionClose _ _ _ [.editions]
      ((takeEditionClose_present (s := s.countTaken) hl found present).trans
        ((if_neg opened).trans (if_neg (Nat.not_lt.2 (Nat.le_of_eq unnamed)))))
      (keeps_setEdition _ _ _).mono (marks_setEdition _ _ _)
    exact ⟨t, ht, recorded, left.at .editions⟩
  · exact runRequest_onlyReplied s h _ _ _ takeEditionRemove _ _
      ((takeEditionRemove_present (s := s.countTaken) hl found present).trans (if_pos opened))
  · obtain ⟨t, ht, recorded, left⟩ := runRequest_records s h 0x52 tag p takeEditionRemove _ _ _ [.editions, .colour]
      ((takeEditionRemove_present (s := s.countTaken) hl found present).trans (if_neg (not_not.2 closed)))
      ((keeps_dropEditionSet _ _).mono.then (keeps_setEdition _ _ _))
      (Marks.after (keeps_dropEditionSet _ _) (marks_setEdition _ _ _))
    have colour : t.colour = (s.countTaken.dropEditionSet i).colour :=
      (left.at .colour).trans ((keeps_setEdition _ _ _).at .colour)
    refine ⟨t, ht, recorded, ?_, ?_, ?_, fun g other => ?_⟩
    · refine (left.at .editions).trans ?_
      exact congrArg (fun v => v.set i none) ((keeps_dropEditionSet s.countTaken i).at .editions)
    · rw [colour]
      rfl
    · rw [colour]
      rfl
    · rw [colour]
      exact Vector.getElem_set_ne (editionSet i).isLt g.isLt fun same => other (Fin.ext same.symm)

/-! ### PRICES_SET, ACCOUNT_CLEAR and ACCOUNT_LOAD (R160, R180, R181) -/

theorem marks_setAccount (s : State) (i : Fin 64) (a : Account) : Marks true s (s.setAccount i a) :=
  Marks.after (keeps_setCosts s _) (marks_markDirty _)

theorem marks_setPrices (s : State) (t : PriceTable) : Marks true s (s.setPrices t) :=
  Marks.after (keeps_setCosts s _) (marks_markDirty _)

theorem keeps_setPrices (s : State) (t : PriceTable) : Keeps [.costs, .store] s (s.setPrices t) :=
  (keeps_setCosts s _).mono.then (keeps_markDirty _)

/-- An account written. -/
theorem runRequest_setAccount (s : State) (h : Takes s) (kind tag : Byte) (p : List Byte) (rule : RequestRule)
    (status : Status) (i : Fin 64) (a : Account)
    (hr : rule p s.countTaken = { state := s.countTaken.setAccount i a, status := status, fields := [] }) :
    ∃ t, s.runRequest kind tag p rule = .next t ∧ Recorded [.costs] s t kind tag status [] ∧
      t.costs = { s.costs with accounts := s.costs.accounts.set i a } := by
  obtain ⟨t, ht, recorded, left⟩ := runRequest_records s h kind tag p rule status [] _ [.costs] hr
    (keeps_setAccount _ _ _).mono (marks_setAccount _ _ _)
  exact ⟨t, ht, recorded, left.at .costs⟩

theorem pricesAt_eq (p : List Byte) : pricesAt p =
    { ink := Vector.ofFn fun c => u32At p (4 * c.val), media := Vector.ofFn fun k => u32At p (48 + 4 * k.val),
      cut := u32At p 80, handling := u32At p 84 } := by
  simp [pricesAt, u32sAt]

theorem pricesClamped_eq (p : List Byte) : (pricesAt p).clamped =
    { ink := Vector.ofFn fun c => min 1000000 (u32At p (4 * c.val)),
      media := Vector.ofFn fun k => min 10000000 (u32At p (48 + 4 * k.val)),
      cut := min 100000 (u32At p 80), handling := min 10000000 (u32At p 84) } := by
  simp [PriceTable.clamped, pricesAt_eq]

theorem takePricesSet_eq {s : State} {p : List Byte} (hl : p.length = 88) : takePricesSet p s =
    { state := s.setPrices (pricesAt p).clamped, status := if (pricesAt p).clamped = pricesAt p then .ok else .adjusted,
      fields := word32 (s.costs.version + 1) } := by
  have rule : takePricesSet p s = _ := if_neg (by simp [wrongLength_eq_false hl])
  rw [rule, acceptIf_eq_not _ _ decide_eq_true_iff]

theorem takeAccountClear_account {s : State} {p : List Byte} {k : Fin 64} (hl : p.length = 1) (h : byteAt p 0 = k.val) :
    takeAccountClear p s = (s.setAccount k {}).accept [] := by
  have inRange : ¬63 < byteAt p 0 := by omega
  simp [takeAccountClear, wrongLength_eq_false hl, inRange, accountAt_eq h]

theorem takeAccountLoad_account {s : State} {p : List Byte} {k : Fin 64} (hl : p.length = 37) (h : byteAt p 0 = k.val) :
    takeAccountLoad p s =
      { state := s.setAccount k (loadedAccount p), fields := [],
        status := if 65535 < u48At p 25 ∨ 65535 < u48At p 31 then .adjusted else .ok } := by
  have inRange : ¬63 < byteAt p 0 := by omega
  have rule : takeAccountLoad p s = (s.setAccount k (loadedAccount p)).acceptIf
      (decide (65535 < u48At p 25) || decide (65535 < u48At p 31)) [] := by
    simp [takeAccountLoad, wrongLength_eq_false hl, inRange, accountAt_eq h]
  rw [rule, acceptIf_eq _ _ (P := 65535 < u48At p 25 ∨ 65535 < u48At p 31) (by simp)]

theorem loadedAccount_eq (p : List Byte) :
    let sum := u48At p 1 + u48At p 7 + u48At p 13 + u48At p 19
    loadedAccount p =
      { ink := u48At p 1, media := u48At p 7, cut := u48At p 13, handling := u48At p 19,
        total := min 281474976710655 sum, acceptedPrints := min 65535 (u48At p 25),
        attemptsPosted := min 65535 (u48At p 31),
        saturated := decide ((65535 < u48At p 25 ∨ 65535 < u48At p 31) ∨ 281474976710655 < sum) } := by
  have noted : (decide (65535 < u48At p 25) || decide (65535 < u48At p 31) ||
      decide (max48 < u48At p 1 + u48At p 7 + u48At p 13 + u48At p 19)) =
      decide ((65535 < u48At p 25 ∨ 65535 < u48At p 31) ∨
        281474976710655 < u48At p 1 + u48At p 7 + u48At p 13 + u48At p 19) := by
    rw [Bool.eq_iff_iff]
    simp only [Bool.or_eq_true, decide_eq_true_eq]
    exact Iff.rfl
  simp only [loadedAccount, noted]
  rfl

/-- Settles O33: the whole table, or one account, written. -/
theorem pricesAndAccountsWritten : Obligations.PricesAndAccountsWritten := by
  refine ⟨fun tag p s h hl => ?_, fun tag p s h => ⟨fun hl bad => ?_, fun hl bad => ?_, fun k hk => ⟨fun hl => ?_, fun hl => ?_⟩⟩⟩
  · intro given held
    have rule := takePricesSet_eq (s := s.countTaken) hl
    rw [pricesClamped_eq, pricesAt_eq] at rule
    obtain ⟨t, ht, recorded, left⟩ := runRequest_records s h 0x54 tag p takePricesSet _ _ _ [.costs] rule
      (keeps_setPrices _ _).mono (marks_setPrices _ _)
    exact ⟨t, ht, recorded, left.at .costs⟩
  · exact runRequest_onlyReplied s h _ _ _ takeAccountClear _ _
      (by simp [takeAccountClear, wrongLength_eq_false hl, bad, State.refuse])
  · exact runRequest_onlyReplied s h _ _ _ takeAccountLoad _ _
      (by simp [takeAccountLoad, wrongLength_eq_false hl, bad, State.refuse])
  · exact runRequest_setAccount s h 0x57 tag p takeAccountClear _ k _ (takeAccountClear_account hl hk)
  · intro sum clamped loaded
    have rule := takeAccountLoad_account (s := s.countTaken) hl hk
    rw [loadedAccount_eq] at rule
    exact runRequest_setAccount s h 0x58 tag p takeAccountLoad _ k _ rule

end Sys2Proof.Machine

/-! The transmitter, the notice requests, STORE_COMMIT and the end of a store write (O34, O35). -/

namespace Sys2Proof.Machine

/-! ### What the transmitter starts (R196, R204) -/

/-- The queue the transmitter starts from is the one it is given. -/
theorem startFrom_setTx (s : State) (queue frames : List TxFrame) :
    (s.setServer { s.server with tx := queue }).startFrom frames = s.startFrom frames := by
  induction frames generalizing s with
  | nil => rfl
  | cons f rest ih =>
    cases f with
    | reply tag kind status fields => rfl
    | notice =>
      unfold State.startFrom
      split
      · next none =>
        rw [if_pos (show s.notices.pending &&& s.notices.enabled = 0 from none)]
        exact ih (s.setNotices { s.notices with place := .none })
      · next some =>
        rw [if_neg (show ¬s.notices.pending &&& s.notices.enabled = 0 from some)]
        rfl

theorem kick_eq_startFrom {s : State} (free : s.server.sending = none) (unquiet : s.quiet = none) :
    s.kick = s.startFrom s.server.tx := by
  simp [State.kick, State.silent, free, unquiet]

theorem setServer_setTx_self {s : State} {l : List TxFrame} (h : s.server.tx = l) (sending : Option (List Byte)) :
    s.setServer { s.server with tx := l, sending := sending } = { s with server := { s.server with sending := sending } } := by
  subst h
  rfl

theorem kick_reply {s : State} {rest : List TxFrame} (free : s.server.sending = none) (unquiet : s.quiet = none)
    {tag kind : Byte} {status : Status} {fields : List Byte} (h : s.server.tx = .reply tag kind status fields :: rest) :
    s.kick = { s with server := { s.server with
      sending := some (frameBytes 0x80 tag (BitVec.ofNat 8 status.code :: kind :: fields)) } } := by
  rw [kick_eq_startFrom free unquiet, h]
  exact setServer_setTx_self h _

theorem kick_notice {s : State} {rest : List TxFrame} (free : s.server.sending = none) (unquiet : s.quiet = none)
    (h : s.server.tx = .notice :: rest) (some : s.notices.pending &&& s.notices.enabled ≠ 0) :
    s.kick = { s with
      server := { s.server with
        sending := .some (frameBytes 0x81 0 ((s.notices.pending &&& s.notices.enabled) :: word32 s.orders.clock)) },
      notices := { s.notices with place := .sending } } := by
  rw [kick_eq_startFrom free unquiet, h, State.startFrom, if_neg some, setServer_setTx_self h]
  rfl

theorem kick_notice_unsent {s : State} {rest : List TxFrame} (free : s.server.sending = none) (unquiet : s.quiet = none)
    (h : s.server.tx = .notice :: rest) (none : s.notices.pending &&& s.notices.enabled = 0) :
    s.kick = State.kick { s with server := { s.server with tx := rest },
                                 notices := { s.notices with place := .none } } := by
  rw [kick_eq_startFrom free unquiet, h, State.startFrom, if_pos none,
    kick_eq_startFrom (s := { s with server := { s.server with tx := rest }, notices := { s.notices with place := .none } })
      free unquiet]
  exact (startFrom_setTx (s.setNotices { s.notices with place := .none }) rest rest).symm

/-! ### NOTICE_ENABLE and NOTICE_CLEAR (R202, R203, R206) -/

/-- Enabling the set is a trigger: a pending category that was disabled is enabled. -/
abbrev State.enableTriggers (s : State) (set : Byte) : Prop := s.notices.pending &&& set &&& ~~~s.notices.enabled ≠ 0

/-- What NOTICE_ENABLE leaves of the notice unit and of the transmit queue. -/
theorem enable_eq (s : State) (set : Byte) : s.enable set = { s with
    server := { s.server with tx :=
      s.server.tx ++ (if s.enableTriggers set ∧ s.notices.place = .none then [.notice] else []) }
    notices := { s.notices with
      enabled := set
      owed := s.notices.owed || decide (s.enableTriggers set ∧ s.notices.place = .sending)
      place := if s.enableTriggers set ∧ s.notices.place = .none then .awaiting else s.notices.place } } := by
  by_cases h : s.enableTriggers set
  · have enabled : s.enable set = (s.setNotices { s.notices with enabled := set }).trigger := if_neg h
    have triggers : ¬s.notices.pending &&& set &&& ~~~s.notices.enabled = 0#8 := h
    rw [enabled]
    unfold State.trigger
    cases hp : s.notices.place <;> simp [State.setNotices, State.setServer, triggers, hp]
  · have none : s.notices.pending &&& set &&& ~~~s.notices.enabled = 0#8 := not_not.1 h
    have enabled : s.enable set = s.setNotices { s.notices with enabled := set } := if_pos none
    rw [enabled]
    simp [State.setNotices, none]

/-- An answered request whose rule wrote the notices and queued at most the NOTICE frame of a trigger. -/
theorem runRequest_notices (s : State) (h : Takes s) (kind tag : Byte) (p : List Byte) (rule : RequestRule)
    (fields : List Byte) (n : NoticeUnit) (queued : List TxFrame)
    (hr : rule p s.countTaken = { state := (s.countTaken.setServer
      { s.countTaken.server with tx := s.countTaken.server.tx ++ queued }).setNotices n, status := .ok, fields := fields })
    (hq : (n.place = s.notices.place ∧ queued = []) ∨
      (s.notices.place = .none ∧ n.place = .awaiting ∧ queued = [.notice])) :
    ∃ t, s.runRequest kind tag p rule = .next t ∧ Replied s t kind tag .ok fields ∧ StoreUnmarked s t ∧
      Keeps linkBlocks s t ∧ t.notices.enabled = n.enabled ∧ t.notices.pending = n.pending ∧ t.notices.owed = n.owed ∧
      (s.server.sending.isSome = true → t.server.tx = s.server.tx ++ queued ++ [.reply tag kind .ok fields] ∧
        t.notices.place = n.place) := by
  obtain ⟨-, unquiet, nothingHeld, -⟩ := id h
  obtain ⟨t, ht, left, replied, ⟨pending, enabled, owed, place⟩, -, -, unmarked⟩ := runRequest_answered s h kind tag p rule _
    hr unquiet rfl nothingHeld rfl fun _ => ⟨rfl, hq.imp (fun q => ⟨q.1, by rw [q.2]; rfl⟩)
      fun q => ⟨q.1, q.2.1, by rw [q.2.2]; rfl⟩⟩
  have keeps : Keeps linkBlocks s t :=
    (((keeps_countTaken s).mono.then (keeps_setServer _ _)).then (keeps_setNotices _ _)).trans left
  refine ⟨t, ht, replied, unmarked.of_store_eq rfl, keeps, enabled, pending, owed, fun busy => ?_⟩
  obtain ⟨-, -, -, -, -, -, -, -, -, -, -, going⟩ := takeRequest_closed s kind tag p rule _ hr
  obtain ⟨-, -, tx⟩ := going busy
  have same : (s.takeRequest { kind := kind, tag := tag, payload := p } rule).closeStep = t :=
    Host.Outcome.next.inj ((runRequest_taken s h kind tag p rule).symm.trans ht)
  rw [same] at tx
  exact ⟨tx, place busy⟩

/-- Settles O34: what starts by the head of the queue, the two requests by what they write of the notices. -/
theorem noticesAreQueuedAndSent : Obligations.NoticesAreQueuedAndSent := by
  refine ⟨fun s rest free unquiet => ⟨fun tag kind status fields h => kick_reply free unquiet h,
    kick_notice free unquiet, kick_notice_unsent free unquiet⟩, fun tag b s h => ?_, fun tag b s h => ?_⟩
  · have rule : takeNoticeEnable [b] s.countTaken = (s.countTaken.enable b).accept [b] := rfl
    rw [enable_eq] at rule
    obtain ⟨t, ht, replied, unmarked, keeps, enabled, pending, owed, busy⟩ := runRequest_notices s h 0x68 tag [b]
      takeNoticeEnable _ _ _ rule (by
        by_cases q : s.enableTriggers b ∧ s.notices.place = .none
        · exact .inr ⟨q.2, if_pos q, if_pos q⟩
        · exact .inl ⟨if_neg q, if_neg q⟩)
    refine ⟨t, ht, replied, unmarked, keeps, enabled, pending, fun trigger => ?_, fun none => ?_, busy⟩
    · rw [beq_eq_decide, ← decide_eq_decide.2 (and_iff_right trigger)]
      exact owed
    · rw [← Bool.or_false s.notices.owed,
        ← decide_eq_false fun both : s.enableTriggers b ∧ s.notices.place = .sending => none both.1]
      exact owed
  · obtain ⟨t, ht, replied, unmarked, keeps, enabled, pending, owed, busy⟩ := runRequest_notices s h 0x69 tag [b]
      takeNoticeClear [s.notices.pending &&& ~~~b] { s.notices with pending := s.notices.pending &&& ~~~b } []
      (by rw [List.append_nil]; rfl) (.inl ⟨rfl, rfl⟩)
    refine ⟨t, ht, replied, unmarked, keeps, enabled, pending, owed, fun going => ?_⟩
    obtain ⟨tx, place⟩ := busy going
    exact ⟨by simpa using tx, place⟩

/-! ### STORE_COMMIT and the end of a write (R213 to R216) -/

theorem committed_stateCode (r : RetainedStore) :
    u8 (RetainedStore.stateCode { r with dirty := true }) = [if r.writing ≠ none then 2 else 1] := by
  unfold RetainedStore.stateCode
  cases r.writing <;> rfl

theorem closeStep_working {u : State} (unquiet : u.quiet = none) (hw : u.store.writing = none) :
    u.closeStep.store.dirty = false ∧
      u.closeStep.store.writing = (if u.store.dirty then some u.closeStep.retained else none) := by
  have due : u.writeDue = u.store.dirty := by simp [State.writeDue, State.mayWrite, unquiet, hw]
  rw [closeStep_store, closeStep_retained, due]
  cases hd : u.store.dirty <;> simp [hd, hw]

/-- Settles O35: the write due at the end of a step (`closeStep_store`) after each end of a write. -/
theorem storeWritesImage : Obligations.StoreWritesImage := by
  refine ⟨fun tag s h => ?_, fun s copy works hw => ?_⟩
  · obtain ⟨t, ht, recorded, -⟩ := runRequest_records s h 0x70 tag [] takeStoreCommit .ok _ _ [] rfl
      (keeps_markDirty _) (marks_markDirty _)
    refine ⟨t, ht, ?_⟩
    rw [← committed_stateCode]
    exact recorded
  · obtain ⟨held, unquiet⟩ := works
    refine ⟨⟨_, exec_storeWriteEnd s copy held hw .written, ?_, ?_, ?_⟩, fun kept =>
      ⟨_, exec_storeWriteEnd s copy held hw (.failed kept), ?_, ?_⟩⟩
    · exact ((Keeps.refl _ s).then (keeps_setStore s _)).then (keeps_closeStep_working _ unquiet)
    · exact closeStep_notices_kept (s.endWrite copy .written)
    · obtain ⟨image, event, failed, last, lastFailed⟩ := (closeStep_link (s.endWrite copy .written)).2.2.2.2
      exact ⟨image, last, event, failed, lastFailed, closeStep_working (u := s.endWrite copy .written) unquiet rfl⟩
    · have keeps := keeps_endWrite_failed s copy kept
      exact keeps.then (keeps_closeStep_working _ ((keeps.at .quiet).trans unquiet))
    · have keeps := keeps_endWrite_failed s copy kept
      have store := endWrite_failed_store s copy kept
      have pended : (s.endWrite copy (.failed kept)).notices.pending = s.notices.pending ||| 128#8 :=
        (raise_pending _ _).trans (by rw [system_mask]; rfl)
      obtain ⟨image, event, failed, last, lastFailed⟩ := (closeStep_link (s.endWrite copy (.failed kept))).2.2.2.2
      obtain ⟨dirty, writing⟩ := closeStep_working ((keeps.at .quiet).trans unquiet) (congrArg RetainedStore.writing store)
      rw [store] at image event failed last lastFailed writing
      exact ⟨image, last, event, failed, lastFailed, dirty, writing, (closeStep_notices_kept _).1.trans pended⟩

end Sys2Proof.Machine

/-! The engine slot: what it gives, READY and probing, selection (O39 to O41). -/

namespace Sys2Proof.Machine

/-! ### The slot's turn (R77, R78) -/

/-- A slot that has its turn: the holder's next command, or the arbiter's offer. -/
theorem serveSlot_of_free {s : State} (quiet : s.quiet = none) (free : s.engine.outstanding = none) :
    s.serveSlot = match s.holder with
      | .idle => s.offer
      | .attempt a => s.serveAttempt a
      | .clearOut t => s.serveTask t .clearOut
      | .trim t => s.serveTask t .trim
      | .cleaning _ => s
      | .probing true => (s.issue .probe .probing).setHolder (.probing false)
      | .probing false => s := by
  have turn : ¬((!s.working || s.engine.outstanding.isSome) = true) := by simp [State.working, quiet, free]
  exact if_neg turn

theorem serveSlot_idle {s : State} (quiet : s.quiet = none) (free : s.engine.outstanding = none)
    (idle : s.holder = .idle) : s.serveSlot = s.offer := by
  rw [serveSlot_of_free quiet free, idle]

theorem serveSlot_probing_due {s : State} (quiet : s.quiet = none) (free : s.engine.outstanding = none)
    (due : s.holder = .probing true) : s.serveSlot = (s.issue .probe .probing).setHolder (.probing false) := by
  rw [serveSlot_of_free quiet free, due]

/-- An issue and its frame (R69, R70, R224). -/
theorem frame_eq (cmd : EngineCommand) (tag : Byte) : cmd.frame tag = match cmd with
    | .feed n => frameBytes 0xA0 tag (u32 n)
    | .band order attempt index length gains =>
      frameBytes 0xA1 tag (word32 order ++ u8 attempt ++ u16 index ++ u8 length ++ gains.toList.flatMap u16)
    | .strip order attempt margin gains =>
      frameBytes 0xA2 tag (word32 order ++ u8 attempt ++ u8 margin ++ gains.toList.flatMap u16)
    | .cut => frameBytes 0xA3 tag []
    | .clean levels => frameBytes 0xA4 tag (levels.toList.flatMap u8)
    | .probe => frameBytes 0xA5 tag []
    | .engineReset => frameBytes 0xA6 tag [] := by
  cases cmd <;> rfl

/-- A new task's first command: its FEED, or its CUT when there is nothing to feed (R44, R45). -/
theorem Task.new_command (n : Nat) : (Task.new n).command = if 0 < n then .feed n else .cut := by
  simp [Task.command, Task.new]

theorem margins_tail (s : State) (k : Fin 8) : (s.margins k).2.2 =
    match s.media.kinds[k] with | some m => m.tail | none => 0 := by
  unfold State.margins
  cases s.media.kinds[k] <;> rfl

/-- The supply states in which a channel may be cleaned (R79). -/
theorem Channel.cleanable_iff (c : Channel) : c.cleanable = true ↔ 0 < c.cleaning ∧
    c.supply ∈ [SupplyState.supplied, .low, .reserve] := by
  cases hc : c.supply <;> simp [Channel.cleanable, hc]

/-- A channel without a level has none to carry, whatever its supply state. -/
theorem Channel.carried_eq (c : Channel) : (if c.cleanable then c.cleaning else 0) =
    if c.supply ∈ [SupplyState.supplied, .low, .reserve] then c.cleaning else 0 := by
  simp only [c.cleanable_iff]
  split_ifs <;> grind

theorem Channel.cleanTaken_eq (c : Channel) : (if c.cleanable then { c with cleaning := 0 } else c) =
    if c.supply ∈ [SupplyState.supplied, .low, .reserve] then { c with cleaning := 0 } else c := by
  simp only [c.cleanable_iff]
  split_ifs with both held held
  · rfl
  · exact absurd both.2 held
  · have zero : c.cleaning = 0 := Nat.eq_zero_of_not_pos fun positive => both ⟨positive, held⟩
    rw [← zero]
  · rfl

theorem anyCleanable_iff (s : State) : ((List.finRange 12).any fun c => s.ink.channels[c].cleanable) = true ↔
    ∃ c : Fin 12, 0 < s.ink.channels[c].cleaning ∧ s.ink.channels[c].supply ∈ [.supplied, .low, .reserve] := by
  simp only [List.any_eq_true, List.mem_finRange, true_and, Channel.cleanable_iff]

/-! ### The arbiter (R78) -/

theorem offer_starting {s : State} (h : s.engine.state = .starting) : s.offer = s.issue .engineReset .startUp := by
  simp [State.offer, h]

theorem offer_off {s : State} (h : s.engine.state = .off) : s.offer =
    if s.engine.autoRecovery then (s.issue .probe .probing).setHolder (.probing false) else s := by
  simp [State.offer, h]

theorem offer_running {s : State} (h : s.engine.state ∈ [EngineState.ok, .warn, .limited]) : s.offer =
    if s.engine.coverClosed = true ∧ s.engine.startUpFlag = false then s.offerWork else s := by
  unfold State.offer
  cases hs : s.engine.state <;> simp_all

/-- The clear-out comes first (use 3). -/
theorem offerWork_clearOut {s : State} (h : s.media.roll.clearOutPending = true) : s.offerWork = s.startClearOut := if_pos h

/-- Then a CLEAN (use 4). -/
theorem offerWork_cleaning {s : State} (none : s.media.roll.clearOutPending = false)
    (h : ((List.finRange 12).any fun c => s.ink.channels[c].cleanable) = true) : s.offerWork = s.startCleaning := by
  unfold State.offerWork
  rw [if_neg (by simp [none]), if_pos h]

/-- Then the pending trim (use 5). -/
theorem offerWork_trim {s : State} {n : Nat} (none : s.media.roll.clearOutPending = false)
    (clean : ¬((List.finRange 12).any fun c => s.ink.channels[c].cleanable) = true)
    (h : s.engine.pendingTrim = some n) : s.offerWork = s.startTrim n := by
  unfold State.offerWork
  rw [if_neg (by simp [none]), if_neg clean, h]

/-- Then a selection (use 6). -/
theorem offerWork_select {s : State} (no : s.media.roll.clearOutPending = false)
    (clean : ¬((List.finRange 12).any fun c => s.ink.channels[c].cleanable) = true)
    (h : s.engine.pendingTrim = none) :
    s.offerWork = if !s.orders.paused && s.engine.state.selects then s.select else s := by
  unfold State.offerWork
  rw [if_neg (by simp [no]), if_neg clean, h]

theorem startCleaning_eq (s : State) :
    let levels : Vector Nat 12 := Vector.ofFn fun c =>
      if s.ink.channels[c].supply ∈ [.supplied, .low, .reserve] then s.ink.channels[c].cleaning else 0
    s.startCleaning = ((s.setInk { s.ink with channels := Vector.ofFn fun c =>
        if s.ink.channels[c].supply ∈ [.supplied, .low, .reserve] then { s.ink.channels[c] with cleaning := 0 }
        else s.ink.channels[c] }).setHolder (.cleaning levels)).issue (.clean levels) .cleaning := by
  simp only [State.startCleaning, InkUnit.cleanLevels, InkUnit.cleanTaken, Channel.carried_eq, Channel.cleanTaken_eq]

/-- A selection that chooses no order re-evaluates them all the same (R18). -/
theorem select_none {s : State} (h : s.reevaluate.orders.choose = none) : s.select = s.reevaluate := by
  unfold State.select
  simp only [h]

/-- Settles O40: the arbiter use by use. -/
theorem arbiterServesInOrder : Obligations.ArbiterServesInOrder := by
  refine ⟨serveSlot_outstanding, fun s cmd party => ?_, fun s k quiet free => ?_, fun s quiet free idle => ?_⟩
  · intro frame
    have same : cmd.frame s.engine.nextTag = frame s.engine.nextTag := frame_eq cmd _
    rw [← same]
    rfl
  · have turn := serveSlot_of_free quiet free
    intro command
    refine ⟨fun holds => ?_, fun holds => ?_, fun holds => ?_, fun holds => ?_⟩
    · rw [holds] at turn; exact turn
    · rw [holds] at turn; exact turn
    · rw [holds] at turn; exact turn
    · obtain holds | ⟨levels, holds⟩ := holds <;> rw [holds] at turn <;> exact turn
  · intro cleanable may
    rw [serveSlot_idle quiet free idle]
    have running (m : may) : s.offer = s.offerWork := by
      obtain ⟨state, closed, started⟩ := m
      rw [offer_running state, if_pos ⟨closed, started⟩]
    refine ⟨offer_starting, offer_off, fun other idles => ?_, fun m pending => ?_, fun m none cleans => ?_,
      fun m none clean => ⟨fun n trim positive => ?_, fun trim barred => ?_, fun trim unpaused other chosen => ?_⟩⟩
    · have runs : s.engine.state ∈ [EngineState.ok, .warn, .limited] := by
        cases hs : s.engine.state <;> simp_all
      rw [offer_running runs, if_neg fun both => idles ⟨runs, both⟩]
    · intro tail
      have tail_eq : (s.margins s.media.roll.mediaKind).2.2 = tail := margins_tail s _
      rw [running m, offerWork_clearOut pending, State.startClearOut, Task.new_command, tail_eq]
      rfl
    · intro levels
      rw [running m, offerWork_cleaning none ((anyCleanable_iff s).2 cleans), startCleaning_eq]
    · rw [running m, offerWork_trim none (by rw [anyCleanable_iff]; exact clean) trim]
      rw [State.startTrim, Task.new_command, if_pos positive]
      rfl
    · rw [running m, offerWork_select none (by rw [anyCleanable_iff]; exact clean) trim]
      obtain paused | limited := barred
      · simp [paused]
      · simp [limited, EngineState.selects]
    · rw [running m, offerWork_select none (by rw [anyCleanable_iff]; exact clean) trim]
      have selects : s.engine.state.selects = true := by
        obtain ⟨state, -, -⟩ := m
        cases hs : s.engine.state <;> simp_all [EngineState.selects]
      simp [unpaused, selects, select_none chosen]

end Sys2Proof.Machine

/-! Correct reports, READY and probing (O39; R72 class 3, R75, R84, R87). -/

namespace Sys2Proof.Machine

/-! ### The error count (R81, R82) -/

/-- A new error count that does not make the state OFF. -/
theorem setCount_eq {s : State} {n : Nat} (on : stateOfCount n = .off → s.engine.state = .off) :
    s.setCount n = (s.setEngine { s.engine with errorCount := n, state := stateOfCount n }).raiseIf
      (decide (stateOfCount n ≠ s.engine.state)) .engine := by
  unfold State.setCount State.setEngineState State.raiseIf
  by_cases same : stateOfCount n = s.engine.state
  · simp [same]
  · have running : stateOfCount n ≠ .off := fun off => same (off.trans (on off).symm)
    simp [same, running]
    rfl

theorem stateOfCount_eq_off (n : Nat) : stateOfCount n = .off ↔ 255 ≤ n := by
  unfold stateOfCount
  split_ifs <;> simp <;> omega

/-- The engine link once a correct report has freed the slot and one error is forgiven. -/
def EngineLink.forgiven (e : EngineLink) : EngineLink :=
  { e with
    outstanding := none,
    errorCount := if e.state.running then e.errorCount - 1 else e.errorCount,
    state := if e.state.running then stateOfCount (e.errorCount - 1) else e.state }

theorem freeSlot_forgiveError {s : State} (counted : EngineCounted s) : s.freeSlot.forgiveError =
    (s.setEngine s.engine.forgiven).raiseIf (decide (s.engine.forgiven.state ≠ s.engine.state)) .engine := by
  obtain ⟨bound, -⟩ := counted
  show (if s.engine.state.running = true then s.freeSlot.setCount (s.engine.errorCount - 1) else s.freeSlot) = _
  by_cases running : s.engine.state.running = true
  · have on : stateOfCount (s.engine.errorCount - 1) ≠ .off := by rw [Ne, stateOfCount_eq_off]; omega
    have link : s.engine.forgiven = { s.engine with
        outstanding := none, errorCount := s.engine.errorCount - 1, state := stateOfCount (s.engine.errorCount - 1) } := by
      simp [EngineLink.forgiven, running]
    rw [if_pos running, setCount_eq (fun off => absurd off on), link]
    rfl
  · rw [if_neg running]
    simp [EngineLink.forgiven, running, State.freeSlot, State.setEngine, State.raiseIf]

/-- In STARTING and OFF nothing is forgiven. -/
theorem freeSlot_forgiveError_still {s : State} (still : s.engine.state.running = false) :
    s.freeSlot.forgiveError = s.freeSlot := by
  simp [State.forgiveError, State.freeSlot, still]

/-! ### Correct reports (R72 class 3) -/

theorem exec_correct {c : Instr} {tag : Byte} {r : Report} {s : State} {cmd : EngineCommand} {party : Party}
    (hc : reportOf c = some (tag, r)) (h : Awaits s cmd party tag) (answers : r.answers cmd = true) :
    exec c s = s.run fun _ => (s.freeSlot.forgiveError.deliver cmd party r).serveSlot := by
  obtain ⟨⟨held, quiet⟩, frame, elapsed, out⟩ := h
  rw [exec_report c tag r s hc]
  simp [State.run, held, State.takeReport, State.working, quiet, State.answered?, out, answers, State.correctReport]

theorem deliver_startUp (v : State) (cmd : EngineCommand) (r : Report) : v.deliver cmd .startUp r = v.readyTaken := by
  unfold State.deliver
  rfl

theorem deliver_probing (v : State) (cmd : EngineCommand) (r : Report) {due : Bool} (h : v.holder = .probing due) :
    v.deliver cmd .probing r = v.probeAcked := by
  unfold State.deliver
  rw [h]

theorem engine_mask : Category.engine.mask = 64#8 := by decide

/-! ### READY and probing (R75, R84, R87) -/

/-- With the start-up reports outstanding the arbiter offers nothing (R75, R78). -/
theorem serveSlot_startUp {s : State} (quiet : s.quiet = none) (free : s.engine.outstanding = none)
    (idle : s.holder = .idle) (ok : s.engine.state = .ok) (flag : s.engine.startUpFlag = true) : s.serveSlot = s := by
  rw [serveSlot_idle quiet free idle, offer_running (by simp [ok]), if_neg (by simp [flag])]

/-- READY leaves the slot nothing to offer, and the state OK (R75, R87). -/
theorem readyTaken_engine (v : State) : v.readyTaken.engine = { v.engine with
    state := .ok, errorCount := 0, probeRun := 0, coverClosed := false, startUpFlag := true, rollNoted := false,
    coverNoted := false } :=
  (keeps_raise _ _).at .engine

theorem readyTaken_pending (v : State) : v.readyTaken.notices.pending = v.notices.pending ||| 64#8 :=
  (raise_pending _ _).trans (congrArg (v.notices.pending ||| ·) engine_mask)

theorem ready_answers (s : State) (tag : Byte) (h : Awaits s .engineReset .startUp tag) (idle : s.holder = .idle)
    (counted : EngineCounted s) :
    ∃ t, exec (.ready tag) s = .next t ∧ Keeps (.engine :: linkBlocks) s t ∧
      t.notices.pending = s.notices.pending ||| 64#8 ∧
      t.engine = { s.engine with
        state := .ok, errorCount := 0, probeRun := 0, outstanding := none, coverClosed := false, startUpFlag := true,
        rollNoted := false, coverNoted := false } := by
  have run := exec_correct (c := .ready tag) (r := .ready) rfl h rfl
  have works := h.1
  have quiet := works.2
  generalize hv : s.freeSlot.forgiveError = v at run
  rw [freeSlot_forgiveError counted] at hv
  have forgives : Keeps [.engine, .notices, .server] s v :=
    hv ▸ (keeps_setEngine s _).mono.then (keeps_raiseIf _ _ _)
  have engine : v.engine = s.engine.forgiven := hv ▸ (keeps_raiseIf _ _ _).at .engine
  have keeps : Keeps [.engine, .notices, .server] s v.readyTaken := forgives.then (keeps_readyTaken v)
  have link := readyTaken_engine v
  rw [engine] at link
  have still : v.readyTaken.serveSlot = v.readyTaken :=
    serveSlot_startUp ((keeps.at .quiet).trans quiet) (congrArg EngineLink.outstanding link)
      ((keeps.at .holder).trans idle) (congrArg EngineLink.state link) (congrArg EngineLink.startUpFlag link)
  obtain ⟨t, ht, closed, ⟨pending, -⟩, -⟩ :=
    run_closed s v.readyTaken works (fun _ => (v.deliver .engineReset .startUp .ready).serveSlot)
      ((congrArg State.serveSlot (deliver_startUp v .engineReset .ready)).trans still) ((keeps.at .quiet).trans quiet)
  refine ⟨t, run.trans ht, keeps.mono.trans closed.mono, ?_, (closed.at .engine).trans link⟩
  rw [pending, readyTaken_pending, ← hv, raiseIf_pending, engine_mask]
  split
  · rw [BitVec.or_assoc, BitVec.or_self]
    rfl
  · rfl

/-- A PROBE_ACK that is not the sixteenth (R84). -/
theorem probeAck_early (s : State) (tag : Byte) (h : Awaits s .probe .probing tag) (holds : s.holder = .probing false)
    (off : s.engine.state = .off) (early : s.engine.probeRun < 15) :
    ∃ t, exec (.probeAck tag) s = .next t ∧ Keeps (.engine :: linkBlocks) s t ∧ NoticesKept s t ∧
      t.engine = { s.engine with outstanding := none, probeRun := s.engine.probeRun + 1 } := by
  have run := exec_correct (c := .probeAck tag) (r := .probeAck) rfl h rfl
  have works := h.1
  rw [freeSlot_forgiveError_still (by simp [off, EngineState.running]), deliver_probing s.freeSlot _ _ holds] at run
  generalize hu : s.setEngine { s.engine with outstanding := none, probeRun := s.engine.probeRun + 1 } = u
  have acked : s.freeSlot.probeAcked = u := hu ▸ if_pos (Nat.succ_lt_succ early)
  have still : u.serveSlot = u := by
    rw [serveSlot_of_free (hu ▸ works.2) (hu ▸ rfl), ← hu]
    simp [holds]
  obtain ⟨t, ht, closed, notices, -⟩ :=
    run_closed s u works (fun _ => s.freeSlot.probeAcked.serveSlot) (acked ▸ still) (hu ▸ works.2)
  have keeps : Keeps [.engine] s u := hu ▸ keeps_setEngine s _
  subst hu
  exact ⟨t, run.trans ht, keeps.mono.trans closed.mono, notices, closed.at .engine⟩

/-- The sixteenth PROBE_ACK completes the recovery (R84). -/
theorem probeAck_last (s : State) (tag : Byte) (h : Awaits s .probe .probing tag) (holds : s.holder = .probing false)
    (off : s.engine.state = .off) (last : 15 ≤ s.engine.probeRun) :
    ∃ t, exec (.probeAck tag) s = .next t ∧ Served [.engine, .holder] s t fun u =>
      u.engine = { s.engine with outstanding := none, probeRun := 0, errorCount := 0, state := .ok } ∧
        u.holder = .idle ∧ u.notices.pending = s.notices.pending ||| 64#8 := by
  have run := exec_correct (c := .probeAck tag) (r := .probeAck) rfl h rfl
  rw [freeSlot_forgiveError_still (by simp [off, EngineState.running]), deliver_probing s.freeSlot _ _ holds] at run
  have acked : s.freeSlot.probeAcked = ((s.setEngine
      { s.engine with outstanding := none, probeRun := 0, errorCount := 0, state := .ok }).raise .engine).setHolder .idle :=
    if_neg (Nat.not_lt.2 (Nat.succ_le_succ last))
  obtain ⟨t, ht, served, -⟩ := run_served s h.1 (fun _ => s.freeSlot.probeAcked.serveSlot) _ [.engine, .holder]
    (fun u => u = s.freeSlot.probeAcked) rfl rfl
    (acked ▸ ((keeps_setEngine s _).mono.then (keeps_raise _ _)).then (keeps_setHolder _ _))
  refine ⟨t, run.trans ht, served.imp fun u hu => ?_⟩
  rw [hu, acked]
  exact ⟨(keeps_raise _ _).at .engine, rfl, (raise_pending _ _).trans (congrArg (_ ||| ·) engine_mask)⟩

/-! ### The probe interval (R84) -/

/-- The outstanding command has timed out and is counted: R71 up to the error count. -/
def State.expired (s : State) (o : Outstanding) : State := s.setEngine { s.engine with
  outstanding := none, expiredTag := some o.tag,
  counters := { s.engine.counters with timeouts := min 65535 (s.engine.counters.timeouts + 1) } }

theorem timeOut_eq (s : State) (o : Outstanding) : s.timeOut o =
    if s.engine.state ≠ .off ∧ ((s.expired o).addErrors 8).engine.state = .off then (s.expired o).addErrors 8
    else ((s.expired o).addErrors 8).tellTimeout o.command o.party := rfl

theorem addErrors_still {s : State} (still : s.engine.state.running = false) (k : Nat) : s.addErrors k = s := by
  simp [State.addErrors, still]

theorem tellTimeout_probing {s : State} {due : Bool} (holds : s.holder = .probing due) (cmd : EngineCommand) :
    s.tellTimeout cmd .probing = s.setEngine { s.engine with probeRun := 0 } := by
  unfold State.tellTimeout
  rw [holds]
  show (s.setEngine { s.engine with probeRun := 0 }).setHolder (.probing due) = _
  rw [← holds]
  rfl

/-- In OFF the timeout of a PROBE only counts and clears the probe run (R71, R81, R84). -/
theorem timeOut_probe {s : State} {o : Outstanding} {due : Bool} (off : s.engine.state = .off)
    (holds : s.holder = .probing due) (party : o.party = .probing) : s.timeOut o =
      s.setEngine { s.engine with
        outstanding := none, expiredTag := some o.tag, probeRun := 0,
        counters := { s.engine.counters with timeouts := min 65535 (s.engine.counters.timeouts + 1) } } := by
  have still : (s.expired o).engine.state.running = false := by
    rw [show (s.expired o).engine.state = .off from off]
    rfl
  rw [timeOut_eq, addErrors_still still, if_neg (fun turned => turned.1 off), party, tellTimeout_probing (s := s.expired o) holds]
  rfl

/-- Settles O39, report by report. -/
theorem readyAndProbing : Obligations.ReadyAndProbing := by
  refine ⟨ready_answers, fun s tag h holds off => ⟨probeAck_early s tag h holds off, probeAck_last s tag h holds off⟩,
    fun s due works holds off parties => ?_⟩
  generalize hv : (match s.engine.outstanding with | none => s | some o => s.timeOut o) = v
  have run : exec .probeInterval s = s.run fun _ => (v.setHolder (.probing true)).serveSlot := by
    show s.run State.probeInterval = _
    cases out : s.engine.outstanding <;>
      simp [State.run, works.1, State.probeInterval, holds, State.working, works.2, ← hv, out]
  have link : v.engine = { s.engine with
      outstanding := none,
      expiredTag := (match s.engine.outstanding with | some o => some o.tag | none => s.engine.expiredTag),
      probeRun := (if s.engine.outstanding = none then s.engine.probeRun else 0),
      counters := (if s.engine.outstanding = none then s.engine.counters
        else { s.engine.counters with timeouts := min 65535 (s.engine.counters.timeouts + 1) }) } := by
    rw [← hv]
    cases out : s.engine.outstanding with
    | none => simp [← out]
    | some o => simp [timeOut_probe off holds (parties o out)]
  have rest : Keeps [.engine] s v := by
    rw [← hv]
    cases out : s.engine.outstanding with
    | none => exact Keeps.refl _ _
    | some o => simp only [timeOut_probe off holds (parties o out)]; exact keeps_setEngine s _
  have quiet : v.quiet = none := (rest.at .quiet).trans works.2
  have issues : (v.setHolder (.probing true)).serveSlot =
      ((v.setHolder (.probing true)).issue .probe .probing).setHolder (.probing false) :=
    serveSlot_probing_due quiet (congrArg EngineLink.outstanding link) rfl
  obtain ⟨t, ht, closed, notices, -⟩ := run_closed s _ works (fun _ => (v.setHolder (.probing true)).serveSlot) issues quiet
  have keeps : Keeps [.engine, .holder] s (((v.setHolder (.probing true)).issue .probe .probing).setHolder (.probing false)) :=
    ((rest.mono.then (keeps_setHolder _ _)).then (keeps_issue _ _ _)).then (keeps_setHolder _ _)
  refine ⟨t, run.trans ht, keeps.mono.trans closed.mono, ?_, closed.at .holder, ?_⟩
  · have same : v.notices = s.notices := rest.at .notices
    have server : v.server = s.server := rest.at .server
    simpa [NoticesKept, State.issue, same, server] using notices
  · rw [show t.engine = _ from closed.at .engine]
    cases out : s.engine.outstanding <;> simp [State.issue, link, frame_eq, out]

end Sys2Proof.Machine

/-! Selection, the re-evaluation and the start of an attempt (O41; R17, R18, R48). -/

namespace Sys2Proof.Machine

/-! ### The choice (R18) -/

/-- What a choice among the first orders of the arrival list is: none when none of them is QUEUED; otherwise a QUEUED order
that those before it stand below in priority, and those after it not above. -/
def OrderBlock.Chosen (b : OrderBlock) (l : List (Fin 40)) : Option (Fin 40 × Order) → Prop
  | none => ∀ (j : Fin 40) (x : Order), j ∈ l → b.slots[j] = some x → x.state ≠ .queued
  | some (i, o) => b.slots[i] = some o ∧ o.state = .queued ∧ ∃ before after, l = before ++ i :: after ∧
      (∀ (j : Fin 40) (x : Order), j ∈ before → b.slots[j] = some x → x.state = .queued → x.priority < o.priority) ∧
      ∀ (j : Fin 40) (x : Order), j ∈ after → b.slots[j] = some x → x.state = .queued → x.priority ≤ o.priority

/-- Every QUEUED order of the list stands no higher than the chosen one. -/
theorem OrderBlock.Chosen.priority_le {b : OrderBlock} {l : List (Fin 40)} {i : Fin 40} {o : Order}
    (h : b.Chosen l (some (i, o))) (j : Fin 40) (x : Order) (hj : j ∈ l) (hx : b.slots[j] = some x)
    (queued : x.state = .queued) : x.priority ≤ o.priority := by
  obtain ⟨held, -, before, after, rfl, lower, notHigher⟩ := h
  obtain early | rfl | late := by simpa using hj
  · exact (lower j x early hx queued).le
  · rw [held] at hx
    cases hx
    exact le_rfl
  · exact notHigher j x late hx queued

/-- One more order of the list. -/
theorem OrderBlock.Chosen.next {b : OrderBlock} {l : List (Fin 40)} {best : Option (Fin 40 × Order)} (h : b.Chosen l best)
    (j : Fin 40) : b.Chosen (l ++ [j]) (betterChoice best j b.slots[j]) := by
  have passes (idle : ∀ x, b.slots[j] = some x → x.state ≠ .queued) : b.Chosen (l ++ [j]) best := by
    cases best with
    | none =>
      intro k x hk
      obtain hk | rfl := by simpa using hk
      · exact h k x hk
      · exact idle x
    | some c =>
      obtain ⟨held, queued, before, after, rfl, lower, notHigher⟩ := h
      refine ⟨held, queued, before, after ++ [j], by simp, lower, fun k x hk hx waits => ?_⟩
      obtain hk | rfl := by simpa using hk
      · exact notHigher k x hk hx waits
      · exact absurd waits (idle x hx)
  cases hx : b.slots[j] with
  | none => exact passes fun x hx' => by simp [hx] at hx'
  | some x =>
    by_cases queued : x.state = .queued
    · cases best with
      | none =>
        simp only [betterChoice, queued, if_true]
        exact ⟨hx, queued, l, [], rfl, fun k y hk hy waits => absurd waits (h k y hk hy), by simp⟩
      | some c =>
        obtain ⟨i, o⟩ := c
        simp only [betterChoice, queued, if_true]
        split
        · next higher =>
          exact ⟨hx, queued, l, [], rfl, fun k y hk hy waits => (h.priority_le k y hk hy waits).trans_lt higher, by simp⟩
        · next notHigher =>
          obtain ⟨held, queuedO, before, after, rfl, lower, others⟩ := h
          refine ⟨held, queuedO, before, after ++ [j], by simp, lower, fun k y hk hy waits => ?_⟩
          obtain hk | rfl := by simpa using hk
          · exact others k y hk hy waits
          · rw [hx] at hy
            cases hy
            exact Nat.not_lt.1 notHigher
    · simp only [betterChoice, queued, if_false]
      exact passes fun y hy => by rw [hx] at hy; cases hy; exact queued

theorem chosen_choose (b : OrderBlock) : b.Chosen b.arrival b.choose := by
  unfold OrderBlock.choose
  generalize b.arrival = l
  induction l using List.reverseRecOn with
  | nil => intro j x hj; simp at hj
  | append_singleton l j ih =>
    rw [List.foldl_append]
    exact ih.next j

theorem choose_some {b : OrderBlock} {i : Fin 40} {o : Order} (distinct : b.arrival.Nodup) (h : b.choose = some (i, o)) :
    i ∈ b.arrival ∧ b.slots[i] = some o ∧ o.state = .queued ∧
      ∀ (j : Fin 40) (x : Order), j ∈ b.arrival → b.slots[j] = some x → x.state = .queued →
        x.priority < o.priority ∨ (x.priority = o.priority ∧ b.arrival.idxOf i ≤ b.arrival.idxOf j) := by
  have chosen := chosen_choose b
  rw [h] at chosen
  have highest := chosen.priority_le
  obtain ⟨held, queued, before, after, split, lower, -⟩ := chosen
  refine ⟨by simp [split], held, queued, fun j x hj hx waits => ?_⟩
  obtain less | same := (highest j x hj hx waits).lt_or_eq
  · exact .inl less
  · refine .inr ⟨same, ?_⟩
    have late : j ∉ before := fun early => absurd (lower j x early hx waits) (by omega)
    rw [split] at distinct
    have apart : i ∉ before := fun early => by
      simp [List.nodup_append] at distinct
      exact (distinct.2.2 i early).1 rfl
    rw [split, List.idxOf_append_of_notMem apart, List.idxOf_append_of_notMem late, List.idxOf_cons_self]
    omega

theorem choose_eq_none_iff (b : OrderBlock) : b.choose = none ↔
    ∀ (j : Fin 40) (x : Order), j ∈ b.arrival → b.slots[j] = some x → x.state ≠ .queued := by
  have chosen := chosen_choose b
  refine ⟨fun h => by rw [h] at chosen; exact chosen, fun idle => ?_⟩
  cases h : b.choose with
  | none => rfl
  | some c =>
    rw [h] at chosen
    obtain ⟨held, queued, before, after, split, -⟩ := chosen
    exact absurd queued (idle c.1 c.2 (by simp [split]) held)

/-! ### The re-evaluation (R17) -/

/-- The order as its eligibility gives, when it waits. -/
def State.revised (s : State) (o : Order) : Order :=
  if o.state ∈ [OrderState.queued, .held] then
    { o with state := if s.holdReasons o = {} then .queued else .held, holds := s.holdReasons o }
  else o

theorem waiting_iff_mem (x : OrderState) : x.waiting = true ↔ x ∈ [OrderState.queued, .held] := by
  cases x <;> simp [OrderState.waiting]

theorem reevaluatedSlot_eq_map (s : State) (x : Option Order) : s.reevaluatedSlot x = x.map s.revised := by
  cases x with
  | none => rfl
  | some o =>
    simp only [State.reevaluatedSlot, waiting_iff_mem, State.revised, Option.map_some]
    split <;> rfl

theorem movesSlot_eq_any (s : State) (x : Option Order) :
    s.movesSlot x = x.any fun o => decide ((s.revised o).state ≠ o.state) := by
  cases x with
  | none => rfl
  | some o =>
    simp only [State.movesSlot, State.revised, Option.any_some]
    by_cases waits : o.state ∈ [OrderState.queued, .held]
    · simp only [(waiting_iff_mem _).2 waits, waits, if_true, Bool.true_and]
      rfl
    · simp [waits, mt (waiting_iff_mem _).1 waits]

theorem reevaluate_answers (s : State) : Keeps [.orders, .notices, .server] s s.reevaluate ∧
    s.reevaluate.orders = { s.orders with slots := Vector.ofFn fun i => (s.orders.slots[i]).map s.revised } ∧
    s.reevaluate.notices.pending =
      (if ∃ i : Fin 40, (s.orders.slots[i]).any (fun o => decide ((s.revised o).state ≠ o.state)) = true
        then s.notices.pending ||| 1#8 else s.notices.pending) := by
  refine ⟨keeps_reevaluate s, ?_, ?_⟩
  · rw [reevaluate_orders]
    simp only [reevaluatedSlot_eq_map]
  · refine (raiseIf_pending _ _ _).trans (if_congr ?_ rfl rfl)
    simp [movesSlot_eq_any]

/-! ### The attempt's start (R48) -/

/-- The first phase, of an attempt without a pending outcome (R49). -/
def Attempt.firstPhase (a : Attempt) : Phase := if 0 < a.waste then .wasteFeed else if 0 < a.lead then .lead else .bands

theorem Attempt.enterFirst_eq {a : Attempt} (none : a.pendingOutcome = none) : a.enterFirst = a.enter a.firstPhase := by
  unfold Attempt.enterFirst Attempt.enterLead Attempt.enterBands Attempt.firstPhase
  simp only [none, and_true, if_true]
  split_ifs <;> rfl

theorem startAttempt_holder (s : State) (i : Fin 40) (o : Order) : (s.startAttempt i o).holder =
    .attempt ((s.newAttempt i o).enter (s.newAttempt i o).firstPhase) := by
  rw [← Attempt.enterFirst_eq (a := s.newAttempt i o) rfl]
  rfl

theorem effectiveBand_eq (n : Nat) : effectiveBand n = if n ∈ [10, 20, 25, 40, 50, 100] then n else 25 := by
  simp [effectiveBand, listedBandLengths]

theorem select_some {s : State} {i : Fin 40} {o : Order} (h : s.reevaluate.orders.choose = some (i, o)) :
    s.select = (s.reevaluate.startAttempt i o).serveAttempt
      ((s.reevaluate.newAttempt i o).enter (s.reevaluate.newAttempt i o).firstPhase) := by
  unfold State.select
  simp only [h]
  rw [startAttempt_holder]

/-- An attempt's turn to go on, when its step is READY and its phase needs no boundary check (R50, R77). -/
theorem serveAttempt_feed {s : State} {a : Attempt} (closed : s.engine.coverClosed = true) (ready : a.step = .ready)
    (bands : a.phase ≠ .bands) (strip : a.phase ≠ .strip) : s.serveAttempt a = s.issuePhase a := by
  simp [State.serveAttempt, closed, ready, bands, strip]

theorem issuePhase_some {s : State} {a : Attempt} {cmd : EngineCommand} (h : s.phaseCommand a = some cmd) :
    s.issuePhase a = (s.issue cmd .attempt).setHolder (.attempt { a with step := .outstanding }) := by
  unfold State.issuePhase
  rw [h]
  rfl

/-- The slot that comes to a selection starts the chosen order's attempt, which goes on at once (R18, R78 use 6). -/
theorem serveSlot_selects {s : State} {i : Fin 40} {o : Order} (quiet : s.quiet = none) (free : s.engine.outstanding = none)
    (idle : s.holder = .idle) (state : s.engine.state ∈ [EngineState.ok, .warn]) (closed : s.engine.coverClosed = true)
    (flag : s.engine.startUpFlag = false) (noClearOut : s.media.roll.clearOutPending = false)
    (noCleaning : ¬∃ c : Fin 12, 0 < s.ink.channels[c].cleaning ∧
      s.ink.channels[c].supply ∈ [SupplyState.supplied, .low, .reserve])
    (noTrim : s.engine.pendingTrim = none) (unpaused : s.orders.paused = false)
    (h : s.reevaluate.orders.choose = some (i, o)) :
    s.serveSlot = (s.reevaluate.startAttempt i o).serveAttempt
        ((s.reevaluate.newAttempt i o).enter (s.reevaluate.newAttempt i o).firstPhase) ∧
      s.serveSlot = (s.reevaluate.startAttempt i o).serveSlot := by
  have keeps : Keeps slotBlocks s (s.reevaluate.startAttempt i o) := (keeps_reevaluate s).mono.then (keeps_startAttempt _ _ _)
  have running : s.engine.state ∈ [EngineState.ok, .warn, .limited] := by
    cases hs : s.engine.state <;> simp_all
  have selects : s.engine.state.selects = true := by
    cases hs : s.engine.state <;> simp_all [EngineState.selects]
  have serves : s.serveSlot = (s.reevaluate.startAttempt i o).serveAttempt
      ((s.reevaluate.newAttempt i o).enter (s.reevaluate.newAttempt i o).firstPhase) := by
    rw [serveSlot_idle quiet free idle, offer_running running, if_pos ⟨closed, flag⟩,
      offerWork_select noClearOut (by rw [anyCleanable_iff]; exact noCleaning) noTrim, if_pos (by simp [unpaused, selects]),
      select_some h]
  have link : (s.reevaluate.startAttempt i o).engine = s.engine :=
    (((keeps_reevaluate s).mono.then (keeps_startAttempt _ _ _) :
      Keeps [.orders, .notices, .server, .holder] _ _).at .engine)
  refine ⟨serves, serves.trans ?_⟩
  rw [serveSlot_of_free ((keeps.at .quiet).trans quiet) ((congrArg EngineLink.outstanding link).trans free),
    startAttempt_holder]

/-- Settles O41: the choice by its split of the arrival list (`chosen_choose`), the attempt field by field. -/
theorem selectionStartsAttempt : Obligations.SelectionStartsAttempt := by
  refine ⟨fun b i o distinct h => choose_some distinct h, choose_eq_none_iff, reevaluate_answers, ?_, ?_⟩
  · intro s i o quiet free idle state closed flag noClearOut noCleaning noTrim unpaused chosen v
    obtain ⟨serves, turn⟩ := serveSlot_selects quiet free idle state closed flag noClearOut noCleaning noTrim unpaused chosen
    have link : v.engine = s.engine :=
      (((keeps_reevaluate s).mono.then (keeps_startAttempt _ _ _) :
        Keeps [.orders, .notices, .server, .holder] _ _).at .engine)
    have cover : v.engine.coverClosed = true := (congrArg EngineLink.coverClosed link).trans closed
    refine ⟨turn, _, startAttempt_holder _ _ _, rfl, fun feed => ?_, fun lead => ?_⟩
    · rw [serves, serveAttempt_feed cover rfl (by simp [feed]) (by simp [feed])]
      exact issuePhase_some (by simp [State.phaseCommand, feed])
    · rw [serves, serveAttempt_feed cover rfl (by simp [lead]) (by simp [lead])]
      exact issuePhase_some (by simp [State.phaseCommand, lead])
  · intro s i o m g x defined set gains t need band
    have kind : s.kindOrBlank o.mediaKind = m := by simp [State.kindOrBlank, defined]
    have setOf : (s.orderSet? o).getD (kindSet o.mediaKind) = g := by simp [set]
    have gainsOf : s.gainsOf g = x.gains := by simp only [State.gainsOf, gains]
    have needs : s.orderNeed o = need := by
      unfold State.orderNeed
      rw [margins_some defined]
      rfl
    have bandOf : effectiveBand m.bandLength = band := effectiveBand_eq _
    refine ⟨(keeps_startAttempt s i o).mono, raise_pending _ _, ?_, _, startAttempt_holder s i o, ?_⟩
    · show ((s.setOrder i _).raise .order).orders.slots[i] = _
      rw [show ((s.setOrder i _).raise .order).orders = (s.setOrder i _).orders from (keeps_raise _ _).at .orders]
      exact Vector.getElem_set_self _
    · simp only [State.newAttempt, kind, setOf, gainsOf, needs, bandOf]
      and_intros <;> rfl

end Sys2Proof.Machine

/-! Postings to account 0, the outcome of an attempt and the immediate end of what holds the slot (R19, R61, R79, R80,
R176, R177, R182). -/

namespace Sys2Proof.Machine

/-! ### Categories that stay pending, and the flags they tell of -/

/-- A category that is pending stays so. -/
theorem LinkKept.stays {s t : State} (h : LinkKept s t) {m : Byte} (bit : s.notices.pending &&& m = m) :
    t.notices.pending &&& m = m := by
  rw [← bit, ← BitVec.and_assoc, BitVec.and_comm t.notices.pending, h.pending]

theorem stays_or {p q m : Byte} (bit : p &&& m = m) : (p ||| q) &&& m = m := by
  ext i hi
  have here := congrArg (fun b : Byte => b[i]) bit
  simp only [BitVec.getElem_and, BitVec.getElem_or] at here ⊢
  cases hm : m[i] <;> simp_all

theorem raised_bit (p m : Byte) : (p ||| m) &&& m = m := by
  ext i hi
  simp only [BitVec.getElem_and, BitVec.getElem_or]
  cases m[i] <;> simp

theorem late_bit (p : Byte) : (p ||| 3#8) &&& 2#8 = 2#8 := by
  rw [show (3#8 : Byte) = 1#8 ||| 2#8 from rfl, ← BitVec.or_assoc]
  exact raised_bit _ 2#8

theorem ended_bit (p : Byte) : (p ||| 3#8) &&& 1#8 = 1#8 := by
  rw [show (3#8 : Byte) = 1#8 ||| 2#8 from rfl, ← BitVec.or_assoc]
  exact stays_or (raised_bit p 1#8)

theorem CostNoted.of_costs {s u : State} (h : u.costs = s.costs) : CostNoted s u := by
  rintro ⟨i, clear, set⟩
  rw [h] at set
  exact absurd (clear.symm.trans set) (by simp)

theorem CostNoted.trans {s t u : State} (h : CostNoted s t) (k : CostNoted t u) (kept : LinkKept t u) :
    CostNoted s u := by
  rintro ⟨i, clear, set⟩
  cases between : t.costs.accounts[i].saturated with
  | false => exact k ⟨i, between, set⟩
  | true => exact kept.stays (h ⟨i, clear, between⟩)

theorem costNoted_post (s : State) (i : Fin 64) (p : Posting) : CostNoted s (s.post i p) := by
  rintro ⟨j, clear, set⟩
  rw [post_costs] at set
  rw [post_pending]
  by_cases same : i = j
  · subst same
    have saturates : s.costs.accounts[i].saturates p = true := by
      have record := (congrArg Account.saturated (Vector.getElem_set_self
        (xs := s.costs.accounts) (x := s.costs.accounts[i].posted p) i.isLt)).symm.trans set
      rw [Account.posted_saturated, clear] at record
      simpa using record
    rw [if_pos saturates]
    exact raised_bit _ _
  · have other := (congrArg Account.saturated (Vector.getElem_set_ne (xs := s.costs.accounts)
      (x := s.costs.accounts[i].posted p) i.isLt j.isLt fun e => same (Fin.ext e))).symm.trans set
    exact absurd (clear.symm.trans other) (by simp)

theorem LateNoted.of_orders {s u : State} (h : u.orders = s.orders) : LateNoted s u := by
  rintro ⟨i, clear, set⟩
  rw [h] at set
  exact absurd (clear.symm.trans set) (by simp)

/-- Only the late flags at the start count. -/
theorem LateNoted.after {s t u : State} (k : LateNoted t u)
    (h : ∀ i : Fin 40, (t.orders.slots[i]).map (·.late) = (s.orders.slots[i]).map (·.late)) : LateNoted s u := by
  rintro ⟨i, clear, set⟩
  exact k ⟨i, (h i).trans clear, set⟩

theorem LateNoted.then {s t u : State} (k : LateNoted s t) (h : u.orders = t.orders) (kept : LinkKept t u) :
    LateNoted s u := by
  rintro ⟨i, clear, set⟩
  rw [h] at set
  exact kept.stays (k ⟨i, clear, set⟩)

/-! ### Spoiled postings (R61, R166, R170, R182) -/

/-- A posting to account 0 which the order's spoiled total also takes. -/
def State.spoil (s : State) (i : Fin 40) (p : Posting) : State :=
  (s.modifyOrder i fun o => { o with cost := o.cost.addSpoiled p.total }).post 0 p

theorem postWaste_eq (s : State) (a : Attempt) (mm : Nat) (cut : Bool) : s.postWaste a mm cut =
    s.spoil a.slot { media := mediaCost mm s.costs.prices.media[s.slotKind a.slot],
                     cut := if cut then s.costs.prices.cut else 0 } := rfl

theorem modifyOrder_some {s : State} {i : Fin 40} {o : Order} (h : s.orders.slots[i] = some o) (f : Order → Order) :
    s.modifyOrder i f = s.setOrder i (f o) := by
  simp only [State.modifyOrder, h]

theorem modifyOrder_none {s : State} {i : Fin 40} (h : s.orders.slots[i] = none) (f : Order → Order) :
    s.modifyOrder i f = s := by
  simp only [State.modifyOrder, h]

theorem postAttempt_spoils (s : State) (a : Attempt) (outcome : AttemptOutcome) : s.postAttempt a outcome false =
    s.spoil a.slot (a.posting (s.slotKind a.slot) outcome) := by
  unfold State.postAttempt State.spoil
  cases h : s.orders.slots[a.slot] with
  | none => simp only [modifyOrder_none h]
  | some o => simp only [modifyOrder_some h, Bool.false_eq_true, if_false]

theorem keeps_spoil (s : State) (i : Fin 40) (p : Posting) :
    Keeps [.orders, .costs, .store, .notices, .server] s (s.spoil i p) :=
  (keeps_modifyOrder s _ _).mono.then (keeps_post _ _ _)

theorem link_spoil (s : State) (i : Fin 40) (p : Posting) : LinkKept s (s.spoil i p) :=
  (link_modifyOrder s _ _).trans (link_post _ _ _)

/-- The accounts after a posting to account 0. -/
def CostUnit.posted (c : CostUnit) (p : Posting) : CostUnit :=
  { c with accounts := c.accounts.set 0 (c.accounts[(0 : Fin 64)].posted p) }

theorem spoil_costs (s : State) (i : Fin 40) (p : Posting) : (s.spoil i p).costs = s.costs.posted p := by
  refine (post_costs _ 0 p).trans ?_
  rw [show (s.modifyOrder i _).costs = s.costs from (keeps_modifyOrder s i _).at .costs]
  rfl

theorem marks_spoil (s : State) (i : Fin 40) (p : Posting) : Marks true s (s.spoil i p) := by
  refine (post_store _ 0 p).trans ?_
  rw [show (s.modifyOrder i _).store = s.store from (keeps_modifyOrder s i _).at .store, Bool.or_true]

theorem costNoted_spoil (s : State) (i : Fin 40) (p : Posting) : CostNoted s (s.spoil i p) :=
  (CostNoted.of_costs ((keeps_modifyOrder s i _).at .costs)).trans (costNoted_post _ _ _) (link_post _ _ _)

/-- The order record with a spoiled posting in its total. -/
def Order.spoiled (o : Order) (p : Posting) : Order := { o with cost := o.cost.addSpoiled p.total }

theorem spoil_orders_some {s : State} {i : Fin 40} {o : Order} (h : s.orders.slots[i] = some o) (p : Posting) :
    (s.spoil i p).orders = { s.orders with slots := s.orders.slots.set i (some (o.spoiled p)) } := by
  refine ((keeps_post _ 0 p).at .orders).trans ?_
  rw [modifyOrder_some h]
  rfl

theorem spoil_orders_none {s : State} {i : Fin 40} (h : s.orders.slots[i] = none) (p : Posting) :
    (s.spoil i p).orders = s.orders := by
  refine ((keeps_post _ 0 p).at .orders).trans ?_
  rw [modifyOrder_none h]

/-! ### The outcome of an attempt (R19, R60) -/

/-- The order in a final state (R19, R22). -/
def Order.ended (o : Order) (final : OrderState) (clock : Word32) : Order :=
  { o with state := final, holds := {}, endTime := some clock, cancelRequested := false,
           late := o.late || o.pastDeadline clock }

/-- The order record that takes an outcome. -/
def Order.taking (o : Order) (outcome : AttemptOutcome) : Order := { o with lastOutcome := some outcome }

/-- The order table after an outcome of the order in slot `i`. -/
def State.outcomeOrders (s : State) (i : Fin 40) (o : Order) (outcome : AttemptOutcome) : OrderBlock :=
  match (o.taking outcome).finalState outcome with
  | some final =>
    { s.orders with
      slots := s.orders.slots.set i (some ((o.taking outcome).ended final s.orders.clock)),
      arrival := s.orders.arrival.filter fun j => j != i }
  | none => { s.orders with slots := s.orders.slots.set i (some (s.evaluated (o.taking outcome))) }

theorem Order.late_or (late past : Bool) : (late || (!late && past)) = (late || past) := by
  cases late <;> simp

theorem applyOutcome_none {s : State} {i : Fin 40} (h : s.orders.slots[i] = none) (outcome : AttemptOutcome) :
    s.applyOutcome i outcome = s := by
  unfold State.applyOutcome
  simp only [h]

theorem applyOutcome_final {s : State} {i : Fin 40} {o : Order} {outcome : AttemptOutcome} {final : OrderState}
    (h : s.orders.slots[i] = some o) (ends : (o.taking outcome).finalState outcome = some final) :
    s.applyOutcome i outcome = s.finishOrder i (o.taking outcome) final := by
  unfold Order.taking at *
  simp only [State.applyOutcome, h, ends]

theorem applyOutcome_retry {s : State} {i : Fin 40} {o : Order} {outcome : AttemptOutcome}
    (h : s.orders.slots[i] = some o) (retried : (o.taking outcome).finalState outcome = none) :
    s.applyOutcome i outcome = (s.setOrder i (s.evaluated (o.taking outcome))).raise .order := by
  unfold Order.taking at *
  simp only [State.applyOutcome, h, retried]

theorem applyOutcome_orders {s : State} {i : Fin 40} {o : Order} (h : s.orders.slots[i] = some o)
    (outcome : AttemptOutcome) : (s.applyOutcome i outcome).orders = s.outcomeOrders i o outcome := by
  unfold State.outcomeOrders
  cases ends : (o.taking outcome).finalState outcome with
  | some final =>
    rw [applyOutcome_final h ends, finishOrder_orders]
    simp only [Order.late_or]
    rfl
  | none =>
    rw [applyOutcome_retry h ends]
    exact (keeps_raise _ .order).at .orders

/-- An order's outcome makes ORDER pending. -/
theorem applyOutcome_order {s : State} {i : Fin 40} {o : Order} (h : s.orders.slots[i] = some o)
    (outcome : AttemptOutcome) : (s.applyOutcome i outcome).notices.pending &&& 1#8 = 1#8 := by
  cases ends : (o.taking outcome).finalState outcome with
  | some final =>
    rw [applyOutcome_final h ends, finishOrder_pending]
    split
    · exact ended_bit _
    · exact raised_bit _ _
  | none =>
    rw [applyOutcome_retry h ends, raise_pending]
    exact raised_bit _ _

theorem late_of_set (slots : Vector (Option Order) 40) (i j : Fin 40) (o : Order) :
    ((slots.set i (some o))[j]).map (·.late) = if i = j then some o.late else (slots[j]).map (·.late) := by
  split
  · next same =>
    subst same
    exact congrArg (Option.map _) (Vector.getElem_set_self _)
  · next other =>
    exact congrArg (Option.map _) (Vector.getElem_set_ne i.isLt j.isLt fun e => other (Fin.ext e))

/-- A slot that is written with an order as late as it was keeps every late flag. -/
theorem late_of_set_same {slots : Vector (Option Order) 40} {i : Fin 40} {o o' : Order} (h : slots[i] = some o)
    (same : o'.late = o.late) (j : Fin 40) : ((slots.set i (some o'))[j]).map (·.late) = (slots[j]).map (·.late) := by
  rw [late_of_set]
  split
  · next e =>
    subst e
    rw [h, same]
    rfl
  · rfl

theorem lateNoted_finishOrder {s : State} {i : Fin 40} {o o' : Order} (h : s.orders.slots[i] = some o)
    (same : o'.late = o.late) (final : OrderState) : LateNoted s (s.finishOrder i o' final) := by
  rintro ⟨j, clear, set⟩
  rw [finishOrder_orders] at set
  simp only [late_of_set] at set
  split at set
  · next e =>
    subst e
    have early : o'.late = false := by simpa [h, same] using clear
    have becomes : (!o'.late && o'.pastDeadline s.orders.clock) = true := by simpa [early] using set
    rw [finishOrder_pending, if_pos becomes]
    exact late_bit _
  · exact absurd (clear.symm.trans set) (by simp)

theorem lateNoted_applyOutcome (s : State) (i : Fin 40) (outcome : AttemptOutcome) :
    LateNoted s (s.applyOutcome i outcome) := by
  cases h : s.orders.slots[i] with
  | none => exact LateNoted.of_orders (congrArg State.orders (applyOutcome_none h outcome))
  | some o =>
    cases ends : (o.taking outcome).finalState outcome with
    | some final =>
      rw [applyOutcome_final h ends]
      exact lateNoted_finishOrder (o' := o.taking outcome) h rfl final
    | none =>
      rw [applyOutcome_retry h ends]
      rintro ⟨j, clear, set⟩
      rw [show ((s.setOrder i _).raise .order).orders = (s.setOrder i _).orders from (keeps_raise _ _).at .orders] at set
      have kept := late_of_set_same (o' := s.evaluated (o.taking outcome)) h rfl j
      exact absurd ((clear.symm.trans kept.symm).trans set) (by simp)

end Sys2Proof.Machine

/-! The immediate end of what holds the slot (R61, R79, R80), as ENGINE_RESTART, the state OFF and a roll removal bring it. -/

namespace Sys2Proof.Machine

/-! ### Hold reasons read neither the clear-out flag nor the blocks that an end changes (R16) -/

theorem holdReasons_congr {s t : State} (kinds : t.media.kinds = s.media.kinds)
    (roll : { t.media.roll with clearOutPending := false } = { s.media.roll with clearOutPending := false })
    (ink : t.ink = s.ink) (colour : t.colour = s.colour) (editions : t.editions = s.editions) (o : Order) :
    t.holdReasons o = s.holdReasons o := by
  have declared : t.media.roll.declared = s.media.roll.declared :=
    (congrArg Roll.declared roll :)
  have kind : t.media.roll.mediaKind = s.media.roll.mediaKind :=
    (congrArg Roll.mediaKind roll :)
  have width : t.media.roll.width = s.media.roll.width :=
    (congrArg Roll.width roll :)
  have fits (need : Nat) : t.media.roll.fits need = s.media.roll.fits need :=
    (congrArg (Roll.fits · need) roll :)
  simp only [State.holdReasons, State.orderNeed, State.margins, State.orderSuspended, State.orderSet?, State.findEdition,
    declared, kind, width, fits, kinds, ink, colour, editions]

/-! ### A run of spoiled postings (R61, R182) -/

/-- The postings `ps` have gone to account 0 and to the spoiled total of the order in slot `i`, COST pending as they note. -/
structure Spoiled (i : Fin 40) (ps : List Posting) (s u : State) : Prop where
  costs : u.costs = ps.foldl CostUnit.posted s.costs
  orders : u.orders = { s.orders with
    slots := (s.orders.slots[i]).elim s.orders.slots fun o => s.orders.slots.set i (some (ps.foldl Order.spoiled o)) }
  link : LinkKept s u
  noted : CostNoted s u
  marks : ∃ b, Marks b s u

variable {i : Fin 40} {ps : List Posting} {s u v : State} {a : Attempt} {o : Order} {outcome : AttemptOutcome}

theorem Spoiled.refl (i : Fin 40) (s : State) : Spoiled i [] s s := by
  refine ⟨rfl, ?_, LinkKept.refl s, CostNoted.of_costs rfl, false, Marks.of_store_eq rfl⟩
  cases h : s.orders.slots[i] with
  | none => rfl
  | some o =>
    have same : s.orders.slots.set i (some o) = s.orders.slots := by
      rw [← h]
      exact Vector.set_getElem_self _
    simp [same]

/-- The order in the slot after the postings, or none as before. -/
theorem Spoiled.slot (h : Spoiled i ps s u) : u.orders.slots[i] = (s.orders.slots[i]).map (ps.foldl Order.spoiled) := by
  rw [h.orders]
  cases held : s.orders.slots[i] with
  | none => exact held
  | some o => exact Vector.getElem_set_self _

theorem Spoiled.spoil (h : Spoiled i ps s u) (p : Posting) : Spoiled i (ps ++ [p]) s (u.spoil i p) := by
  obtain ⟨b, marks⟩ := h.marks
  refine ⟨?_, ?_, h.link.trans (link_spoil _ _ _), h.noted.trans (costNoted_spoil _ _ _) (link_spoil _ _ _),
    _, marks.trans (marks_spoil _ _ _)⟩
  · rw [spoil_costs, h.costs, List.foldl_append]
    rfl
  · have slot := h.slot
    cases held : s.orders.slots[i] with
    | none =>
      rw [held] at slot
      rw [spoil_orders_none slot, h.orders, held]
      rfl
    | some o =>
      rw [held] at slot
      rw [spoil_orders_some slot, h.orders, held]
      simp [List.foldl_append]

/-- Media, uncut marker and store are no part of it. -/
theorem Spoiled.then (h : Spoiled i ps s u) (k : Keeps [.media, .uncut, .store] u v) (link : LinkKept u v)
    (marks : ∃ b, Marks b u v) : Spoiled i ps s v := by
  obtain ⟨b, before⟩ := h.marks
  obtain ⟨c, after⟩ := marks
  exact ⟨(k.at .costs).trans h.costs, (k.at .orders).trans h.orders, h.link.trans link,
    h.noted.trans (.of_costs (k.at .costs)) link, _, before.trans after⟩

theorem foldl_spoiled (ps : List Posting) (o : Order) : ps.foldl Order.spoiled o = { o with cost := { o.cost with
    spoiledTotal := ps.foldl (fun n p => min 281474976710655 (n + (p.ink + p.media + p.cut + p.handling)))
      o.cost.spoiledTotal } } := by
  induction ps generalizing o with
  | nil => rfl
  | cons p ps ih => exact ih (o.spoiled p)

/-- No late flag moves. -/
theorem Spoiled.late (h : Spoiled i ps s u) (j : Fin 40) :
    (u.orders.slots[j]).map (·.late) = (s.orders.slots[j]).map (·.late) := by
  rw [h.orders]
  cases held : s.orders.slots[i] with
  | none => rfl
  | some o => exact late_of_set_same (o' := ps.foldl Order.spoiled o) held (by rw [foldl_spoiled]) j

/-! ### The immediate end of an attempt (R61) -/

/-- The waste an attempt's end posts, at current prices (R61). -/
def State.wastePostings (s : State) (a : Attempt) : List Posting :=
  if a.phase = .wasteFeed ∨ a.phase = .wasteCut then
    [{ media := mediaCost (pulsesToMm a.wastePulses) s.costs.prices.media[s.slotKind a.slot] }]
  else []

/-- What an attempt that ends at once posts: its waste, then its own cost with no cut and no handling (R61). -/
def State.attemptPostings (s : State) (a : Attempt) (outcome : AttemptOutcome) : List Posting :=
  s.wastePostings a ++ [Attempt.posting { a with cutsMade := 0 } (s.slotKind a.slot) outcome]

theorem endPostings_attempt (holds : s.holder = .attempt a) (removed : Bool) (fails : outcome ≠ .accepted) :
    s.endPostings removed = s.attemptPostings a outcome := by
  unfold State.endPostings
  rw [holds]
  simp only [State.attemptPostings, State.wastePostings, Attempt.posting, fails, if_false, Nat.zero_mul]
  rfl

/-- The uncut marker of an attempt that ends at once, and the clear-out it becomes (R61). -/
def State.clearUncut (s : State) (clearOut : Bool) : State :=
  (if clearOut && s.uncut then s.setClearOut else s).writeUncut false

theorem setClearOut_media (s : State) : s.setClearOut.media = { s.media with
    roll := { s.media.roll with clearOutPending := s.media.roll.clearOutPending || s.media.roll.declared } } := by
  unfold State.setClearOut
  split
  · next declared =>
    refine ((keeps_markDirtyIf _ _).at .media).trans ?_
    simp [declared]
  · next undeclared => rw [Bool.eq_false_iff.2 undeclared, Bool.or_false]

theorem marks_setClearOut (s : State) : ∃ b, Marks b s s.setClearOut := by
  unfold State.setClearOut
  split
  · exact ⟨_, marks_setRoll s _⟩
  · exact ⟨false, .of_store_eq rfl⟩

theorem keeps_clearUncut (s : State) (clearOut : Bool) : Keeps [.media, .uncut, .store] s (s.clearUncut clearOut) :=
  (keeps_ite _ (keeps_setClearOut s).mono (Keeps.refl _ _)).then (keeps_writeUncut _ _)

theorem clearUncut_uncut (s : State) (clearOut : Bool) : (s.clearUncut clearOut).uncut = false :=
  (keeps_markDirtyIf _ _).at .uncut

theorem clearUncut_media (s : State) (clearOut : Bool) : (s.clearUncut clearOut).media = { s.media with
    roll := { s.media.roll with
      clearOutPending := s.media.roll.clearOutPending || ((clearOut && s.uncut) && s.media.roll.declared) } } := by
  refine ((keeps_writeUncut _ _).at .media).trans ?_
  split
  · next hangs => rw [setClearOut_media, hangs, Bool.true_and]
  · next cut => simp [cut]

theorem endAtOnce_eq (s : State) (a : Attempt) (fails : outcome ≠ .accepted) (clearOut : Bool) :
    s.endAtOnce a outcome clearOut = (((((s.wastePostings a).foldl (fun u p => u.spoil a.slot p) s).clearUncut
      clearOut).postAttempt { a with cutsMade := 0 } outcome false).applyOutcome a.slot outcome).setHolder .idle := by
  unfold State.endAtOnce State.endAttempt State.wastePostings State.clearUncut
  simp only [if_neg fails]
  split <;> rfl

theorem link_clearUncut (s : State) (clearOut : Bool) : LinkKept s (s.clearUncut clearOut) :=
  (link_ite _ (link_setClearOut s) (LinkKept.refl _)).trans (link_writeUncut _ _)

theorem marks_clearUncut (s : State) (clearOut : Bool) : ∃ b, Marks b s (s.clearUncut clearOut) := by
  unfold State.clearUncut
  split
  · obtain ⟨b, marks⟩ := marks_setClearOut s
    exact ⟨_, marks.trans (Marks.after (keeps_setUncut _ _) (marks_markDirtyIf _ _))⟩
  · exact ⟨_, Marks.after (keeps_setUncut _ _) (marks_markDirtyIf _ _)⟩

/-- The kind of the order in the slot is not the postings' to change. -/
theorem Spoiled.slotKind (h : Spoiled i ps s u) : u.slotKind i = s.slotKind i := by
  simp only [State.slotKind, h.slot]
  cases s.orders.slots[i] with
  | none => rfl
  | some o => simp [foldl_spoiled]

/-- An attempt's immediate end: its postings, its uncut marker, and then its outcome in the order table (R61). -/
theorem endAtOnce_spec (s : State) (a : Attempt) (fails : outcome ≠ .accepted) (clearOut : Bool) :
    ∃ w, s.endAtOnce a outcome clearOut = (w.applyOutcome a.slot outcome).setHolder .idle ∧
      Spoiled a.slot (s.attemptPostings a outcome) s w ∧ Marks true s w ∧
      Keeps [.orders, .costs, .media, .uncut, .store, .notices, .server] s w ∧
      w.media = (s.clearUncut clearOut).media ∧ w.uncut = false := by
  have waste : Spoiled a.slot (s.wastePostings a) s ((s.wastePostings a).foldl (fun u p => u.spoil a.slot p) s) ∧
      Keeps [.orders, .costs, .store, .notices, .server] s ((s.wastePostings a).foldl (fun u p => u.spoil a.slot p) s) := by
    unfold State.wastePostings
    split
    · exact ⟨(Spoiled.refl _ s).spoil _, keeps_spoil s _ _⟩
    · exact ⟨Spoiled.refl _ s, Keeps.refl _ s⟩
  have posts := endAtOnce_eq s a fails clearOut
  generalize (s.wastePostings a).foldl (fun u p => u.spoil a.slot p) s = w₁ at waste posts
  obtain ⟨spoiled, kept⟩ := waste
  have cut : Spoiled a.slot (s.wastePostings a) s (w₁.clearUncut clearOut) :=
    spoiled.then (keeps_clearUncut _ _) (link_clearUncut _ _) (marks_clearUncut _ _)
  have media : (w₁.clearUncut clearOut).media = (s.clearUncut clearOut).media := by
    rw [clearUncut_media, clearUncut_media, show w₁.media = s.media from kept.at .media,
      show w₁.uncut = s.uncut from kept.at .uncut]
  have uncut := clearUncut_uncut w₁ clearOut
  have keeps : Keeps [.orders, .costs, .media, .uncut, .store, .notices, .server] s (w₁.clearUncut clearOut) :=
    kept.mono.then (keeps_clearUncut _ _)
  generalize w₁.clearUncut clearOut = w₂ at *
  rw [postAttempt_spoils, cut.slotKind] at posts
  obtain ⟨b, marks⟩ := cut.marks
  exact ⟨_, posts, cut.spoil _, (marks.trans (marks_spoil _ _ _)).congr (Bool.or_true b), keeps.then (keeps_spoil _ _ _),
    ((keeps_spoil _ _ _).at .media).trans media, ((keeps_spoil _ _ _).at .uncut).trans uncut⟩

/-! ### Whatever holds the slot -/

/-- What an immediate end of the holder leaves (R61, R79, R80), before the step is closed: `HolderEnded` with the store's
flag in place of what the end of the step makes of it. -/
structure EndedAtOnce (s u : State) : Prop where
  keeps : Keeps ([.holder, .engine, .orders, .costs, .media, .ink, .uncut] ++ linkBlocks) s u
  costs : u.costs = s.costsEnded false
  orders : u.orders = s.ordersEnded .failedEngine
  media : u.media = s.mediaEnded
  ink : u.ink = s.inkEnded
  uncut : u.uncut = (match s.holder with | .attempt _ => false | _ => s.uncut)
  marks : Marks (decide (s.endPostings false ≠ [])) s u
  ordered : u.orders ≠ s.orders → u.notices.pending &&& 1#8 = 1#8
  late : LateNoted s u
  cost : CostNoted s u

/-- A failure's effect on an order whose attempts it may use up (R19). -/
theorem finalState_fails (o : Order) (fails : outcome.ownAccount = false) : o.finalState outcome =
    if o.cancelRequested then some .cancelled else if o.attemptsUsed < o.attemptsAllowed then none else some .failed := by
  cases outcome <;> cases fails <;> rfl

theorem ordersEnded_attempt (holds : s.holder = .attempt a) (held : s.orders.slots[a.slot] = some o)
    (fails : outcome.ownAccount = false) (rejects : outcome ≠ .accepted) :
    s.ordersEnded outcome = s.outcomeOrders a.slot ((s.attemptPostings a outcome).foldl Order.spoiled o) outcome := by
  unfold State.ordersEnded State.outcomeOrders
  rw [holds]
  simp only [held, endPostings_attempt holds false rejects, finalState_fails _ fails, foldl_spoiled]
  by_cases cancelled : o.cancelRequested = true
  · cases o.deadline <;>
      simp [Order.taking, cancelled, Order.ended, Order.pastDeadline, BitVec.le_def]
  · by_cases left : o.attemptsUsed < o.attemptsAllowed
    · simp [Order.taking, cancelled, left, State.evaluated]
    · cases o.deadline <;>
        simp [Order.taking, cancelled, left, Order.ended, Order.pastDeadline, BitVec.le_def]

theorem ordersEnded_absent (holds : s.holder = .attempt a) (held : s.orders.slots[a.slot] = none) :
    s.ordersEnded outcome = s.orders := by
  unfold State.ordersEnded
  rw [holds]
  simp only [held]

/-- The order table after the postings and the outcome is the table of the outcome on the order with the postings. -/
theorem Spoiled.outcomeOrders (h : Spoiled i ps s u) (held : s.orders.slots[i] = some o)
    (reasons : ∀ x, u.holdReasons x = s.holdReasons x) :
    u.outcomeOrders i (ps.foldl Order.spoiled o) outcome = s.outcomeOrders i (ps.foldl Order.spoiled o) outcome := by
  have evaluated (x : Order) : u.evaluated x = s.evaluated x := by simp only [State.evaluated, reasons]
  unfold State.outcomeOrders
  rw [h.orders, held]
  cases Order.finalState _ outcome <;> simp [evaluated]

/-- The order's part of an attempt's end: its table, ORDER, LATE and COST (R19, R22, R61). -/
theorem endedOrder_of_spoiled (holds : s.holder = .attempt a) (fails : outcome.ownAccount = false)
    (spoiled : Spoiled a.slot (s.attemptPostings a outcome) s u) (reasons : ∀ x, u.holdReasons x = s.holdReasons x) :
    let v := u.applyOutcome a.slot outcome
    v.orders = s.ordersEnded outcome ∧ (v.orders ≠ s.orders → v.notices.pending &&& 1#8 = 1#8) ∧ LateNoted s v ∧
      CostNoted s v := by
  intro v
  have rejects : outcome ≠ .accepted := by rintro rfl; cases fails
  have late : LateNoted s v := (lateNoted_applyOutcome _ _ _).after spoiled.late
  have cost : CostNoted s v := spoiled.noted.trans (.of_costs ((keeps_applyOutcome _ _ _).at .costs)) (link_applyOutcome _ _ _)
  have slot := spoiled.slot
  cases held : s.orders.slots[a.slot] with
  | none =>
    rw [held] at slot
    have same : v.orders = s.orders := by
      rw [show v = u from applyOutcome_none slot _, spoiled.orders, held]
      rfl
    exact ⟨same.trans (ordersEnded_absent holds held).symm, fun moved => absurd same moved, late, cost⟩
  | some o =>
    rw [held] at slot
    refine ⟨?_, fun _ => applyOutcome_order slot _, late, cost⟩
    rw [ordersEnded_attempt holds held fails rejects, ← spoiled.outcomeOrders held reasons]
    exact applyOutcome_orders slot _

theorem ended_attempt (holds : s.holder = .attempt a) : EndedAtOnce s (s.endAtOnce a .failedEngine true) := by
  obtain ⟨w, ends, spoiled, marks, keeps, media, uncut⟩ := endAtOnce_spec (outcome := .failedEngine) s a (by simp) true
  rw [ends]
  have applies := keeps_applyOutcome w a.slot .failedEngine
  have whole : Keeps [.holder, .orders, .costs, .media, .uncut, .store, .notices, .server] s
      ((w.applyOutcome a.slot .failedEngine).setHolder .idle) := (keeps.mono.then applies).then (keeps_setHolder _ _)
  rw [clearUncut_media] at media
  have reasons := holdReasons_congr (s := s) (t := w) (by rw [media]) (by rw [media]) (keeps.at .ink) (keeps.at .colour)
    (keeps.at .editions)
  obtain ⟨orders, ordered, late, cost⟩ := endedOrder_of_spoiled holds rfl spoiled reasons
  exact {
    keeps := whole.mono
    costs := (applies.at .costs).trans (spoiled.costs.trans (by
      rw [State.costsEnded, endPostings_attempt (outcome := .failedEngine) holds false (by simp)]
      rfl))
    orders := orders
    media := (applies.at .media).trans (media.trans (by simp [State.mediaEnded, holds]))
    ink := (whole.at .ink).trans (by rw [State.inkEnded, holds])
    uncut := (applies.at .uncut).trans (uncut.trans (by rw [holds]))
    marks := Marks.congr ((marks.then applies).then (keeps_setHolder _ .idle)) (by
      rw [endPostings_attempt (outcome := .failedEngine) holds false (by simp), State.attemptPostings]
      simp)
    ordered := ordered
    late := late
    cost := cost }

/-! ### Tasks, cleaning and probing (R79, R80, R84) -/

/-- What a holder that has no order leaves of the order table, and what ends without postings leaves of the accounts. -/
theorem EndedAtOnce.of_still (keeps : Keeps ([.holder, .engine, .costs, .media, .ink] ++ linkBlocks) s u)
    (costs : u.costs = s.costsEnded false) (orders : s.ordersEnded .failedEngine = s.orders) (media : u.media = s.mediaEnded)
    (ink : u.ink = s.inkEnded) (printing : ∀ a, s.holder ≠ .attempt a)
    (marks : Marks (decide (s.endPostings false ≠ [])) s u) (cost : CostNoted s u) : EndedAtOnce s u where
  keeps := keeps.mono
  costs := costs
  orders := (keeps.at .orders).trans orders.symm
  media := media
  ink := ink
  uncut := (keeps.at .uncut).trans (by
    cases holds : s.holder with
    | attempt a => exact absurd holds (printing a)
    | _ => rfl)
  marks := marks
  ordered := fun moved => absurd (keeps.at .orders) moved
  late := .of_orders (keeps.at .orders)
  cost := cost

theorem mediaEnded_still (s : State) : { s.media with roll := { s.media.roll with
    clearOutPending := s.media.roll.clearOutPending || (false && s.media.roll.declared) } } = s.media := by
  rw [Bool.false_and, Bool.or_false]

end Sys2Proof.Machine

/-! The rest of the immediate ends, ENGINE_RESTART, AUTO_RECOVERY_SET and the errors of the engine link (O26, O36, O37). -/

namespace Sys2Proof.Machine

/-! ### The immediate end of a task (R80) -/

/-- What a task that has fed posts, at current prices. -/
def State.fedPostings (s : State) (k : Task) : List Posting :=
  match k.pulses with
  | none => []
  | some q => [{ media := mediaCost (pulsesToMm q) s.costs.prices.media[s.media.roll.mediaKind] }]

/-- The measured feed of a task, posted to account 0. -/
def State.postFed (s : State) (k : Task) : State := if k.pulses.isSome then s.postTask k.pulses false else s

section
variable {s : State} {k : Task}

theorem postFed_unfed (h : k.pulses = none) : s.postFed k = s := by
  simp [State.postFed, h]

theorem postFed_fed {q : Nat} (h : k.pulses = some q) : s.postFed k =
    s.post 0 { media := mediaCost (pulsesToMm q) s.costs.prices.media[s.media.roll.mediaKind] } := by
  simp [State.postFed, h, State.postTask]

theorem keeps_postFed (s : State) (k : Task) : Keeps [.costs, .store, .notices, .server] s (s.postFed k) :=
  keeps_ite _ (keeps_postTask _ _ _).mono (Keeps.refl _ _)

theorem link_postFed (s : State) (k : Task) : LinkKept s (s.postFed k) :=
  link_ite _ (link_postTask _ _ _) (LinkKept.refl _)

theorem postFed_costs (s : State) (k : Task) : (s.postFed k).costs = (s.fedPostings k).foldl CostUnit.posted s.costs := by
  unfold State.fedPostings
  cases fed : k.pulses with
  | none => rw [postFed_unfed fed]; rfl
  | some q => rw [postFed_fed fed, post_costs]; rfl

theorem marks_postFed (s : State) (k : Task) : Marks (decide (s.fedPostings k ≠ [])) s (s.postFed k) := by
  unfold State.fedPostings
  cases fed : k.pulses with
  | none => rw [postFed_unfed fed]; exact .of_store_eq rfl
  | some q =>
    rw [postFed_fed fed]
    exact (post_store _ _ _).trans (by simp)

theorem costNoted_postFed (s : State) (k : Task) : CostNoted s (s.postFed k) := by
  cases fed : k.pulses with
  | none => rw [postFed_unfed fed]; exact .of_costs rfl
  | some q => rw [postFed_fed fed]; exact costNoted_post _ _ _

theorem marks_setClearOut_of_fed {b : Bool} {u : State} (h : Marks true s u) : Marks true s (if b then u.setClearOut else u) := by
  split
  · obtain ⟨c, after⟩ := marks_setClearOut u
    exact (h.trans after).congr (Bool.true_or c)
  · exact h

theorem fedPostings_trim (holds : s.holder = .trim k) (removed : Bool) : s.endPostings removed = s.fedPostings k := by
  unfold State.endPostings
  rw [holds]
  rfl

theorem fedPostings_clearOut (holds : s.holder = .clearOut k) : s.endPostings false = s.fedPostings k := by
  unfold State.endPostings
  rw [holds]
  rfl

theorem ended_clearOut (holds : s.holder = .clearOut k) : EndedAtOnce s (s.endTask k false) := by
  have ends : s.endTask k false = (s.postFed k).setHolder .idle := by
    unfold State.endTask State.postFed
    simp
  rw [ends]
  refine .of_still ((keeps_postFed s k).mono.then (keeps_setHolder _ _)) ?_ ?_ ?_ ?_ (by simp [holds]) ?_ ?_
  · refine (postFed_costs s k).trans ?_
    rw [State.costsEnded, fedPostings_clearOut holds]
    rfl
  · rw [State.ordersEnded, holds]
  · refine ((keeps_postFed s k).at .media).trans ?_
    simp [State.mediaEnded, holds]
  · refine ((keeps_postFed s k).at .ink).trans ?_
    rw [State.inkEnded, holds]
  · rw [fedPostings_clearOut holds]
    exact (marks_postFed s k).then (keeps_setHolder _ _)
  · exact costNoted_postFed s k

theorem ended_trim (holds : s.holder = .trim k) : EndedAtOnce s (s.endTask k true) := by
  generalize hu : s.postFed k = u
  have fed : Keeps [.costs, .store, .notices, .server] s u := hu ▸ keeps_postFed s k
  have costs : u.costs = (s.fedPostings k).foldl CostUnit.posted s.costs := hu ▸ postFed_costs s k
  have ends : s.endTask k true = (if decide (0 < k.pulses.getD 0) then u.setClearOut else u).setHolder .idle := by
    rw [← hu]
    unfold State.endTask State.postFed
    rw [Bool.true_and]
  rw [ends]
  have hangs : Keeps [.media, .store] u (if decide (0 < k.pulses.getD 0) then u.setClearOut else u) :=
    keeps_ite _ (keeps_setClearOut _) (Keeps.refl _ _)
  refine .of_still ((fed.mono.then hangs).then (keeps_setHolder _ _)) ?_ ?_ ?_ ?_ (by simp [holds]) ?_ ?_
  · refine (hangs.at .costs).trans (costs.trans ?_)
    rw [State.costsEnded, fedPostings_trim holds]
    rfl
  · rw [State.ordersEnded, holds]
  · have media : u.media = s.media := fed.at .media
    simp only [State.mediaEnded, holds]
    show (if decide (0 < k.pulses.getD 0) = true then u.setClearOut else u).media = _
    split
    · next positive => rw [setClearOut_media, media, positive, Bool.true_and]
    · next none =>
      rw [media, Bool.eq_false_iff.2 none]
      exact (mediaEnded_still s).symm
  · refine (hangs.at .ink).trans ((fed.at .ink).trans ?_)
    rw [State.inkEnded, holds]
  · rw [fedPostings_trim holds]
    refine Marks.then (l := [.holder]) ?_ (keeps_setHolder _ _)
    have marks : Marks (decide (s.fedPostings k ≠ [])) s u := hu ▸ marks_postFed s k
    cases measured : k.pulses with
    | none => simpa [measured] using marks
    | some q =>
      have posts : decide (s.fedPostings k ≠ []) = true := by simp [State.fedPostings, measured]
      rw [posts] at marks ⊢
      exact marks_setClearOut_of_fed marks
  · have noted : CostNoted s u := hu ▸ costNoted_postFed s k
    refine noted.trans (.of_costs (hangs.at .costs)) ?_
    exact (link_ite _ (link_setClearOut u) (LinkKept.refl _)).trans (link_setHolder _ _)

theorem ended_cleaning {levels : Vector Nat 12} (holds : s.holder = .cleaning levels) :
    EndedAtOnce s (s.returnLevels levels) := by
  have posts : s.endPostings false = [] := by rw [State.endPostings, holds]
  refine .of_still (keeps_returnLevels s levels).mono ?_ ?_ ?_ ?_ (by simp [holds]) ?_ (.of_costs rfl)
  · rw [State.costsEnded, posts]
    rfl
  · rw [State.ordersEnded, holds]
  · simp only [State.mediaEnded, holds]
    exact (mediaEnded_still s).symm
  · rw [State.inkEnded, holds]
    rfl
  · rw [posts]
    exact Marks.of_keeps (keeps_returnLevels s levels)

/-- With nothing held, or probing, nothing is posted and nothing moves. -/
theorem ended_nothing (holds : s.holder = .idle ∨ ∃ due, s.holder = .probing due) : EndedAtOnce s (s.setHolder .idle) := by
  have posts : s.endPostings false = [] := by
    obtain holds | ⟨due, holds⟩ := holds <;> rw [State.endPostings, holds]
  refine .of_still (keeps_setHolder s .idle).mono ?_ ?_ ?_ ?_ ?_ ?_ (.of_costs rfl)
  · rw [State.costsEnded, posts]
    rfl
  · obtain holds | ⟨due, holds⟩ := holds <;> rw [State.ordersEnded, holds]
  · obtain holds | ⟨due, holds⟩ := holds <;> simp only [State.mediaEnded, holds] <;> exact (mediaEnded_still s).symm
  · obtain holds | ⟨due, holds⟩ := holds <;> rw [State.inkEnded, holds] <;> rfl
  · obtain holds | ⟨due, holds⟩ := holds <;> simp [holds]
  · rw [posts]
    exact .of_store_eq rfl

/-- Whatever holds the slot, its immediate end leaves what R61, R79 and R80 say, and nobody holding it. -/
theorem ended_endHolder (s : State) : EndedAtOnce s s.endHolder ∧ s.endHolder.holder = .idle := by
  unfold State.endHolder
  cases holds : s.holder with
  | idle =>
    have same : s.setHolder .idle = s := by
      rw [← holds]
      rfl
    have ended := ended_nothing (.inl holds)
    rw [same] at ended
    exact ⟨ended, holds⟩
  | attempt a =>
    refine ⟨ended_attempt holds, ?_⟩
    obtain ⟨w, ends, -⟩ := endAtOnce_spec (outcome := .failedEngine) s a (by simp) true
    exact congrArg State.holder ends
  | clearOut k => exact ⟨ended_clearOut holds, rfl⟩
  | trim k => exact ⟨ended_trim holds, rfl⟩
  | cleaning levels => exact ⟨ended_cleaning holds, rfl⟩
  | probing due => exact ⟨ended_nothing (.inr ⟨due, holds⟩), rfl⟩

end

/-! ### Before and after an immediate end -/

section
variable {s u v : State}

/-- The engine link and the notices are no part of what ends. -/
theorem EndedAtOnce.before (k : Keeps [.engine, .notices, .server] s v) (h : EndedAtOnce v u) : EndedAtOnce s u := by
  obtain ⟨engine, notices, server, rfl⟩ : ∃ engine notices server,
      v = { s with engine := engine, notices := notices, server := server } := by
    refine ⟨v.engine, v.notices, v.server, ?_⟩
    cases v
    cases s
    simp only [State.mk.injEq]
    exact ⟨k.at .pending, k.at .held, k.at .quiet, k.at .orders, k.at .holder, k.at .uncut, trivial, k.at .media, k.at .ink,
      k.at .colour, k.at .editions, k.at .costs, trivial, trivial, k.at .store, k.at .freeReads⟩
  exact {
    keeps := k.mono.trans h.keeps
    costs := h.costs
    orders := h.orders
    media := h.media
    ink := h.ink
    uncut := h.uncut
    marks := h.marks
    ordered := h.ordered
    late := h.late
    cost := h.cost }

theorem EndedAtOnce.then (h : EndedAtOnce s u) (k : Keeps [.engine, .holder, .notices, .server] u v) (link : LinkKept u v) :
    EndedAtOnce s v where
  keeps := h.keeps.then k
  costs := (k.at .costs).trans h.costs
  orders := (k.at .orders).trans h.orders
  media := (k.at .media).trans h.media
  ink := (k.at .ink).trans h.ink
  uncut := (k.at .uncut).trans h.uncut
  marks := h.marks.then k
  ordered := fun moved => link.stays (h.ordered fun same => moved ((k.at .orders).trans same))
  late := h.late.then (k.at .orders) link
  cost := h.cost.trans (.of_costs (k.at .costs)) link

/-- The step's end. -/
theorem EndedAtOnce.holderEnded {t : State} (h : EndedAtOnce s u) (k : Keeps linkBlocks u t)
    (pending : t.notices.pending = u.notices.pending) (marked : MarkedIf (s.endPostings false ≠ []) s t) :
    HolderEnded s t := by
  refine ⟨h.keeps.then k, (k.at .costs).trans h.costs, (k.at .orders).trans h.orders, (k.at .media).trans h.media,
    (k.at .ink).trans h.ink, (k.at .uncut).trans h.uncut, marked, fun moved => ?_, fun late => ?_, fun saturated => ?_⟩
  · rw [pending]
    exact h.ordered fun same => moved ((k.at .orders).trans same)
  · rw [pending]
    rw [show t.orders = u.orders from k.at .orders] at late
    exact h.late late
  · rw [pending]
    rw [show t.costs = u.costs from k.at .costs] at saturated
    exact h.cost saturated

end

/-! ### ENGINE_RESTART (R86) -/

theorem abandon_engine (s : State) : s.abandon.engine = { s.engine with
    outstanding := none,
    expiredTag := (match s.engine.outstanding with | some o => some o.tag | none => s.engine.expiredTag) } := by
  unfold State.abandon
  cases out : s.engine.outstanding with
  | none => simp [← out]
  | some o => rfl

/-- The abandoned command's holder has ended, and the probe run is 0: the common part of R83 and R86. -/
def State.abandonAll (s : State) : State :=
  s.abandon.endHolder.setEngine { s.abandon.endHolder.engine with probeRun := 0 }

theorem link_abandonAll (s : State) : LinkKept s s.abandonAll :=
  ((link_abandon s).trans (link_endHolder _)).trans (link_setEngine _ _)

theorem ended_abandonAll (s : State) : EndedAtOnce s s.abandonAll := by
  obtain ⟨ended, -⟩ := ended_endHolder s.abandon
  exact (ended.before (keeps_abandon s).mono).then (keeps_setEngine _ _).mono (link_setEngine _ _)

theorem abandonAll_holder (s : State) : s.abandonAll.holder = .idle := (ended_endHolder s.abandon).2

theorem abandonAll_engine (s : State) : s.abandonAll.engine = { s.engine with
    probeRun := 0, outstanding := none,
    expiredTag := (match s.engine.outstanding with | some o => some o.tag | none => s.engine.expiredTag) } := by
  have kept : s.abandon.endHolder.engine = s.abandon.engine := (keeps_endHolder s.abandon).at .engine
  show { s.abandon.endHolder.engine with probeRun := 0 } = _
  rw [kept, abandon_engine]

/-- STARTING, in which the slot gives an ENGINE_RESET (R78, R86). -/
theorem restart_eq (s : State) : s.restart =
    if s.engine.state = .starting then s.abandonAll else s.abandonAll.setEngineState .starting := by
  have kept : s.abandonAll.engine.state = s.engine.state :=
    (congrArg EngineLink.state (abandonAll_engine s) :)
  rw [← kept]
  rfl

theorem ended_restart (s : State) : EndedAtOnce s s.restart := by
  rw [restart_eq]
  split
  · exact ended_abandonAll s
  · exact (ended_abandonAll s).then (keeps_setEngineState _ _).mono (link_setEngineState _ _)

theorem restart_holder (s : State) : s.restart.holder = .idle := by
  rw [restart_eq]
  split
  · exact abandonAll_holder s
  · exact ((keeps_setEngineState _ _).at .holder).trans (abandonAll_holder s)

theorem restart_engine (s : State) : s.restart.engine = { s.engine with
    state := .starting, probeRun := 0, outstanding := none,
    expiredTag := (match s.engine.outstanding with | some o => some o.tag | none => s.engine.expiredTag) } := by
  rw [restart_eq]
  split
  · next starting => rw [abandonAll_engine, ← starting]
  · refine ((keeps_raise _ _).at .engine).trans ?_
    show { s.abandonAll.engine with state := .starting } = _
    rw [abandonAll_engine]

theorem restart_pending (s : State) (moved : s.engine.state ≠ .starting) :
    s.restart.notices.pending &&& 64#8 = 64#8 := by
  rw [restart_eq, if_neg moved]
  show (State.raise _ .engine).notices.pending &&& 64#8 = 64#8
  rw [raise_pending]
  exact raised_bit _ _

theorem restart_serves (s : State) (quiet : s.quiet = none) :
    s.restart.serveSlot = s.restart.issue .engineReset .startUp := by
  have kept : s.restart.quiet = none := ((ended_restart s).keeps.at .quiet).trans quiet
  rw [serveSlot_idle kept (congrArg EngineLink.outstanding (restart_engine s)) (restart_holder s),
    offer_starting (congrArg EngineLink.state (restart_engine s))]

theorem engineRestart_answers (tag : Byte) (s : State) (h : Takes s) :
    ∃ t, exec (.engineRestart tag []) s = .next t ∧ Replied s t 0x30 tag .ok [] ∧ t.holder = .idle ∧
      t.engine = { s.engine with
        state := .starting, probeRun := 0, nextTag := s.engine.nextTag + 1,
        expiredTag := (match s.engine.outstanding with | some o => some o.tag | none => s.engine.expiredTag),
        outstanding := some { command := .engineReset, tag := s.engine.nextTag, party := .startUp,
                              frame := frameBytes 0xA6 s.engine.nextTag [] } } ∧
      (s.engine.state ≠ .starting → t.notices.pending &&& 64 = 64) ∧ HolderEnded s t := by
  generalize hu : s.countTaken.restart.issue .engineReset .startUp = u
  have rule : takeEngineRestart [] s.countTaken = u.accept [] := by
    rw [← hu, ← restart_serves s.countTaken h.2.1]
    rfl
  have issued : Keeps [.engine, .holder, .notices, .server] s.countTaken.restart u := hu ▸ (keeps_issue _ _ _).mono
  have link : LinkKept s.countTaken.restart u := hu ▸ link_issue _ _ _
  have ended : EndedAtOnce s.countTaken u := (ended_restart s.countTaken).then issued link
  obtain ⟨t, ht, replied, marked, -, left, pending⟩ := runRequest_raises s h 0x30 tag [] takeEngineRestart .ok [] u
    [.holder, .engine, .orders, .costs, .media, .ink, .uncut] _ rule ended.keeps ((link_restart _).trans link) ended.marks
  have engine : u.engine = (s.countTaken.restart.issue .engineReset .startUp).engine := congrArg State.engine hu.symm
  refine ⟨t, ht, replied, (left.at .holder).trans ((congrArg State.holder hu.symm).trans (restart_holder _)), ?_, fun moved => ?_, ?_⟩
  · refine (left.at .engine).trans (engine.trans ?_)
    simp only [State.issue, State.setEngine_engine, restart_engine]
    rfl
  · rw [pending]
    exact link.stays (restart_pending s.countTaken moved)
  · exact (ended.before (keeps_countTaken s).mono).holderEnded left pending (marked.congr decide_eq_true_iff)

/-! ### AUTO_RECOVERY_SET (R84, R85) -/

/-- The setting written (R85). -/
def State.writeRecovery (s : State) (on : Bool) : State :=
  (s.setEngine { s.engine with autoRecovery := on }).markDirtyIf (on != s.engine.autoRecovery)

theorem keeps_writeRecovery (s : State) (on : Bool) : Keeps [.engine, .store] s (s.writeRecovery on) :=
  (keeps_setEngine _ _).mono.then (keeps_markDirtyIf _ _)

theorem marks_writeRecovery (s : State) (on : Bool) :
    Marks (on != s.engine.autoRecovery) s (s.writeRecovery on) :=
  Marks.after (keeps_setEngine _ _) (marks_markDirtyIf _ _)

theorem writeRecovery_engine (s : State) (on : Bool) :
    (s.writeRecovery on).engine = { s.engine with autoRecovery := on } := (keeps_markDirtyIf _ _).at .engine

theorem startProbing_begins {s : State} (off : s.engine.state = .off) (idle : s.holder = .idle) : s.startProbing =
    ((s.setEngine { s.engine with probeRun := 0 }).setHolder (.probing true)).serveSlot := if_pos ⟨off, idle⟩

theorem startProbing_otherwise {s : State} (h : s.engine.state ≠ .off ∨ s.holder ≠ .idle) : s.startProbing = s := by
  refine if_neg ?_
  tauto

theorem takeAutoRecoverySet_on {s : State} {p : List Byte} (hl : p.length = 1) (h : byteAt p 0 = 1) :
    takeAutoRecoverySet p s = (s.writeRecovery true).startProbing.accept [] := by
  simp [takeAutoRecoverySet, wrongLength_eq_false hl, flagOk, flagAt, h, State.setAutoRecovery, State.writeRecovery]

theorem takeAutoRecoverySet_off {s : State} {p : List Byte} (hl : p.length = 1) (h : byteAt p 0 = 0) :
    takeAutoRecoverySet p s = (s.writeRecovery false).stopProbing.accept [] := by
  simp [takeAutoRecoverySet, wrongLength_eq_false hl, flagOk, flagAt, h, State.setAutoRecovery, State.writeRecovery]

/-- AUTO_RECOVERY_SET from what its rule leaves of engine link and holder. -/
theorem autoRecoverySet_writes (tag : Byte) (p : List Byte) (s u : State) (h : Takes s) (on : Bool)
    (rule : takeAutoRecoverySet p s.countTaken = u.accept []) (keeps : Keeps [.engine, .holder] (s.countTaken.writeRecovery on) u) :
    ∃ t, exec (.autoRecoverySet tag p) s = .next t ∧ Replied s t 0x31 tag .ok [] ∧ NoticesKept s t ∧
      MarkedIf ((on != s.engine.autoRecovery) = true) s t ∧ Keeps ([.engine, .holder] ++ linkBlocks) s t ∧
      t.holder = u.holder ∧ t.engine = u.engine := by
  obtain ⟨t, ht, replied, notices, marked, all, left⟩ := runRequest_writes s h 0x31 tag p takeAutoRecoverySet .ok [] u
    [.engine, .holder] _ rule ((keeps_writeRecovery _ on).mono.then keeps) ((marks_writeRecovery s.countTaken on).then keeps)
  exact ⟨t, ht, replied, notices, marked, all, left.at .holder, left.at .engine⟩

theorem serveSlot_probes {s : State} (quiet : s.quiet = none) (free : s.engine.outstanding = none) :
    (s.setHolder (.probing true)).serveSlot =
      ((s.setHolder (.probing true)).issue .probe .probing).setHolder (.probing false) :=
  serveSlot_probing_due (s := s.setHolder (.probing true)) quiet free rfl

theorem recoveryOn_answers (tag : Byte) (p : List Byte) (s : State) (h : Takes s) (hl : p.length = 1)
    (on : byteAt p 0 = 1) :
    ∃ t, exec (.autoRecoverySet tag p) s = .next t ∧ Replied s t 0x31 tag .ok [] ∧ NoticesKept s t ∧
      MarkedIf (s.engine.autoRecovery = false) s t ∧ Keeps ([.engine, .holder] ++ linkBlocks) s t ∧
      (s.engine.state = .off ∧ s.holder = .idle ∧ s.engine.outstanding = none →
        t.holder = .probing false ∧ t.engine = { s.engine with
          autoRecovery := true, probeRun := 0, nextTag := s.engine.nextTag + 1,
          outstanding := some { command := .probe, tag := s.engine.nextTag, party := .probing,
                                frame := frameBytes 0xA5 s.engine.nextTag [] } }) ∧
      (s.engine.state = .off ∧ s.holder = .idle ∧ s.engine.outstanding ≠ none →
        t.holder = .probing true ∧ t.engine = { s.engine with autoRecovery := true, probeRun := 0 }) ∧
      (s.engine.state ≠ .off ∨ s.holder ≠ .idle →
        t.holder = s.holder ∧ t.engine = { s.engine with autoRecovery := true }) := by
  have rule := takeAutoRecoverySet_on (s := s.countTaken) hl on
  generalize hv : s.countTaken.writeRecovery true = v at rule
  have written : Keeps [.engine, .store] s.countTaken v := hv ▸ keeps_writeRecovery _ _
  have engine : v.engine = { s.engine with autoRecovery := true } := hv ▸ writeRecovery_engine s.countTaken true
  have holder : v.holder = s.holder := written.at .holder
  have quiet : v.quiet = none := (written.at .quiet).trans h.2.1
  have differs : (true != s.engine.autoRecovery) = true ↔ s.engine.autoRecovery = false := by simp
  by_cases begins : s.engine.state = .off ∧ s.holder = .idle
  · obtain ⟨off, idle⟩ := begins
    rw [startProbing_begins ((congrArg EngineLink.state engine :).trans off) (holder.trans idle)] at rule
    by_cases free : s.engine.outstanding = none
    · rw [serveSlot_probes (s := v.setEngine { v.engine with probeRun := 0 }) quiet
        ((congrArg EngineLink.outstanding engine :).trans free)] at rule
      obtain ⟨t, ht, replied, notices, marked, keeps, holderT, engineT⟩ := autoRecoverySet_writes tag p s _ h true rule
        (hv ▸ ((((keeps_setEngine _ _).mono.then (keeps_setHolder _ _)).then (keeps_issue _ _ _)).then (keeps_setHolder _ _)))
      refine ⟨t, ht, replied, notices, marked.congr differs, keeps, fun _ => ⟨holderT, ?_⟩,
        fun busy => absurd free busy.2.2, fun other => absurd idle (other.resolve_left (not_not.2 off))⟩
      rw [engineT]
      simp only [State.setHolder_engine, State.issue, State.setEngine_engine, engine]
      rfl
    · rw [serveSlot_outstanding _ (by simp [engine, free])] at rule
      obtain ⟨t, ht, replied, notices, marked, keeps, holderT, engineT⟩ := autoRecoverySet_writes tag p s _ h true rule
        (hv ▸ ((keeps_setEngine _ _).mono.then (keeps_setHolder _ _)))
      refine ⟨t, ht, replied, notices, marked.congr differs, keeps, fun alone => absurd alone.2.2 free,
        fun _ => ⟨holderT, ?_⟩, fun other => absurd idle (other.resolve_left (not_not.2 off))⟩
      rw [engineT]
      simp only [State.setHolder_engine, State.setEngine_engine, engine]
  · rw [startProbing_otherwise (by rw [engine, holder]; tauto)] at rule
    obtain ⟨t, ht, replied, notices, marked, keeps, holderT, engineT⟩ := autoRecoverySet_writes tag p s _ h true rule
      (hv ▸ Keeps.refl _ _)
    exact ⟨t, ht, replied, notices, marked.congr differs, keeps, fun off => absurd ⟨off.1, off.2.1⟩ begins,
      fun off => absurd ⟨off.1, off.2.1⟩ begins, fun _ => ⟨holderT.trans holder, engineT.trans engine⟩⟩

theorem stopProbing_probing {s : State} {due : Bool} (h : s.holder = .probing due) : s.stopProbing =
    (s.setEngine { s.engine with
      probeRun := 0, outstanding := s.engine.outstanding.map fun o => { o with party := .ended } }).setHolder .idle := by
  unfold State.stopProbing
  rw [h]

theorem stopProbing_otherwise {s : State} (h : ∀ due, s.holder ≠ .probing due) : s.stopProbing = s := by
  unfold State.stopProbing
  cases holds : s.holder with
  | probing due => exact absurd holds (h due)
  | _ => rfl

theorem recoveryOff_answers (tag : Byte) (p : List Byte) (s : State) (h : Takes s) (hl : p.length = 1)
    (off : byteAt p 0 = 0) :
    ∃ t, exec (.autoRecoverySet tag p) s = .next t ∧ Replied s t 0x31 tag .ok [] ∧ NoticesKept s t ∧
      MarkedIf (s.engine.autoRecovery = true) s t ∧ Keeps ([.engine, .holder] ++ linkBlocks) s t ∧
      (∀ due, s.holder = .probing due → t.holder = .idle ∧ t.engine = { s.engine with
        autoRecovery := false, probeRun := 0,
        outstanding := s.engine.outstanding.map fun o => { o with party := .ended } }) ∧
      ((∀ due, s.holder ≠ .probing due) → t.holder = s.holder ∧ t.engine = { s.engine with autoRecovery := false }) := by
  have rule := takeAutoRecoverySet_off (s := s.countTaken) hl off
  generalize hv : s.countTaken.writeRecovery false = v at rule
  have written : Keeps [.engine, .store] s.countTaken v := hv ▸ keeps_writeRecovery _ _
  have engine : v.engine = { s.engine with autoRecovery := false } := hv ▸ writeRecovery_engine s.countTaken false
  have holder : v.holder = s.holder := written.at .holder
  have differs : (false != s.engine.autoRecovery) = true ↔ s.engine.autoRecovery = true := by simp
  by_cases probes : ∃ due, s.holder = .probing due
  · obtain ⟨due, holds⟩ := probes
    rw [stopProbing_probing (holder.trans holds)] at rule
    obtain ⟨t, ht, replied, notices, marked, keeps, holderT, engineT⟩ := autoRecoverySet_writes tag p s _ h false rule
      (hv ▸ (keeps_setEngine _ _).mono.then (keeps_setHolder _ _))
    refine ⟨t, ht, replied, notices, marked.congr differs, keeps, fun _ _ => ⟨holderT, ?_⟩,
      fun other => absurd holds (other due)⟩
    rw [engineT]
    simp only [State.setHolder_engine, State.setEngine_engine, engine]
  · have other : ∀ due, s.holder ≠ .probing due := fun due holds => probes ⟨due, holds⟩
    rw [stopProbing_otherwise (by rw [holder]; exact other)] at rule
    obtain ⟨t, ht, replied, notices, marked, keeps, holderT, engineT⟩ := autoRecoverySet_writes tag p s _ h false rule
      (hv ▸ Keeps.refl _ _)
    exact ⟨t, ht, replied, notices, marked.congr differs, keeps, fun due holds => absurd holds (other due),
      fun _ => ⟨holderT.trans holder, engineT.trans engine⟩⟩

/-- Settles O26: the restart by `ended_restart`, the setting by what probing it begins or ends. -/
theorem restartAndAutoRecovery : Obligations.RestartAndAutoRecovery := by
  refine ⟨engineRestart_answers, fun tag p s h hl => ⟨fun bad => ?_, recoveryOn_answers tag p s h hl, fun off => ?_⟩⟩
  · exact runRequest_onlyReplied s h _ _ _ takeAutoRecoverySet _ _
      (by simp [takeAutoRecoverySet, wrongLength_eq_false hl, flagOk, bad, State.refuse])
  · obtain ⟨t, ht, replied, notices, marked, keeps, probing, other⟩ := recoveryOff_answers tag p s h hl off
    refine ⟨t, ht, replied, notices, marked, keeps, ?_⟩
    cases holds : s.holder with
    | probing due => exact probing due holds
    | _ =>
      have kept := other (by simp [holds])
      rw [holds] at kept
      exact kept

end Sys2Proof.Machine

/-! Errors of the engine link: bad frames, mismatched reports, timeouts, and the state OFF (O36, O37; R71, R72, R81 to R83). -/

namespace Sys2Proof.Machine

/-! ### What the slot's turn does to the engine link (R69, R70, R76) -/

/-- At most one command issued, with the next tag, and a pending trim taken: nothing else of the engine link has changed. -/
structure IssuedAtMost (e e' : EngineLink) : Prop where
  rest : e' = { e with outstanding := e'.outstanding, nextTag := e'.nextTag, pendingTrim := e'.pendingTrim }
  issued : e'.outstanding = e.outstanding ∨ ∃ n, e'.outstanding = some n ∧ n.tag = e.nextTag

section
variable {s u : State}

theorem IssuedAtMost.of_eq {e e' : EngineLink} (h : e' = e) : IssuedAtMost e e' := by
  subst h
  exact ⟨rfl, .inl rfl⟩

theorem IssuedAtMost.of_keeps {l : List Block} (h : Keeps l s u) (out : Block.engine ∉ l := by decide) :
    IssuedAtMost s.engine u.engine := .of_eq (h.at .engine out)

theorem issued_issue (s : State) (cmd : EngineCommand) (party : Party) : IssuedAtMost s.engine (s.issue cmd party).engine :=
  ⟨rfl, .inr ⟨_, rfl, rfl⟩⟩

/-- An operation before the issue that leaves the engine link alone. -/
theorem IssuedAtMost.after {l : List Block} {v : State} (k : Keeps l s u) (h : IssuedAtMost u.engine v.engine)
    (out : Block.engine ∉ l := by decide) : IssuedAtMost s.engine v.engine := by
  rw [← show u.engine = s.engine from k.at .engine out]
  exact h

theorem issued_issuePhase (s : State) (a : Attempt) : IssuedAtMost s.engine (s.issuePhase a).engine := by
  unfold State.issuePhase
  split
  · exact .of_eq rfl
  · exact issued_issue _ _ _

theorem issued_serveAttempt (s : State) (a : Attempt) : IssuedAtMost s.engine (s.serveAttempt a).engine := by
  unfold State.serveAttempt
  split
  · split
    · exact .after (keeps_boundary s a) (issued_issuePhase _ _)
    · exact issued_issuePhase _ _
  · exact .of_eq rfl

theorem issued_serveTask (s : State) (k : Task) (party : Party) : IssuedAtMost s.engine (s.serveTask k party).engine := by
  unfold State.serveTask
  split
  · exact issued_issue _ _ _
  · exact .of_eq rfl

theorem issued_select (s : State) : IssuedAtMost s.engine s.select.engine := by
  cases h : s.reevaluate.orders.choose with
  | none =>
    rw [select_none h]
    exact .of_keeps (keeps_reevaluate s)
  | some c =>
    obtain ⟨i, o⟩ := c
    rw [select_some h]
    exact .after ((keeps_reevaluate s).mono.then (keeps_startAttempt _ i o) :
      Keeps [.orders, .notices, .server, .holder] s _) (issued_serveAttempt _ _)

theorem issued_offerWork (s : State) : IssuedAtMost s.engine s.offerWork.engine := by
  unfold State.offerWork
  split
  · exact issued_issue _ _ _
  · split
    · exact issued_issue _ _ _
    · split
      · exact ⟨rfl, .inr ⟨_, rfl, rfl⟩⟩
      · split
        · exact issued_select s
        · exact .of_eq rfl

theorem issued_offer (s : State) : IssuedAtMost s.engine s.offer.engine := by
  unfold State.offer
  split
  · exact issued_issue _ _ _
  · split
    · exact issued_issue _ _ _
    · exact .of_eq rfl
  all_goals
    split
    · exact issued_offerWork s
    · exact .of_eq rfl

theorem issued_serveSlot (s : State) : IssuedAtMost s.engine s.serveSlot.engine := by
  unfold State.serveSlot
  split
  · exact .of_eq rfl
  · split
    · exact issued_offer s
    · exact issued_serveAttempt _ _
    · exact issued_serveTask _ _ _
    · exact issued_serveTask _ _ _
    · exact .of_eq rfl
    · exact issued_issue _ _ _
    · exact .of_eq rfl

end

/-! ### Events that mark the store -/

/-- An event in a part that works, whose effect is `u`, with the store marked when `b` holds. -/
theorem run_marked (s u : State) (works : Works s) (f : State → State) (hf : f s = u) (quiet : u.quiet = none) {b : Bool}
    (marks : Marks b s u) :
    ∃ t, s.run f = .next t ∧ Keeps linkBlocks u t ∧ NoticesKept u t ∧ MarkedIf (b = true) s t := by
  obtain ⟨-, -, -, notices, record⟩ := closeStep_link u
  refine ⟨u.closeStep, by simp [State.run, works.1, hf], keeps_closeStep_working u quiet, notices, ?_⟩
  refine Marks.markedIf (s := s) marks .rfl (fun dirty => ?_) ⟨record, closeStep_unmarked u⟩
  obtain ⟨begins, waits⟩ := closeStep_marked u quiet dirty
  exact ⟨record, begins, waits⟩

/-- The same of an event that ends with the slot's turn from `u`. -/
theorem run_serves (s : State) (works : Works s) (f : State → State) (u : State) (changed : List Block) {b : Bool}
    (P : State → Prop) (hf : f s = u.serveSlot) (hp : P u) (hk : Keeps (changed ++ linkBlocks) s u) (marks : Marks b s u)
    (out : (!changed.contains .quiet) = true := by decide) :
    ∃ t, s.run f = .next t ∧ Served changed s t P ∧ MarkedIf (b = true) s t := by
  obtain ⟨t, ht, served, -, marked, unmarked⟩ := run_served s works f u changed P hf hp hk out
  exact ⟨t, ht, served, marks.markedIf .rfl marked unmarked⟩

/-! ### The state OFF (R83) -/

theorem enterOff_eq (s : State) : s.enterOff =
    if s.engine.autoRecovery then s.abandonAll.setHolder (.probing true) else s.abandonAll := by
  have kept : s.abandonAll.engine.autoRecovery = s.engine.autoRecovery :=
    (congrArg EngineLink.autoRecovery (abandonAll_engine s) :)
  rw [← kept]
  rfl

/-- An increase of the error count that makes the state OFF. -/
theorem addErrors_full {s : State} {k : Nat} (running : s.engine.state.running = true) (full : 255 ≤ s.engine.errorCount + k) :
    s.addErrors k = ((s.setEngine { s.engine with errorCount := 255 }).setEngineState .off).enterOff := by
  have count : satAdd 255 s.engine.errorCount k = 255 := min_eq_left full
  have off : stateOfCount 255 = .off := rfl
  have moved : stateOfCount 255 ≠ s.engine.state := fun same => by
    rw [← same] at running
    exact absurd running (by decide)
  unfold State.addErrors State.setCount
  rw [if_pos running, count, if_neg moved]
  rfl

/-- What R83 leaves, with the slot's turn in which probing begins. -/
structure TurnedOff (s u : State) : Prop where
  ended : EndedAtOnce s u
  pending : u.notices.pending &&& 64#8 = 64#8
  holder : u.holder = if s.engine.autoRecovery then .probing false else .idle
  engine : u.engine = { s.engine with
    state := .off, errorCount := 255, probeRun := 0,
    expiredTag := (match s.engine.outstanding with | some o => some o.tag | none => s.engine.expiredTag),
    nextTag := if s.engine.autoRecovery then s.engine.nextTag + 1 else s.engine.nextTag,
    outstanding := if s.engine.autoRecovery then some
      { command := .probe, tag := s.engine.nextTag, party := .probing,
        frame := frameBytes 0xA5 s.engine.nextTag [] } else none }

theorem turnsOff {s : State} {k : Nat} (quiet : s.quiet = none) (running : s.engine.state.running = true)
    (full : 255 ≤ s.engine.errorCount + k) : TurnedOff s (s.addErrors k).serveSlot := by
  rw [addErrors_full running full]
  generalize hv : (s.setEngine { s.engine with errorCount := 255 }).setEngineState .off = v
  have turned : Keeps [.engine, .notices, .server] s v :=
    hv ▸ (keeps_setEngine s _).mono.then (keeps_setEngineState _ _)
  have engine : v.engine = { s.engine with errorCount := 255, state := .off } := hv ▸ (keeps_raise _ _).at .engine
  have raised : v.notices.pending &&& 64#8 = 64#8 := by
    rw [← hv]
    show (State.raise _ .engine).notices.pending &&& 64#8 = 64#8
    rw [raise_pending]
    exact raised_bit _ _
  have ended : EndedAtOnce s v.abandonAll := (ended_abandonAll v).before turned
  have link : LinkKept v v.abandonAll := link_abandonAll v
  have free : v.abandonAll.engine.outstanding = none := (congrArg EngineLink.outstanding (abandonAll_engine v) :)
  have unquiet : v.abandonAll.quiet = none := (ended.keeps.at .quiet).trans quiet
  have auto : v.engine.autoRecovery = s.engine.autoRecovery := (congrArg EngineLink.autoRecovery engine :)
  rw [enterOff_eq, auto]
  cases recovery : s.engine.autoRecovery with
  | true =>
    rw [if_pos rfl, serveSlot_probes unquiet free]
    have issues : Keeps [.engine, .holder, .notices, .server] v.abandonAll
        (((v.abandonAll.setHolder (.probing true)).issue .probe .probing).setHolder (.probing false)) :=
      ((keeps_setHolder _ _).mono.then (keeps_issue _ _ _)).then (keeps_setHolder _ _)
    have kept := ((link_setHolder v.abandonAll (.probing true)).trans (link_issue _ .probe .probing)).trans
      (link_setHolder _ (.probing false))
    refine ⟨ended.then issues kept, (link.trans kept).stays raised, by simp [recovery], ?_⟩
    simp only [State.setHolder_engine, State.issue, State.setEngine_engine, abandonAll_engine, engine, recovery]
    rfl
  | false =>
    have idles : v.abandonAll.serveSlot = v.abandonAll := by
      rw [serveSlot_idle unquiet free (abandonAll_holder v),
        offer_off (congrArg EngineLink.state ((abandonAll_engine v).trans (by rw [engine])) :), abandonAll_engine, engine,
        recovery]
      rfl
    rw [if_neg (by simp), idles]
    refine ⟨ended, link.stays raised, by simp [recovery, abandonAll_holder], ?_⟩
    simp only [abandonAll_engine, engine, recovery]
    rfl

/-- The step that turns the state OFF, from what its cause has counted. -/
theorem run_turnedOff {s b u : State} (works : Works s) (counted : Keeps [.engine] s b) (turned : TurnedOff b u)
    (f : State → State) (hf : f s = u) :
    ∃ t, s.run f = .next t ∧ HolderEnded s t ∧ t.notices.pending &&& 64#8 = 64#8 ∧ t.holder = u.holder ∧
      t.engine = u.engine := by
  have ended := turned.ended.before counted.mono
  obtain ⟨t, ht, left, notices, marked⟩ := run_marked s u works f hf ((ended.keeps.at .quiet).trans works.2) ended.marks
  exact ⟨t, ht, ended.holderEnded left notices.1 (marked.congr decide_eq_true_iff), notices.1.symm ▸ turned.pending,
    left.at .holder, left.at .engine⟩

/-! ### The three errors (R71, R72) -/

theorem exec_badFrame {s : State} (works : Works s) :
    exec .engineBadFrame s = s.run fun _ => (s.countEngineCrc.addErrors 4).serveSlot := by
  obtain ⟨held, quiet⟩ := works
  show s.run State.badFrame = _
  simp [State.run, held, State.badFrame, State.working, quiet]

/-- A report that answers no outstanding command (R72 classes 4 and 5). -/
theorem answered_none {s : State} {tag : Byte} {r : Report}
    (wrong : ∀ o, s.engine.outstanding = some o → o.tag = tag → r.answers o.command = false) : s.answered? tag r = none := by
  unfold State.answered?
  cases out : s.engine.outstanding with
  | none => rfl
  | some o => exact if_neg fun both => by simp [wrong o out both.1] at both

theorem exec_mismatched {c : Instr} {tag : Byte} {r : Report} {s : State} (hc : reportOf c = some (tag, r)) (works : Works s)
    (wrong : ∀ o, s.engine.outstanding = some o → o.tag = tag → r.answers o.command = false)
    (fresh : s.engine.expiredTag ≠ some tag) : exec c s = s.run fun _ => (s.countMismatch.addErrors 2).serveSlot := by
  obtain ⟨held, quiet⟩ := works
  rw [exec_report c tag r s hc]
  simp [State.run, held, State.takeReport, State.working, quiet, answered_none wrong, fresh, State.mismatchedReport]

theorem exec_timeout {s : State} {o : Outstanding} (works : Works s) (out : s.engine.outstanding = some o) :
    exec .engineCommandTimeout s = s.run fun _ => (s.timeOut o).serveSlot := by
  obtain ⟨held, quiet⟩ := works
  show s.run State.takeTimeout = _
  simp [State.run, held, State.takeTimeout, out, State.working, quiet]

theorem running_ne_off {e : EngineState} (running : e.running = true) : e ≠ .off := by
  rintro rfl
  cases running

/-- A timeout that turns the state OFF is told to nobody (R71 step 4). -/
theorem timeOut_full {s : State} (o : Outstanding) (quiet : s.quiet = none) (running : s.engine.state.running = true)
    (full : 255 ≤ s.engine.errorCount + 8) : s.timeOut o = (s.expired o).addErrors 8 := by
  have off : ((s.expired o).addErrors 8).serveSlot.engine.state = .off :=
    (congrArg EngineLink.state (turnsOff (s := s.expired o) quiet running full).engine :)
  have same : ((s.expired o).addErrors 8).serveSlot.engine.state = ((s.expired o).addErrors 8).engine.state :=
    (congrArg EngineLink.state (issued_serveSlot _).rest :)
  rw [timeOut_eq, if_pos ⟨running_ne_off running, same.symm.trans off⟩]

/-- Settles O37: one sequence (`turnsOff`) after each of the three errors. -/
theorem offEndsTheHolder : Obligations.OffEndsTheHolder := by
  intro s works running off
  have quiet := works.2
  refine ⟨fun full => ?_, fun full c tag r hc wrong fresh => ?_, fun full out => ?_⟩
  · have turned : TurnedOff s.countEngineCrc _ := turnsOff (k := 4) quiet running (by show 255 ≤ s.engine.errorCount + 4; omega)
    obtain ⟨t, ht, ended, pending, holder, engine⟩ := run_turnedOff works (keeps_setEngine s _) turned
      (fun _ => (s.countEngineCrc.addErrors 4).serveSlot) rfl
    exact ⟨t, (exec_badFrame works).trans ht, ended, pending, holder.trans turned.holder, engine.trans turned.engine⟩
  · have turned : TurnedOff s.countMismatch _ := turnsOff (k := 2) quiet running (by show 255 ≤ s.engine.errorCount + 2; omega)
    obtain ⟨t, ht, ended, pending, holder, engine⟩ := run_turnedOff works (keeps_setEngine s _) turned
      (fun _ => (s.countMismatch.addErrors 2).serveSlot) rfl
    exact ⟨t, (exec_mismatched hc works wrong fresh).trans ht, ended, pending, holder.trans turned.holder,
      engine.trans turned.engine⟩
  · obtain ⟨o, out⟩ := Option.ne_none_iff_exists'.1 out
    have turned : TurnedOff (s.expired o) _ := turnsOff (k := 8) quiet running (by show 255 ≤ s.engine.errorCount + 8; omega)
    obtain ⟨t, ht, ended, pending, holder, engine⟩ := run_turnedOff works (keeps_setEngine s _) turned
      (fun _ => (s.timeOut o).serveSlot) (by rw [timeOut_full o quiet running (by omega)])
    refine ⟨t, (exec_timeout works out).trans ht, ended, pending, holder.trans turned.holder,
      (engine.trans turned.engine).trans ?_⟩
    simp only [State.expired, State.setEngine_engine, out] <;> rfl

end Sys2Proof.Machine

/-! What an error of the engine link leaves when it does not make the state OFF (O36; R58, R71, R72, R81, R82). -/

namespace Sys2Proof.Machine

/-! ### The error count (R81, R82) -/

/-- The engine link after an increase of its error count. -/
def EngineLink.erred (e : EngineLink) (k : Nat) : EngineLink :=
  { e with
    errorCount := if e.state.running then min 255 (e.errorCount + k) else e.errorCount,
    state := if e.state.running then stateOfCount (min 255 (e.errorCount + k)) else e.state }

section
variable {s t u : State} {k : Nat}

theorem addErrors_on (on : ¬(s.engine.state.running = true ∧ 255 ≤ s.engine.errorCount + k)) : s.addErrors k =
    (s.setEngine (s.engine.erred k)).raiseIf (decide ((s.engine.erred k).state ≠ s.engine.state)) .engine := by
  unfold State.addErrors EngineLink.erred
  by_cases running : s.engine.state.running = true
  · simp only [running, if_true]
    refine setCount_eq fun off => absurd ⟨running, ?_⟩ on
    rw [stateOfCount_eq_off] at off
    exact off.trans (min_le_right _ _)
  · simp [running, State.raiseIf, State.setEngine]

/-- Only an error count that reaches 255 makes the state OFF. -/
theorem erred_off (on : ¬(s.engine.state.running = true ∧ 255 ≤ s.engine.errorCount + k))
    (off : (s.engine.erred k).state = .off) : s.engine.state = .off := by
  by_cases running : s.engine.state.running = true
  · simp only [EngineLink.erred, running, if_true, stateOfCount_eq_off] at off
    exact absurd ⟨running, off.trans (min_le_right _ _)⟩ on
  · simpa [EngineLink.erred, running] using off

theorem addErrors_on_engine (on : ¬(s.engine.state.running = true ∧ 255 ≤ s.engine.errorCount + k)) :
    (s.addErrors k).engine = s.engine.erred k := by
  rw [addErrors_on on]
  exact (keeps_raiseIf _ _ _).at .engine

theorem keeps_addErrors_on (on : ¬(s.engine.state.running = true ∧ 255 ≤ s.engine.errorCount + k)) :
    Keeps [.engine, .notices, .server] s (s.addErrors k) := by
  rw [addErrors_on on]
  exact (keeps_setEngine _ _).mono.then (keeps_raiseIf _ _ _)

/-- ENGINE goes pending with a change of the state. -/
theorem addErrors_on_pending (on : ¬(s.engine.state.running = true ∧ 255 ≤ s.engine.errorCount + k))
    (moved : (s.engine.erred k).state ≠ s.engine.state) : (s.addErrors k).notices.pending &&& 64#8 = 64#8 := by
  rw [addErrors_on on, raiseIf_pending, if_pos (decide_eq_true moved)]
  exact raised_bit _ _

theorem errorsAdded_of (count : t.engine.errorCount = (s.engine.erred k).errorCount)
    (state : t.engine.state = (s.engine.erred k).state)
    (noted : t.engine.state ≠ s.engine.state → t.notices.pending &&& 64#8 = 64#8) : ErrorsAdded k s t := by
  unfold ErrorsAdded
  split
  · next running =>
    refine ⟨count.trans (if_pos running), state.trans (if_pos running), noted⟩
  · next still => exact ⟨count.trans (if_neg still), state.trans (if_neg still)⟩

/-- A state that turns OFF is the one its error count decides. -/
theorem erred_full (running : s.engine.state.running = true) (full : 255 ≤ s.engine.errorCount + k) :
    (s.engine.erred k).errorCount = 255 ∧ (s.engine.erred k).state = .off := by
  have count : min 255 (s.engine.errorCount + k) = 255 := min_eq_left full
  simp only [EngineLink.erred, running, if_true, count]
  exact ⟨trivial, rfl⟩

end

/-! ### Bad frames and mismatched reports (R72 classes 1 and 5) -/

/-- A step that counts one error in `c` and adds `k` to the error count, and then gives the slot its turn. -/
theorem error_step {s b : State} {k : Nat} (works : Works s) (c : EngineCounters)
    (counted : b = s.setEngine { s.engine with counters := c }) (f : State → State) (hf : f s = (b.addErrors k).serveSlot) :
    ∃ t, s.run f = .next t ∧ ErrorsAdded k s t ∧ t.engine.counters = c ∧
      (¬(s.engine.state.running = true ∧ 255 ≤ s.engine.errorCount + k) →
        StoreUnmarked s t ∧ Served [.engine] s t fun u =>
          u.engine = { s.engine with
            errorCount := if s.engine.state.running then min 255 (s.engine.errorCount + k) else s.engine.errorCount,
            state := if s.engine.state.running then stateOfCount (min 255 (s.engine.errorCount + k)) else s.engine.state,
            counters := c } ∧
          u.notices.pending = (if s.engine.state.running = true ∧
              stateOfCount (min 255 (s.engine.errorCount + k)) ≠ s.engine.state then s.notices.pending ||| 64#8
            else s.notices.pending)) := by
  subst counted
  generalize hb : s.setEngine { s.engine with counters := c } = b at hf
  have link : b.engine = { s.engine with counters := c } := congrArg State.engine hb.symm
  have keeps : Keeps [.engine] s b := hb ▸ keeps_setEngine s _
  by_cases full : s.engine.state.running = true ∧ 255 ≤ s.engine.errorCount + k
  · obtain ⟨running, full⟩ := full
    have turned : TurnedOff b (b.addErrors k).serveSlot :=
      turnsOff ((keeps.at .quiet).trans works.2) (by rw [link]; exact running) (by rw [link]; exact full)
    obtain ⟨t, ht, -, pending, -, engine⟩ := run_turnedOff works keeps turned f hf
    have whole := engine.trans turned.engine
    rw [link] at whole
    obtain ⟨count, state⟩ := erred_full running full
    exact ⟨t, ht, errorsAdded_of ((congrArg EngineLink.errorCount whole :).trans count.symm)
      ((congrArg EngineLink.state whole :).trans state.symm) (fun _ => pending), (congrArg EngineLink.counters whole :),
      fun on => absurd ⟨running, full⟩ on⟩
  · have added := addErrors_on (s := b) (k := k) (by rw [link]; exact full)
    rw [added] at hf
    generalize hv : (b.setEngine (b.engine.erred k)).raiseIf (decide ((b.engine.erred k).state ≠ b.engine.state)) .engine = v
      at hf
    have engine : v.engine = b.engine.erred k := hv ▸ (keeps_raiseIf _ _ _).at .engine
    have kept : Keeps [.engine, .notices, .server] s v :=
      hv ▸ (keeps.mono.then (keeps_setEngine _ _)).then (keeps_raiseIf _ _ _)
    have pending : v.notices.pending = if (b.engine.erred k).state ≠ b.engine.state then s.notices.pending ||| 64#8
        else s.notices.pending := by
      rw [← hv, raiseIf_pending, show b.setEngine (b.engine.erred k) = s.setEngine (b.engine.erred k) from hb ▸ rfl]
      simp only [decide_eq_true_eq]
      rfl
    obtain ⟨t, ht, served, -, -, unmarked⟩ := run_served s works f v [.engine] (fun u => u = v) hf rfl kept.mono
    obtain ⟨w, rfl, -, turn, final, -⟩ := id served
    have whole := (show t.engine = _ from turn.at .engine).trans (issued_serveSlot w).rest
    rw [engine, link] at whole
    have count : t.engine.errorCount = (s.engine.erred k).errorCount := (congrArg EngineLink.errorCount whole :)
    have state : t.engine.state = (s.engine.erred k).state := (congrArg EngineLink.state whole :)
    refine ⟨t, ht, errorsAdded_of count state fun moved => ?_, (congrArg EngineLink.counters whole :), fun _ =>
      ⟨unmarked.of_store_eq (kept.at .store), served.imp fun u hu => ?_⟩⟩
    · rw [final]
      refine (link_serveSlot w).stays ?_
      rw [pending, if_pos (by rw [link]; exact fun same => moved (state.trans same))]
      exact raised_bit _ _
    · rw [hu, engine, pending, link]
      refine ⟨rfl, if_congr ?_ rfl rfl⟩
      by_cases running : s.engine.state.running = true <;> simp [EngineLink.erred, running]

/-! ### What a timeout tells its party (R58, R71 step 4) -/

/-- The attempt as it stands on entering phase `p` (R42, R49): READY with a command to issue, or TIMING with its dwell. -/
def Attempt.entering (a : Attempt) (p : Phase) : Attempt :=
  { a with
    phase := p, step := if p = .dwell then .timing else .ready,
    dwellRemaining := if p = .dwell then a.dwell else if p = .cut then 0 else a.dwellRemaining }

/-- The phase after TAIL: the dwell, but for a dwell of 0. -/
def Attempt.dwellPhase (a : Attempt) : Phase := if a.dwell = 0 then .cut else .dwell

/-- The phase that follows the printing: TAIL when there is one. -/
def Attempt.tailPhase (a : Attempt) : Phase := if 0 < a.tail then .tail else a.dwellPhase

theorem Attempt.enterDwell_eq (a : Attempt) : a.enterDwell = a.entering a.dwellPhase := by
  unfold Attempt.enterDwell Attempt.entering Attempt.dwellPhase
  split_ifs <;> simp_all

theorem Attempt.enter_eq (a : Attempt) {p : Phase} (dwell : p ≠ .dwell) (cut : p ≠ .cut) : a.enter p = a.entering p := by
  simp [Attempt.enter, Attempt.entering, dwell, cut]

theorem Attempt.enterTail_eq (a : Attempt) : a.enterTail = a.entering a.tailPhase := by
  unfold Attempt.enterTail Attempt.tailPhase
  split_ifs
  · exact a.enter_eq (by simp) (by simp)
  · exact a.enterDwell_eq

theorem Attempt.takePending_eq (a : Attempt) (outcome : AttemptOutcome) :
    a.takePending outcome = { a with pendingOutcome := some (a.pendingOutcome.getD outcome) } := by
  unfold Attempt.takePending
  cases held : a.pendingOutcome with
  | none => rfl
  | some x =>
    rw [if_neg (by simp), Option.getD_some, ← held]

/-- The attempt with the outcome of a timeout, and an unfinished strip UNVERIFIED (R58). -/
def Attempt.failing (a : Attempt) : Attempt :=
  { a with
    verdict := if a.phase = .strip then .unverified else a.verdict,
    pendingOutcome := some (a.pendingOutcome.getD .failedEngine) }

/-- The phase that a timeout leads to, but for DWELL, in which nothing is outstanding, and for CUT, which is tried again. -/
def Attempt.phaseAfterTimeout (a : Attempt) : Phase :=
  if a.phase ∈ [.wasteFeed, .wasteCut] then .wasteCut
  else if a.phase ∈ [.lead, .bands, .strip] ∧ 0 < a.tail then .tail
  else if a.phase ∈ [.lead, .bands, .strip, .tail] then a.dwellPhase
  else a.phase

/-- R58's table. -/
theorem Attempt.timedOut_eq (a : Attempt) : a.timedOut =
    if a.phase = .dwell then a.failing
    else if a.phase = .cut then { a.failing with step := .ready }
    else a.failing.entering a.phaseAfterTimeout := by
  unfold Attempt.timedOut Attempt.phaseAfterTimeout
  rw [Attempt.takePending_eq]
  cases phase : a.phase <;> simp [Attempt.failing, Attempt.enter, Attempt.enterTail_eq, Attempt.enterDwell_eq, phase]
  all_goals rfl

/-- A phase entered after a timeout takes up the dwell exactly when it is DWELL or CUT. -/
theorem Attempt.phaseAfterTimeout_dwell (a : Attempt) (cut : a.phase ≠ .cut) (dwell : a.phase ≠ .dwell) :
    (a.failing.entering a.phaseAfterTimeout).dwellRemaining =
      if a.phase ∈ [.lead, .bands, .strip, .tail] ∧ a.phaseAfterTimeout ∈ [.dwell, .cut] then a.dwell
      else a.dwellRemaining := by
  unfold Attempt.entering Attempt.phaseAfterTimeout Attempt.dwellPhase
  by_cases none : a.dwell = 0 <;> by_cases tail : 0 < a.tail <;>
    cases phase : a.phase <;> simp_all [Attempt.failing]

theorem Attempt.timedOut_spec (a : Attempt) :
    let a' := a.timedOut
    a' = { a with
        phase := a'.phase, step := a'.step, dwellRemaining := a'.dwellRemaining,
        verdict := if a.phase = .strip then .unverified else a.verdict,
        pendingOutcome := some (a.pendingOutcome.getD .failedEngine) } ∧
      a'.phase = (if a.phase ∈ [.wasteFeed, .wasteCut] then .wasteCut
        else if a.phase ∈ [.lead, .bands, .strip] ∧ 0 < a.tail then .tail
        else if a.phase ∈ [.lead, .bands, .strip, .tail] then (if a.dwell = 0 then .cut else .dwell)
        else a.phase) ∧
      a'.step = (if a.phase = .dwell then a.step else if a'.phase = .dwell then .timing else .ready) ∧
      a'.dwellRemaining = (if a.phase ∈ [.lead, .bands, .strip, .tail] ∧ a'.phase ∈ [.dwell, .cut] then a.dwell
        else a.dwellRemaining) := by
  intro a'
  have unfolded : a' = a.timedOut := rfl
  rw [Attempt.timedOut_eq] at unfolded
  by_cases dwell : a.phase = .dwell
  · rw [unfolded, if_pos dwell]
    simp [Attempt.failing, dwell]
  · by_cases cut : a.phase = .cut
    · rw [unfolded, if_neg dwell, if_pos cut]
      simp [Attempt.failing, cut]
    · rw [unfolded, if_neg dwell, if_neg cut]
      exact ⟨rfl, rfl, (if_neg dwell).symm, a.phaseAfterTimeout_dwell cut dwell⟩

/-- What is told to the party of the command that has timed out, and what it leaves of the probe run (R71 step 4). -/
def PartyTold (v u : State) (command : EngineCommand) : Party → Holder → Prop
  | .attempt, .attempt a => u.ink = v.ink ∧ u.holder = .attempt a.timedOut
  | .clearOut, .clearOut k => u.ink = v.ink ∧ u.holder = .clearOut { k with feedOver := k.feedOver || decide (command ≠ .cut) }
  | .trim, .trim k => u.ink = v.ink ∧ u.holder = .trim { k with feedOver := k.feedOver || decide (command ≠ .cut) }
  | .cleaning, .cleaning _ => u.ink = v.inkEnded ∧ u.holder = .idle
  | _, h => u.ink = v.ink ∧ u.holder = h

/-- The probe run after a timeout: that of a PROBE clears it (R84). -/
def runAfterTimeout (run : Nat) : Party → Holder → Nat
  | .probing, .probing _ => 0
  | _, _ => run

/-- A party that no longer holds the slot is told nothing. -/
theorem partyTold_other {v : State} (command : EngineCommand) {party : Party}
    (attempt : ∀ a, party = .attempt → v.holder = .attempt a → False)
    (clearOut : ∀ k, party = .clearOut → v.holder = .clearOut k → False)
    (trim : ∀ k, party = .trim → v.holder = .trim k → False)
    (cleaning : ∀ levels, party = .cleaning → v.holder = .cleaning levels → False)
    (probing : ∀ due, party = .probing → v.holder = .probing due → False) :
    PartyTold v v command party v.holder ∧ runAfterTimeout v.engine.probeRun party v.holder = v.engine.probeRun := by
  unfold PartyTold runAfterTimeout
  constructor <;> split <;> simp_all

theorem tellTimeout_spec (v : State) (command : EngineCommand) (party : Party) :
    let u := v.tellTimeout command party
    PartyTold v u command party v.holder ∧ Keeps [.engine, .holder, .ink, .notices, .server] v u ∧
      u.engine = { v.engine with probeRun := runAfterTimeout v.engine.probeRun party v.holder } ∧
      u.notices.pending = (if party = .startUp then v.notices.pending ||| 64#8 else v.notices.pending) := by
  dsimp only
  generalize told : v.tellTimeout command party = u
  unfold State.tellTimeout at told
  split at told <;> subst told
  · refine ⟨?_, (keeps_raise v .engine).mono, (keeps_raise v .engine).at .engine, raise_pending v .engine⟩
    exact ⟨(keeps_raise v .engine).at .ink, (keeps_raise v .engine).at .holder⟩
  · next a holds => exact holds ▸ ⟨⟨rfl, rfl⟩, (keeps_setHolder v _).mono, rfl, rfl⟩
  · next k holds => exact holds ▸ ⟨⟨rfl, rfl⟩, (keeps_setHolder v _).mono, rfl, rfl⟩
  · next k holds => exact holds ▸ ⟨⟨rfl, rfl⟩, (keeps_setHolder v _).mono, rfl, rfl⟩
  · next levels holds =>
    refine holds ▸ ⟨⟨?_, rfl⟩, (keeps_returnLevels v levels).mono, rfl, rfl⟩
    rw [State.inkEnded, holds]
    rfl
  · next due holds =>
    rw [holds]
    exact ⟨⟨rfl, rfl⟩, ((keeps_setEngine v _).mono.then (keeps_setHolder _ _)), rfl, rfl⟩
  · next noStart attempt clearOut trim cleaning probing =>
    obtain ⟨told, run⟩ := partyTold_other command attempt clearOut trim cleaning probing
    rw [run, if_neg noStart]
    exact ⟨told, Keeps.refl _ _, rfl, rfl⟩

/-! ### Timeouts (R71) -/

section
variable {s : State} {o : Outstanding}

/-- A timeout that turns the state OFF. -/
theorem timeout_full (works : Works s) (out : s.engine.outstanding = some o) (running : s.engine.state.running = true)
    (full : 247 ≤ s.engine.errorCount) :
    ∃ t, exec .engineCommandTimeout s = .next t ∧ ErrorsAdded 8 s t ∧ t.engine.expiredTag = some o.tag ∧
      t.engine.counters = { s.engine.counters with timeouts := min 65535 (s.engine.counters.timeouts + 1) } ∧
      ∀ n, t.engine.outstanding = some n → n.tag = s.engine.nextTag := by
  have full : 255 ≤ s.engine.errorCount + 8 := by omega
  have turned : TurnedOff (s.expired o) ((s.expired o).addErrors 8).serveSlot := turnsOff (s := s.expired o) works.2 running full
  obtain ⟨t, ht, -, pending, -, engine⟩ := run_turnedOff works (keeps_setEngine s _) turned
    (fun _ => (s.timeOut o).serveSlot) (by rw [timeOut_full o works.2 running full])
  have whole := engine.trans turned.engine
  obtain ⟨count, state⟩ := erred_full running full
  refine ⟨t, (exec_timeout works out).trans ht, errorsAdded_of ((congrArg EngineLink.errorCount whole :).trans count.symm)
    ((congrArg EngineLink.state whole :).trans state.symm) (fun _ => pending), (congrArg EngineLink.expiredTag whole :),
    (congrArg EngineLink.counters whole :), fun n issued => ?_⟩
  rw [show t.engine.outstanding = _ from congrArg EngineLink.outstanding whole] at issued
  cases recovery : (s.expired o).engine.autoRecovery with
  | false => simp [recovery] at issued
  | true =>
    simp only [recovery, if_true, Option.some.injEq] at issued
    rw [← issued]
    rfl

/-- What a timeout that does not turn the state OFF leaves before the slot's turn. -/
structure TimedOut (s : State) (o : Outstanding) (u : State) : Prop where
  told : PartyTold s u o.command o.party s.holder
  keeps : Keeps [.engine, .holder, .ink, .notices, .server] s u
  engine : u.engine = { (s.expired o).engine.erred 8 with probeRun := runAfterTimeout s.engine.probeRun o.party s.holder }
  noted : u.engine.state ≠ s.engine.state ∨ o.party = .startUp → u.notices.pending &&& 64#8 = 64#8

/-- What a party is told rests on the ink and the holder alone. -/
theorem PartyTold.before {v u : State} {command : EngineCommand} {party : Party} {h : Holder}
    (k : Keeps [.engine, .notices, .server] s v) (told : PartyTold v u command party h) : PartyTold s u command party h := by
  have ink : v.ink = s.ink := k.at .ink
  have ended : v.inkEnded = s.inkEnded := by
    unfold State.inkEnded
    rw [ink, show v.holder = s.holder from k.at .holder]
  unfold PartyTold at *
  rw [ink, ended] at told
  exact told

theorem timedOut_timeOut (on : ¬(s.engine.state.running = true ∧ 255 ≤ s.engine.errorCount + 8)) :
    TimedOut s o (s.timeOut o) := by
  have stays : ¬(s.engine.state ≠ .off ∧ ((s.expired o).addErrors 8).engine.state = .off) := by
    rintro ⟨other, off⟩
    rw [addErrors_on_engine (s := s.expired o) on] at off
    exact other (erred_off (s := s.expired o) on off)
  rw [timeOut_eq, if_neg stays]
  generalize hv : (s.expired o).addErrors 8 = v
  have engine : v.engine = (s.expired o).engine.erred 8 := hv ▸ addErrors_on_engine (s := s.expired o) on
  have kept : Keeps [.engine, .notices, .server] s v :=
    hv ▸ (keeps_setEngine s _).mono.then (keeps_addErrors_on (s := s.expired o) on)
  have holder : v.holder = s.holder := kept.at .holder
  obtain ⟨told, keeps, link, pending⟩ := tellTimeout_spec v o.command o.party
  rw [holder] at told link
  refine ⟨told.before kept, kept.mono.trans keeps, link.trans (by rw [engine]; rfl), fun noted => ?_⟩
  rw [pending]
  obtain moved | startUp := noted
  · rw [link, engine] at moved
    have bit : v.notices.pending &&& 64#8 = 64#8 := hv ▸ addErrors_on_pending (s := s.expired o) on moved
    split
    · exact stays_or bit
    · exact bit
  · rw [if_pos startUp]
    exact raised_bit _ _

/-- A timeout that does not turn the state OFF. -/
theorem timeout_on (works : Works s) (out : s.engine.outstanding = some o)
    (on : ¬(s.engine.state.running = true ∧ 255 ≤ s.engine.errorCount + 8)) :
    ∃ t, exec .engineCommandTimeout s = .next t ∧ ErrorsAdded 8 s t ∧ t.engine.expiredTag = some o.tag ∧
      t.engine.counters = { s.engine.counters with timeouts := min 65535 (s.engine.counters.timeouts + 1) } ∧
      (∀ n, t.engine.outstanding = some n → n.tag = s.engine.nextTag) ∧
      (o.party = .startUp → s.engine.state = .starting → s.holder = .idle →
        t.notices.pending &&& 64#8 = 64#8 ∧ t.engine.outstanding = some
          { command := .engineReset, tag := s.engine.nextTag, party := .startUp,
            frame := frameBytes 0xA6 s.engine.nextTag [] }) ∧
      Served [.engine, .holder, .ink] s t (TimedOut s o) := by
  have timed := timedOut_timeOut (o := o) on
  generalize hw : s.timeOut o = w at timed
  obtain ⟨t, ht, served, -⟩ := run_served s works (fun _ => (s.timeOut o).serveSlot) w [.engine, .holder, .ink]
    (fun u => u = w) (by rw [hw]) rfl timed.keeps.mono
  obtain ⟨w, rfl, -, turn, final, -⟩ := id served
  have whole := (show t.engine = _ from turn.at .engine).trans (issued_serveSlot w).rest
  have issued := (issued_serveSlot w).issued
  rw [← show t.engine = _ from turn.at .engine] at issued
  rw [timed.engine] at whole issued
  have count : t.engine.errorCount = (s.engine.erred 8).errorCount := (congrArg EngineLink.errorCount whole :)
  have state : t.engine.state = (s.engine.erred 8).state := (congrArg EngineLink.state whole :)
  have kept {bit : w.notices.pending &&& 64#8 = 64#8} : t.notices.pending &&& 64#8 = 64#8 :=
    final ▸ (link_serveSlot w).stays bit
  refine ⟨t, (exec_timeout works out).trans ht, errorsAdded_of count state fun moved => ?_,
    (congrArg EngineLink.expiredTag whole :), (congrArg EngineLink.counters whole :), fun n command => ?_,
    fun startUp starting idle => ⟨?_, ?_⟩, served.imp fun u hu => hu ▸ timed⟩
  · exact kept (bit := timed.noted (.inl fun same => moved (state.trans (by rw [← same, timed.engine]; rfl))))
  · obtain same | ⟨m, new, tag⟩ := issued
    · rw [same] at command
      cases command
    · rw [new] at command
      cases command
      exact tag
  · exact kept (bit := timed.noted (.inr startUp))
  · have holder : w.holder = .idle := by
      have told := timed.told
      rw [startUp, idle] at told
      exact told.2
    have restarts : w.serveSlot = w.issue .engineReset .startUp := by
      rw [serveSlot_idle ((timed.keeps.at .quiet).trans works.2) (by rw [timed.engine]; rfl) holder, offer_starting]
      rw [timed.engine]
      simp [EngineLink.erred, State.expired, starting, EngineState.running]
    rw [show t.engine = _ from turn.at .engine, restarts]
    simp only [State.issue, State.setEngine_engine, timed.engine]
    rfl

/-- The parties' table as the statement of O36 has it. -/
theorem TimedOut.parties {u : State} (h : TimedOut s o u) :
    match o.party, s.holder with
    | .attempt, .attempt a => u.ink = s.ink ∧ u.holder = .attempt a.timedOut
    | .clearOut, .clearOut k => u.ink = s.ink ∧
      u.holder = .clearOut { k with feedOver := k.feedOver || decide (o.command ≠ .cut) }
    | .trim, .trim k => u.ink = s.ink ∧ u.holder = .trim { k with feedOver := k.feedOver || decide (o.command ≠ .cut) }
    | .cleaning, .cleaning _ => u.ink = s.inkEnded ∧ u.holder = .idle
    | _, _ => u.ink = s.ink ∧ u.holder = s.holder := by
  have told := h.told
  unfold PartyTold at told
  split <;> simp_all

end

/-- Settles O36: `error_step` for the two errors of a frame, `timeout_full` and `timeout_on` for a timeout. -/
theorem engineErrorsAreCounted : Obligations.EngineErrorsAreCounted := by
  unfold Obligations.EngineErrorsAreCounted
  intro still
  refine ⟨fun s works => ?_, fun c tag r s hc works wrong fresh => ?_, fun s o works out => ?_⟩
  · intro counters
    rw [exec_badFrame works]
    exact error_step works counters rfl _ rfl
  · intro counters
    rw [exec_mismatched hc works wrong fresh]
    exact error_step works counters rfl _ rfl
  · by_cases full : s.engine.state.running = true ∧ 255 ≤ s.engine.errorCount + 8
    · obtain ⟨running, full⟩ := full
      have full : 247 ≤ s.engine.errorCount := by omega
      obtain ⟨t, ht, errors, tag, counters, issued⟩ := timeout_full works out running full
      refine ⟨t, ht, errors, tag, counters, issued, fun _ starting => ?_, fun on => absurd ⟨running, full⟩ on⟩
      rw [starting] at running
      cases running
    · obtain ⟨t, ht, errors, tag, counters, issued, startUp, served⟩ := timeout_on works out full
      refine ⟨t, ht, errors, tag, counters, issued, startUp, fun _ => served.imp fun u timed => ⟨?_, ?_, ?_⟩⟩
      · rw [timed.engine]
        by_cases running : s.engine.state.running = true
        · have short : min 255 (s.engine.errorCount + 8) = s.engine.errorCount + 8 :=
            min_eq_right (Nat.le_of_lt (Nat.not_le.1 fun h => full ⟨running, h⟩))
          simp [EngineLink.erred, State.expired, running, short]
          rfl
        · simp [EngineLink.erred, State.expired, running]
          rfl
      · exact timed.noted
      · have parties := timed.parties
        split
        · next a party holder =>
          rw [party, holder] at parties
          exact ⟨parties.1, _, parties.2, a.timedOut_spec⟩
        · next k party holder =>
          rw [party, holder] at parties
          exact parties
        · next k party holder =>
          rw [party, holder] at parties
          exact parties
        · next levels party holder =>
          rw [party, holder] at parties
          exact parties
        · split at parties <;> simp_all

end Sys2Proof.Machine

/-! The orders follow what their eligibility reads (R17): the position, the supply states and the suspensions, through the
operations that change them one after the other. -/

namespace Sys2Proof.Machine

/-! ### What a re-evaluation reads -/

/-- The roll record without the fields that a report can move. -/
def Roll.site (r : Roll) : Roll := { r with position := 0, clearOutPending := false }

/-- What eligibility reads beside the position, the supply states and the suspensions. -/
structure SamePlace (s u : State) : Prop where
  kinds : u.media.kinds = s.media.kinds
  site : u.media.roll.site = s.media.roll.site
  editions : u.editions = s.editions

section
variable {s t u : State}

theorem SamePlace.refl (s : State) : SamePlace s s := ⟨rfl, rfl, rfl⟩

theorem SamePlace.trans (h : SamePlace s t) (k : SamePlace t u) : SamePlace s u :=
  ⟨k.kinds.trans h.kinds, k.site.trans h.site, k.editions.trans h.editions⟩

theorem SamePlace.of_keeps {l : List Block} (k : Keeps l s u) (media : Block.media ∉ l := by decide)
    (editions : Block.editions ∉ l := by decide) : SamePlace s u := by
  have same : u.media = s.media := k.at .media media
  exact ⟨by rw [same], by rw [same], k.at .editions editions⟩

/-- Position, supply states and suspensions as they were. -/
structure Still (s u : State) : Prop where
  position : u.media.roll.position = s.media.roll.position
  supply (c : Fin 12) : u.ink.channels[c].supply = s.ink.channels[c].supply
  suspended (g : Fin 24) : u.colour.gainSets[g].map (·.suspended) = s.colour.gainSets[g].map (·.suspended)

theorem still_iff : Still s u ↔ ¬EligibilityMoved s u := by
  unfold EligibilityMoved
  push Not
  exact ⟨fun h => ⟨h.position, h.supply, h.suspended⟩, fun ⟨p, c, g⟩ => ⟨p, c, g⟩⟩

theorem Still.of_keeps {l : List Block} (k : Keeps l s u) (media : Block.media ∉ l := by decide)
    (ink : Block.ink ∉ l := by decide) (colour : Block.colour ∉ l := by decide) : Still s u := by
  have hm : u.media = s.media := k.at .media media
  have hi : u.ink = s.ink := k.at .ink ink
  have hc : u.colour = s.colour := k.at .colour colour
  exact ⟨by rw [hm], fun c => by rw [hi], fun g => by rw [hc]⟩

theorem holdReasons_still (place : SamePlace s u) (still : Still s u) (o : Order) : u.holdReasons o = s.holdReasons o := by
  have declared : u.media.roll.declared = s.media.roll.declared := (congrArg Roll.declared place.site :)
  have kind : u.media.roll.mediaKind = s.media.roll.mediaKind := (congrArg Roll.mediaKind place.site :)
  have width : u.media.roll.width = s.media.roll.width := (congrArg Roll.width place.site :)
  have length : u.media.roll.length = s.media.roll.length := (congrArg Roll.length place.site :)
  have zones : u.media.roll.zones = s.media.roll.zones := (congrArg Roll.zones place.site :)
  have fits (need : Nat) : u.media.roll.fits need = s.media.roll.fits need := by
    unfold Roll.fits Roll.placementStart Roll.positionMm
    rw [still.position, length, zones]
  have supply (set : BitVec 12) (p : SupplyState → Bool) : u.ink.anyChannel set p = s.ink.anyChannel set p := by
    simp only [InkUnit.anyChannel, still.supply]
  have setOf : u.orderSet? o = s.orderSet? o := by simp only [State.orderSet?, State.findEdition, place.editions]
  have suspended : u.orderSuspended o = s.orderSuspended o := by
    simp only [State.orderSuspended, setOf]
    cases s.orderSet? o with
    | none => rfl
    | some g =>
      have same := still.suspended g
      cases hu : u.colour.gainSets[g] <;> cases hs : s.colour.gainSets[g] <;> simp_all
  simp only [State.holdReasons, State.orderNeed, State.margins, declared, kind, width, fits, supply, suspended, place.kinds]

theorem reevaluatedSlot_still (place : SamePlace s u) (still : Still s u) (x : Option Order) :
    u.reevaluatedSlot x = s.reevaluatedSlot x ∧ u.movesSlot x = s.movesSlot x := by
  have evaluated : u.evaluated = s.evaluated := by
    funext o
    simp only [State.evaluated, holdReasons_still place still]
  simp only [State.reevaluatedSlot, State.movesSlot, evaluated]
  exact ⟨trivial, trivial⟩

/-- A second re-evaluation does what it would have done alone. -/
theorem reevaluatedSlot_twice (s u : State) (x : Option Order) :
    u.reevaluatedSlot (s.reevaluatedSlot x) = u.reevaluatedSlot x := by
  cases x with
  | none => rfl
  | some o =>
    by_cases waits : o.state.waiting = true
    · have still : (s.evaluated o).state.waiting = true := by
        simp only [State.evaluated]
        split <;> rfl
      simp only [State.reevaluatedSlot, waits, still, if_true]
      rfl
    · simp [State.reevaluatedSlot, waits]

/-- An order that two re-evaluations move between them was moved by one of them. -/
theorem movesSlot_twice {s u : State} {x : Option Order} (h : u.movesSlot x = true) :
    s.movesSlot x = true ∨ u.movesSlot (s.reevaluatedSlot x) = true := by
  cases x with
  | none => simp [State.movesSlot] at h
  | some o =>
    simp only [State.movesSlot, Bool.and_eq_true, decide_eq_true_eq] at h
    obtain ⟨waits, moved⟩ := h
    by_cases first : (s.evaluated o).state = o.state
    · refine .inr ?_
      simp only [State.reevaluatedSlot, State.movesSlot, waits, if_true, Bool.true_and, decide_eq_true_eq, first]
      exact moved
    · exact .inl (by simp [State.movesSlot, waits, first])

/-! ### The categories an operation may make pending (R201) -/

theorem isIn_or (c : Category) (p q : Byte) : c.isIn (p ||| q) = (c.isIn p || c.isIn q) := BitVec.getLsbD_or

theorem isIn_mask (c d : Category) : c.isIn d.mask = decide (c = d) := by
  cases c <;> cases d <;> decide

theorem OnlyRaised.of_pending {may : Category → Prop} (h : u.notices.pending = s.notices.pending) : OnlyRaised s u may := by
  intro c
  rw [h]
  exact ⟨id, .inl⟩

theorem OnlyRaised.mono {may might : Category → Prop} (h : OnlyRaised s u may) (imp : ∀ c, may c → might c) :
    OnlyRaised s u might := fun c => ⟨(h c).1, fun raised => ((h c).2 raised).imp_right (imp c)⟩

theorem OnlyRaised.trans {may : Category → Prop} (h : OnlyRaised s t may) (k : OnlyRaised t u may) : OnlyRaised s u may :=
  fun c => ⟨fun held => (k c).1 ((h c).1 held), fun raised => ((k c).2 raised).elim (h c).2 .inr⟩

theorem onlyRaised_raiseIf (s : State) (b : Bool) (d : Category) : OnlyRaised s (s.raiseIf b d) fun c => b = true ∧ c = d := by
  intro c
  rw [raiseIf_pending]
  cases b with
  | false => exact ⟨id, .inl⟩
  | true =>
    simp only [if_true, isIn_or, isIn_mask, Bool.or_eq_true, decide_eq_true_eq, true_and]
    exact ⟨.inl, id⟩

theorem onlyRaised_raise (s : State) (d : Category) : OnlyRaised s (s.raise d) (· = d) :=
  (onlyRaised_raiseIf s true d).mono fun _ h => h.2

theorem onlyRaised_reevaluate (s : State) : OnlyRaised s s.reevaluate (· = .order) := by
  unfold State.reevaluate
  refine OnlyRaised.trans (OnlyRaised.of_pending ?_) ((onlyRaised_raiseIf _ _ _).mono fun _ h => h.2)
  rfl

/-! ### Operations one after the other -/

/-- A supply state has changed (R98). -/
def SupplyMoved (s u : State) : Prop := ∃ c : Fin 12, u.ink.channels[c].supply ≠ s.ink.channels[c].supply

/-- No position, supply state or suspension changes twice: what changes between `s` and `t` stays from `t` to `u`. -/
structure Apart (s t u : State) : Prop where
  position : t.media.roll.position = s.media.roll.position ∨ u.media.roll.position = t.media.roll.position
  supply (c : Fin 12) : t.ink.channels[c].supply = s.ink.channels[c].supply ∨
    u.ink.channels[c].supply = t.ink.channels[c].supply
  suspended (g : Fin 24) : t.colour.gainSets[g].map (·.suspended) = s.colour.gainSets[g].map (·.suspended) ∨
    u.colour.gainSets[g].map (·.suspended) = t.colour.gainSets[g].map (·.suspended)

/-- A value that changes at most once has changed when it did so on the way. -/
theorem moved_iff {α : Type} {x y z : α} (h : y = x ∨ z = y) : z ≠ x ↔ y ≠ x ∨ z ≠ y := by
  obtain rfl | rfl := h <;> simp

theorem Apart.still (h : Apart s t u) : Still s u ↔ Still s t ∧ Still t u := by
  refine ⟨fun k => ⟨⟨?_, fun c => ?_, fun g => ?_⟩, ?_, fun c => ?_, fun g => ?_⟩,
    fun ⟨k, l⟩ => ⟨l.position.trans k.position, fun c => (l.supply c).trans (k.supply c),
      fun g => (l.suspended g).trans (k.suspended g)⟩⟩
  all_goals by_contra moved
  · exact (moved_iff h.position).2 (.inl moved) k.position
  · exact (moved_iff (h.supply c)).2 (.inl moved) (k.supply c)
  · exact (moved_iff (h.suspended g)).2 (.inl moved) (k.suspended g)
  · exact (moved_iff h.position).2 (.inr moved) k.position
  · exact (moved_iff (h.supply c)).2 (.inr moved) (k.supply c)
  · exact (moved_iff (h.suspended g)).2 (.inr moved) (k.suspended g)

theorem Apart.moved (h : Apart s t u) : EligibilityMoved s u ↔ EligibilityMoved s t ∨ EligibilityMoved t u := by
  have still := h.still
  rw [still_iff, still_iff, still_iff, ← not_or, not_iff_not] at still
  exact still

theorem Apart.supplyMoved (h : Apart s t u) : SupplyMoved s u ↔ SupplyMoved s t ∨ SupplyMoved t u := by
  unfold SupplyMoved
  rw [← exists_or]
  exact exists_congr fun c => moved_iff (h.supply c)

/-- Nothing moves in the second part. -/
theorem Apart.of_still_right (h : Still t u) : Apart s t u :=
  ⟨.inr h.position, fun c => .inr (h.supply c), fun g => .inr (h.suspended g)⟩

theorem Apart.of_still_left (h : Still s t) : Apart s t u :=
  ⟨.inl h.position, fun c => .inl (h.supply c), fun g => .inl (h.suspended g)⟩

/-- The categories that may go pending as the orders follow: ORDER and SUPPLY, and those of `other`. -/
def FollowRaises (other : Category → Prop) (s u : State) (c : Category) : Prop :=
  (c = .order ∧ EligibilityMoved s u) ∨ (c = .supply ∧ SupplyMoved s u) ∨ other c

theorem FollowRaises.left {other : Category → Prop} {c : Category} (h : FollowRaises other s t c) (apart : Apart s t u) :
    FollowRaises other s u c := by
  obtain ⟨order, moved⟩ | ⟨supply, moved⟩ | rest := h
  · exact .inl ⟨order, apart.moved.2 (.inl moved)⟩
  · exact .inr (.inl ⟨supply, apart.supplyMoved.2 (.inl moved)⟩)
  · exact .inr (.inr rest)

theorem FollowRaises.right {other : Category → Prop} {c : Category} (h : FollowRaises other t u c) (apart : Apart s t u) :
    FollowRaises other s u c := by
  obtain ⟨order, moved⟩ | ⟨supply, moved⟩ | rest := h
  · exact .inl ⟨order, apart.moved.2 (.inr moved)⟩
  · exact .inr (.inl ⟨supply, apart.supplyMoved.2 (.inr moved)⟩)
  · exact .inr (.inr rest)

/-- The orders follow `base` from `s` to `u`, and no category goes pending but with the orders, a supply state, or as `other`
says; the rest of what eligibility reads stays. -/
structure Follows (other : Category → Prop) (base : OrderBlock) (s u : State) : Prop where
  place : SamePlace s u
  orders : OrdersFollow base s u
  link : LinkKept s u
  only : OnlyRaised s u (FollowRaises other s u)

theorem Follows.of_still {other : Category → Prop} {base : OrderBlock} (place : SamePlace s u) (still : Still s u)
    (orders : u.orders = base) (link : LinkKept s u) (only : OnlyRaised s u other) : Follows other base s u := by
  refine ⟨place, ⟨fun moved => absurd moved (still_iff.1 still), fun _ => orders, fun moved => ?_⟩, link,
    only.mono fun _ h => .inr (.inr h)⟩
  obtain ⟨c, moved⟩ := moved
  exact absurd (still.supply c) moved

theorem Follows.trans {other : Category → Prop} {base : OrderBlock} (h : Follows other base s t)
    (k : Follows other t.orders t u) (apart : Apart s t u) : Follows other base s u := by
  obtain ⟨follow, stay, supplies⟩ := h.orders
  obtain ⟨followU, stayU, suppliesU⟩ := k.orders
  refine ⟨h.place.trans k.place, ⟨fun moved => ?_, fun stays => ?_, fun moved => ?_⟩, h.link.trans k.link,
    (h.only.mono fun c raised => raised.left apart).trans (k.only.mono fun c raised => raised.right apart)⟩
  · by_cases second : EligibilityMoved t u
    · obtain ⟨table, noted⟩ := followU second
      by_cases first : EligibilityMoved s t
      · obtain ⟨before, notedBefore⟩ := follow first
        refine ⟨?_, fun ⟨i, moves⟩ => ?_⟩
        · rw [table, before]
          simp only [Fin.getElem_fin, Vector.getElem_ofFn, reevaluatedSlot_twice]
        · obtain moved | moved := movesSlot_twice (s := t) moves
          · exact k.link.stays (notedBefore ⟨i, moved⟩)
          · refine noted ⟨i, ?_⟩
            rw [before]
            simpa using moved
      · rw [stay first] at table noted
        exact ⟨table, noted⟩
    · obtain ⟨table, noted⟩ := follow ((apart.moved.1 moved).resolve_right second)
      have same := reevaluatedSlot_still k.place (still_iff.2 second)
      refine ⟨(stayU second).trans ?_, fun ⟨i, moves⟩ => k.link.stays (noted ⟨i, ?_⟩)⟩
      · rw [table]
        simp only [(same _).1]
      · rw [← (same _).2]
        exact moves
  · rw [apart.moved, not_or] at stays
    exact (stayU stays.2).trans (stay stays.1)
  · obtain first | second := apart.supplyMoved.1 moved
    · exact k.link.stays (supplies first)
    · exact suppliesU second

/-- A change and the re-evaluation that it runs (R17, R98). -/
theorem Follows.of_reevaluate {other : Category → Prop} (place : SamePlace s t) (orders : t.orders = s.orders)
    (link : LinkKept s t) (moved : EligibilityMoved s t) (supplies : SupplyMoved s t → t.notices.pending &&& 4#8 = 4#8)
    (only : OnlyRaised s t fun c => (c = .supply ∧ SupplyMoved s t) ∨ other c) : Follows other s.orders s t.reevaluate := by
  have keeps := keeps_reevaluate t
  have still : Still t t.reevaluate := .of_keeps keeps
  have again : SamePlace t t.reevaluate := .of_keeps keeps
  have apart : Apart s t t.reevaluate := .of_still_right still
  obtain ⟨table, pending⟩ := reevaluated_reevaluate t
  rw [orders] at table pending
  refine ⟨place.trans again, ⟨fun _ => ⟨table, fun ⟨i, moves⟩ => ?_⟩, fun stays => absurd (apart.moved.2 (.inl moved)) stays,
    fun moves => ?_⟩, link.trans (link_reevaluate t), (only.mono fun c raised => raised.elim
      (fun supply => .inr (.inl ⟨supply.1, apart.supplyMoved.2 (.inl supply.2)⟩)) fun rest => .inr (.inr rest)).trans
      ((onlyRaised_reevaluate t).mono fun c raised => .inl ⟨raised, apart.moved.2 (.inl moved)⟩)⟩
  · rw [pending, if_pos (List.any_eq_true.2 ⟨i, List.mem_finRange i, moves⟩)]
    exact raised_bit _ _
  · refine (link_reevaluate t).stays (supplies ?_)
    obtain first | ⟨c, second⟩ := apart.supplyMoved.1 moves
    · exact first
    · exact absurd (still.supply c) second

end

end Sys2Proof.Machine

/-! What an attempt issues next, its boundary checks and its dwell (O47; R42, R50, R54, R77, R168). -/

namespace Sys2Proof.Machine

/-! ### Boundary checks (R54, R168) -/

/-- Whether the provisional cost is above the order's ceiling (R168). -/
def Attempt.crosses (a : Attempt) (o : Order) : Bool :=
  match o.ceiling with
  | some c => decide (c < a.provisional o)
  | none => false

/-- The outcome that the boundary checks leave: a cancel, a ceiling that stops the order, a DRY or FAULT channel. -/
def State.outcomeAtBoundary (s : State) (a : Attempt) (o : Order) : Option AttemptOutcome :=
  if o.cancelRequested then some .cancelled
  else if a.crosses o = true ∧ o.stopAtCeiling = true then some .stopped
  else if (List.finRange 12).any (fun c => o.channels[c.val] && decide (s.ink.channels[c].supply ∈ [.dry, .fault])) = true
    then some .failedSupply else none

/-- The attempt with its boundary checks done. -/
def State.atBoundary (s : State) (a : Attempt) (o : Order) : Attempt :=
  { a with ceilingNoted := a.ceilingNoted || (!o.cancelRequested && a.crosses o), pendingOutcome := s.outcomeAtBoundary a o }

theorem overCeiling_eq (a : Attempt) (o : Order) : a.overCeiling o = a.crosses o := by
  unfold Attempt.overCeiling Attempt.crosses
  cases o.ceiling <;> rfl

theorem failsBoundary_iff (x : SupplyState) : x.failsBoundary = decide (x ∈ [SupplyState.dry, .fault]) := by
  cases x <;> rfl

theorem anyChannel_fails (s : State) (o : Order) : s.ink.anyChannel o.channels SupplyState.failsBoundary =
    (List.finRange 12).any fun c => o.channels[c.val] && decide (s.ink.channels[c].supply ∈ [.dry, .fault]) := by
  unfold InkUnit.anyChannel
  simp only [failsBoundary_iff]
  rfl

theorem boundaryOutcome_eq (s : State) {a : Attempt} (o : Order) (none : a.pendingOutcome = none) :
    s.boundaryOutcome a o = s.atBoundary a o := by
  unfold State.boundaryOutcome State.atBoundary State.outcomeAtBoundary
  rw [anyChannel_fails, overCeiling_eq]
  by_cases cancel : o.cancelRequested = true
  · simp [cancel]
  · simp only [cancel, Bool.not_false, Bool.true_and, Bool.and_eq_true, if_false, Bool.false_eq_true]
    split_ifs <;> simp [none]

section
variable {s : State} {a : Attempt} {o : Order}

/-- The state after the boundary checks: COST goes pending when the ceiling is first noted (R168). -/
theorem boundary_fst (slot : s.orders.slots[a.slot] = some o) (none : a.pendingOutcome = none) :
    (s.boundary a).1 = s.raiseIf ((s.atBoundary a o).ceilingNoted && !a.ceilingNoted) .cost := by
  unfold State.boundary
  rw [slot, ← boundaryOutcome_eq s o none]

theorem boundary_snd (slot : s.orders.slots[a.slot] = some o) (none : a.pendingOutcome = none) :
    (s.boundary a).2 = if s.outcomeAtBoundary a o = .none then s.atBoundary a o
      else (s.atBoundary a o).entering a.tailPhase := by
  unfold State.boundary
  rw [slot]
  simp only [boundaryOutcome_eq s o none, Attempt.enterTail_eq]
  rfl

/-! ### Commands of the phases (R50) -/

/-- A phase's command issued from a state whose engine link is that of `s` (R69, R70). -/
theorem issuePhase_issued {v : State} {cmd : EngineCommand} (engine : v.engine = s.engine)
    (h : v.phaseCommand a = some cmd) : (v.issuePhase a).holder = .attempt { a with step := .outstanding } ∧
      (v.issuePhase a).engine = { s.engine with
        nextTag := s.engine.nextTag + 1,
        outstanding := some { command := cmd, tag := s.engine.nextTag, party := .attempt,
                              frame := cmd.frame s.engine.nextTag } } := by
  rw [issuePhase_some h, ← engine]
  exact ⟨rfl, rfl⟩

theorem serveSlot_attempt (quiet : s.quiet = none) (free : s.engine.outstanding = none) (holds : s.holder = .attempt a) :
    s.serveSlot = s.serveAttempt a := by
  rw [serveSlot_of_free quiet free, holds]

theorem serveAttempt_closed (ready : a.step = .ready) (closed : s.engine.coverClosed = true) : s.serveAttempt a =
    if a.phase ∈ [.bands, .strip] then (s.boundary a).1.issuePhase (s.boundary a).2 else s.issuePhase a := by
  simp [State.serveAttempt, ready, closed]

theorem slotLength_some (slot : s.orders.slots[a.slot] = some o) : s.slotLength a.slot = o.printLength := by
  simp only [State.slotLength, slot]

theorem issuePhase_dwell (dwell : a.phase = .dwell) : s.issuePhase a = s.setHolder (.attempt a) := by
  simp only [State.issuePhase, State.phaseCommand, dwell]
  rfl

/-! ### The dwell (R42) -/

theorem dwellSecond_eq (works : Works s) (holds : s.holder = .attempt a) (phase : a.phase = .dwell) (step : a.step = .timing)
    (due : Attempt → Bool) (h : due a = true) : (s.whenWorking fun s => s.dwellSecond due) =
      (s.setHolder (.attempt a.dwellSecond)).serveSlot := by
  have working : s.working = true := by simp [State.working, works.2]
  have attempt : s.attempt? = some a := by simp [State.attempt?, holds]
  simp only [State.whenWorking, working, if_true, State.dwellSecond, attempt, Attempt.dwelling, phase, step, decide_true,
    Bool.true_and, h]
  rfl

theorem run_dwell (works : Works s) (holds : s.holder = .attempt a) (phase : a.phase = .dwell) (step : a.step = .timing)
    (due : Attempt → Bool) (h : due a = true) : ∃ t, (s.run fun s => s.whenWorking fun s => s.dwellSecond due) = .next t ∧
      Served [.holder] s t fun u => u.holder = .attempt a.dwellSecond ∧ u.notices.pending = s.notices.pending := by
  obtain ⟨t, ht, served, -⟩ := run_served s works _ (s.setHolder (.attempt a.dwellSecond)) [.holder]
    (fun u => u.holder = .attempt a.dwellSecond ∧ u.notices.pending = s.notices.pending)
    (dwellSecond_eq works holds phase step due h) ⟨rfl, rfl⟩ (keeps_setHolder _ _).mono
  exact ⟨t, ht, served⟩

end

/-- `a'` with its step OUTSTANDING holds the slot, with this command issued from the engine link of `s` (R50, R69, R70). -/
def IssuesPhase (s t : State) (a' : Attempt) (command : EngineCommand) : Prop :=
  t.holder = .attempt { a' with step := .outstanding } ∧ t.engine = { s.engine with
    nextTag := s.engine.nextTag + 1,
    outstanding := some { command := command, tag := s.engine.nextTag, party := .attempt,
                          frame := command.frame s.engine.nextTag } }

/-- A BAND or STRIP that is due: its boundary checks, and what is issued after them (R54). -/
theorem serveAttempt_checked {s t : State} {a : Attempt} {o : Order} (slot : s.orders.slots[a.slot] = some o)
    (ready : a.step = .ready) (free : a.pendingOutcome = none)
    (served : t = (s.boundary a).1.issuePhase (s.boundary a).2) :
    let outcome := s.outcomeAtBoundary a o
    let a1 := s.atBoundary a o
    t.notices.pending = (if a1.ceilingNoted ∧ a.ceilingNoted = false then s.notices.pending ||| 32#8
      else s.notices.pending) ∧
    (outcome = none → a.phase = .bands → IssuesPhase s t a1 (.band a.reference a.number (a.bandsDone + 1)
      (if a.bandsDone + 1 < a.bandsTotal then a.bandLength
        else o.printLength - (a.bandsTotal - 1) * a.bandLength) a.gains)) ∧
    (outcome = none → a.phase = .strip → IssuesPhase s t a1 (.strip a.reference a.number a.stripMargin a.gains)) ∧
    (outcome ≠ none → 0 < a.tail → IssuesPhase s t { a1 with phase := .tail } (.feed a.tail)) ∧
    (outcome ≠ none → a.tail = 0 → 0 < a.dwell → t.engine = s.engine ∧
      t.holder = .attempt { a1 with phase := .dwell, step := .timing, dwellRemaining := a.dwell }) ∧
    (outcome ≠ none → a.tail = 0 → a.dwell = 0 →
      IssuesPhase s t { a1 with phase := .cut, dwellRemaining := 0 } .cut) := by
  intro outcome a1
  have engine : (s.boundary a).1.engine = s.engine := (keeps_boundary s a).at .engine
  have orders : (s.boundary a).1.orders = s.orders := (keeps_boundary s a).at .orders
  have length : (s.boundary a).1.slotLength a.slot = o.printLength := slotLength_some (by rw [orders, slot])
  have snd : (s.boundary a).2 = if outcome = none then a1 else a1.entering a.tailPhase := boundary_snd slot free
  have issue (a' : Attempt) (ha : (s.boundary a).2 = a') (cmd : EngineCommand)
      (h : (s.boundary a).1.phaseCommand a' = some cmd) : IssuesPhase s t a' cmd := by
    rw [served, ha]
    exact issuePhase_issued engine h
  refine ⟨?_, fun goes bands => ?_, fun goes strip => ?_, fun ends tail => ?_, fun ends tail dwell => ?_,
    fun ends tail dwell => ?_⟩
  · rw [served, (keeps_issuePhase _ _).at .notices, boundary_fst slot free, raiseIf_pending]
    refine if_congr ?_ rfl rfl
    simp [a1]
  · refine issue a1 (by rw [snd, if_pos goes]) _ ?_
    simp only [State.phaseCommand, show a1.phase = .bands from bands, show a1.slot = a.slot from rfl, length]
    rfl
  · refine issue a1 (by rw [snd, if_pos goes]) _ ?_
    simp only [State.phaseCommand, show a1.phase = .strip from strip]
    rfl
  · refine issue _ ?_ _ rfl
    rw [snd, if_neg ends, Attempt.tailPhase, if_pos tail]
    simp [Attempt.entering, State.atBoundary, ready, a1]
  · have enters : (s.boundary a).2 = { a1 with phase := .dwell, step := .timing, dwellRemaining := a.dwell } := by
      rw [snd, if_neg ends, Attempt.tailPhase, if_neg (by omega), Attempt.dwellPhase, if_neg (by omega)]
      rfl
    rw [served, enters, issuePhase_dwell rfl]
    exact ⟨engine, rfl⟩
  · refine issue _ ?_ _ rfl
    rw [snd, if_neg ends, Attempt.tailPhase, if_neg (by omega), Attempt.dwellPhase, if_pos dwell]
    simp [Attempt.entering, State.atBoundary, ready, a1]

/-- Settles O47: each phase's command is `phaseCommand`'s, and the checks are those of `State.atBoundary`. -/
theorem attemptStepsAndDwell : Obligations.AttemptStepsAndDwell := by
  refine ⟨?_, fun s a works holds phase step => ⟨fun more => ?_, fun last => ?_⟩⟩
  · intro s a o quiet free holds slot ready issued t
    have turn : t = s.serveAttempt a := serveSlot_attempt quiet free holds
    refine ⟨fun opened => ?_, fun closed => ?_⟩
    · rw [turn]
      simp [State.serveAttempt, opened]
    · have go (cmd : EngineCommand) (h : s.phaseCommand a = some cmd) (other : a.phase ∉ [.bands, .strip]) :
          issued t a cmd := by
        rw [turn, serveAttempt_closed ready closed, if_neg other]
        exact issuePhase_issued rfl h
      refine ⟨turn ▸ keeps_serveAttempt s a, fun p => go _ (by simp only [State.phaseCommand, p]) (by simp [p]), fun p => ?_,
        fun p => go _ (by simp only [State.phaseCommand, p]) (by simp [p]),
        fun p => go _ (by simp only [State.phaseCommand, p]) (by simp [p]), fun due none => ?_⟩
      · obtain p | p : a.phase = .wasteCut ∨ a.phase = .cut := by simpa using p
        all_goals exact go _ (by simp only [State.phaseCommand, p]) (by simp [p])
      · refine serveAttempt_checked slot ready none ?_
        rw [turn, serveAttempt_closed ready closed, if_pos due]
  · obtain ⟨t, ht, served⟩ := run_dwell works holds phase step (fun _ => true) rfl
    rw [Attempt.dwellSecond, if_pos more] at served
    exact ⟨t, ht, served⟩
  · obtain ⟨t, ht, served⟩ := run_dwell works holds phase step (fun a => decide (a.dwellRemaining ≤ 1)) (decide_eq_true last)
    rw [Attempt.dwellSecond, if_neg (by omega)] at served
    refine ⟨?_, t, ht, served⟩
    show (s.run fun s => s.whenWorking fun s => s.dwellSecond fun _ => true) =
      s.run fun s => s.whenWorking fun s => s.dwellSecond fun a => decide (a.dwellRemaining ≤ 1)
    simp only [State.run, dwellSecond_eq works holds phase step (fun _ => true) rfl,
      dwellSecond_eq works holds phase step (fun a => decide (a.dwellRemaining ≤ 1)) (decide_eq_true last)]

end Sys2Proof.Machine

/-! The draw of ink and the movement of paper, with the re-evaluations they run (R17, R38 to R40, R65, R95, R98). -/

namespace Sys2Proof.Machine

theorem supply_mask : Category.supply.mask = 4#8 := by decide

theorem media_mask : Category.media.mask = 16#8 := by decide

section
variable {other : Category → Prop} {s t u : State}

/-- An operation that leaves all that eligibility reads, and the orders. -/
theorem Follows.of_keeps {l : List Block} (k : Keeps l s u) (link : LinkKept s u) (only : OnlyRaised s u other)
    (media : Block.media ∉ l := by decide) (ink : Block.ink ∉ l := by decide) (colour : Block.colour ∉ l := by decide)
    (editions : Block.editions ∉ l := by decide) (orders : Block.orders ∉ l := by decide) : Follows other s.orders s u :=
  .of_still (.of_keeps k media editions) (.of_keeps k media ink colour) (k.at .orders orders) link only

theorem Follows.congr {base : OrderBlock} (h : Follows other base s t) (k : Follows other t.orders t u)
    (still : Still t u) : Follows other base s u := h.trans k (.of_still_right still)

/-! ### Supply states (R98) -/

theorem supply_set (ink : InkUnit) (c j : Fin 12) (x : Channel) :
    (ink.channels.set c x)[j].supply = if j = c then x.supply else ink.channels[j].supply := by
  by_cases same : j = c
  · simp [same]
  · rw [if_neg same]
    simp [Vector.getElem_set_ne, Fin.val_ne_of_ne (Ne.symm same)]

theorem writeSupply_elsewhere (s : State) {c j : Fin 12} (x : Channel) (h : j ≠ c) :
    (s.writeSupply c x).ink.channels[j].supply = s.ink.channels[j].supply := by
  rw [writeSupply_ink, supply_set, if_neg h]

/-- Only the supply states of the ink supply unit are read. -/
theorem Still.of_ink {l : List Block} (k : Keeps l s u)
    (supply : ∀ c : Fin 12, u.ink.channels[c].supply = s.ink.channels[c].supply)
    (media : Block.media ∉ l := by decide) (colour : Block.colour ∉ l := by decide) : Still s u :=
  ⟨congrArg (·.roll.position) (k.at .media media), supply,
    fun g => congrArg (fun (x : ColourUnit) => x.gainSets[g].map (·.suspended)) (k.at .colour colour)⟩

/-- A channel written with the supply state it has. -/
theorem still_setChannel (s : State) {c : Fin 12} {x : Channel} (same : x.supply = (s.channel c).supply) :
    Still s (s.setChannel c x) := by
  refine .of_ink (keeps_setChannel s c x) fun j => ?_
  rw [setChannel_ink, supply_set]
  split
  · next here => exact here ▸ same
  · rfl

theorem follows_setChannel (s : State) {c : Fin 12} {x : Channel} (same : x.supply = (s.channel c).supply) :
    Follows other s.orders s (s.setChannel c x) :=
  have keeps := keeps_setChannel s c x
  .of_still (.of_keeps keeps) (still_setChannel s same) (keeps.at .orders) (link_setChannel s c x)
    (.of_pending (congrArg NoticeUnit.pending (keeps.at .notices)))

theorem follows_writeSupply (s : State) (c : Fin 12) (x : Channel) : Follows other s.orders s (s.writeSupply c x) := by
  unfold State.writeSupply
  split
  · next same => exact follows_setChannel s same
  · next changed =>
    have keeps : Keeps inkBlocks s ((s.setChannel c x).raise .supply) := (keeps_setChannel s c x).mono.then (keeps_raise _ _)
    have supply : ((s.setChannel c x).raise .supply).ink.channels[c].supply = x.supply := by
      rw [(keeps_raise _ _).at .ink, setChannel_ink, supply_set, if_pos rfl]
    have moved : SupplyMoved s ((s.setChannel c x).raise .supply) := ⟨c, by rw [supply]; exact changed⟩
    have before : (s.setChannel c x).notices = s.notices := (keeps_setChannel s c x).at .notices
    refine .of_reevaluate (.of_keeps keeps) ?_ ((link_setChannel s c x).trans (link_raise _ _)) (.inr (.inl moved))
      (fun _ => ?_) (((OnlyRaised.of_pending (congrArg NoticeUnit.pending before)).trans (onlyRaised_raise _ _)).mono
        fun d hd => .inl ⟨hd, moved⟩)
    · exact ((keeps_raise _ _).at .orders).trans ((keeps_setChannel s c x).at .orders)
    · rw [raise_pending]
      exact raised_bit _ _

/-! ### Channel by channel (R95) -/

/-- Operations on the ink supply unit that each change one channel's supply state do not undo each other. -/
theorem Apart.of_ink (first : Keeps inkBlocks s t)
    (supply : ∀ c : Fin 12, t.ink.channels[c].supply = s.ink.channels[c].supply ∨
      u.ink.channels[c].supply = t.ink.channels[c].supply) : Apart s t u :=
  ⟨.inl (congrArg (·.roll.position) (first.at .media)), supply,
    fun g => .inl (congrArg (fun (x : ColourUnit) => x.gainSets[g].map (·.suspended)) (first.at .colour))⟩

theorem follows_foldl {f : State → Fin 12 → State} (keeps : ∀ s c, Keeps inkBlocks s (f s c))
    (follows : ∀ s c, Follows other s.orders s (f s c))
    (elsewhere : ∀ s c j, j ≠ c → (f s c).ink.channels[j].supply = s.ink.channels[j].supply) (l : List (Fin 12))
    (distinct : l.Nodup) (s : State) : Follows other s.orders s (l.foldl f s) ∧
      ∀ j, j ∉ l → (l.foldl f s).ink.channels[j].supply = s.ink.channels[j].supply := by
  induction l generalizing s with
  | nil =>
    exact ⟨.of_keeps (Keeps.refl [] s) (.refl s) (.of_pending rfl), fun _ _ => rfl⟩
  | cons c l ih =>
    obtain ⟨absent, distinct⟩ := List.nodup_cons.1 distinct
    obtain ⟨rest, others⟩ := ih distinct (f s c)
    refine ⟨(follows s c).trans rest (.of_ink (keeps s c) fun j => ?_), fun j out => ?_⟩
    · by_cases here : j = c
      · exact .inr (others j (here ▸ absent))
      · exact .inl (elsewhere s c j here)
    · rw [List.mem_cons, not_or] at out
      exact (others j out.2).trans (elsewhere s c j out.1)

theorem draw_supply_elsewhere (s : State) (c : Fin 12) (v : Nat) {j : Fin 12} (h : j ≠ c) :
    (s.draw c v).ink.channels[j].supply = s.ink.channels[j].supply := by
  obtain rfl | some := Nat.eq_zero_or_pos v
  · rfl
  · rw [draw_channel_elsewhere s c v some j h]

/-- The estimates that a draw moves leave the supply states to its evaluation. -/
theorem follows_draw (s : State) (c : Fin 12) (v : Nat) : Follows other s.orders s (s.draw c v) := by
  obtain rfl | some := Nat.eq_zero_or_pos v
  · exact .of_keeps (Keeps.refl [] s) (.refl s) (.of_pending rfl)
  · have keeps := keeps_drawn s c v
    have still : Still s (s.drawn c v) := by
      refine .of_ink keeps fun j => ?_
      rw [drawn_ink, supply_set]
      split
      · next here => exact here ▸ rfl
      · rfl
    have estimates : Follows other s.orders s (s.drawn c v) :=
      .of_still (.of_keeps keeps) still (keeps.at .orders) (link_drawn s c v)
        (.of_pending (congrArg NoticeUnit.pending (keeps.at .notices)))
    rw [draw_eq_writeSupply s c v some]
    exact estimates.trans (follows_writeSupply _ _ _) (.of_still_left still)

theorem follows_drawAll (s : State) (v : Vector Nat 12) : Follows other s.orders s (s.drawAll v) :=
  (follows_foldl (fun s c => keeps_draw s c _) (fun s c => follows_draw s c _) (fun s c _ h => draw_supply_elsewhere s c _ h)
    _ (List.nodup_finRange 12) s).1

theorem drawAll_ink (s : State) {v : Vector Nat 12} {f : Fin 12 → Nat} (h : ∀ c : Fin 12, v[c] = f c) :
    (s.drawAll v).ink = s.inkDrawn f := by
  simp only [State.drawAll, State.inkDrawn, h]

/-! ### Paper (R38 to R40) -/

/-- The roll with its position moved, before the re-evaluation. -/
def State.rolled (s : State) (q : Nat) (order : Option Word32) : State :=
  let v := s.setRoll { s.media.roll with position := min (s.media.roll.length * 40) (s.media.roll.position + q) }
  if s.reachesEnd q then v.noteMedia .rollEnd order else v

theorem advancePosition_eq (s : State) (q : Nat) (order : Option Word32) : s.advancePosition q order =
    if s.media.roll.declared ∧ min (s.media.roll.length * 40) (s.media.roll.position + q) ≠ s.media.roll.position then
      (s.rolled q order).reevaluate
    else s := by
  unfold State.advancePosition State.rolled
  by_cases declared : s.media.roll.declared = true
  · by_cases moved : min (s.media.roll.length * 40) (s.media.roll.position + q) = s.media.roll.position
    · simp [declared, moved]
    · have ends : s.reachesEnd q = decide (min (s.media.roll.length * 40) (s.media.roll.position + q) =
          s.media.roll.length * 40 ∧ s.media.roll.position < s.media.roll.length * 40) := by
        unfold State.reachesEnd
        rw [declared, Bool.true_and, ← Bool.decide_and, decide_eq_decide]
        omega
      simp only [declared, moved, ends, if_true, ne_eq, not_false_iff, and_self, decide_eq_true_eq, if_false]
  · simp [declared]

/-- A roll that does not move is not brought to its end. -/
theorem reachesEnd_of_still {q : Nat} (h : ¬(s.media.roll.declared ∧
    min (s.media.roll.length * 40) (s.media.roll.position + q) ≠ s.media.roll.position)) : s.reachesEnd q = false := by
  by_cases declared : s.media.roll.declared = true
  · have stays : min (s.media.roll.length * 40) (s.media.roll.position + q) = s.media.roll.position := by
      simpa [declared] using h
    unfold State.reachesEnd
    rw [declared, Bool.true_and, ← Bool.decide_and, decide_eq_false_iff_not]
    omega
  · simp [State.reachesEnd, declared]

theorem noteMedia_pending (s : State) (e : MediaEvent) (order : Option Word32) :
    (s.noteMedia e order).notices.pending = s.notices.pending ||| 16#8 := by
  rw [← media_mask]
  exact raise_pending _ _

theorem onlyRaised_noteMedia (s : State) (e : MediaEvent) (order : Option Word32) :
    OnlyRaised s (s.noteMedia e order) (· = .media) :=
  (OnlyRaised.of_pending (u := s.setMedia { s.media with condition := some { event := e, clock := s.clock, order := order } })
    rfl).trans (onlyRaised_raise _ _)

theorem noteMedia_media (s : State) (e : MediaEvent) (order : Option Word32) : (s.noteMedia e order).media =
    { s.media with condition := some { event := e, clock := s.orders.clock, order := order } } :=
  (keeps_raise _ _).at .media

theorem keeps_rolled (s : State) (q : Nat) (order : Option Word32) :
    Keeps [.media, .store, .notices, .server] s (s.rolled q order) :=
  keeps_ite _ ((keeps_setRoll _ _).mono.then (keeps_noteMedia _ _ _)) (keeps_setRoll _ _).mono

theorem rolled_media (s : State) (q : Nat) (order : Option Word32) (declared : s.media.roll.declared = true) :
    (s.rolled q order).media = s.mediaMoved false 0 q order := by
  unfold State.rolled State.mediaMoved
  simp only [declared, if_true, Bool.false_and, Bool.false_eq_true, if_false]
  cases s.reachesEnd q with
  | false => exact setRoll_media _ _
  | true =>
    have orders (r : Roll) : (s.setRoll r).orders = s.orders := (keeps_setRoll s r).at .orders
    simp only [if_true, noteMedia_media, setRoll_media, orders]

theorem rolled_pending (s : State) (q : Nat) (order : Option Word32) (ends : s.reachesEnd q = true) :
    (s.rolled q order).notices.pending &&& 16#8 = 16#8 := by
  unfold State.rolled
  rw [if_pos ends, noteMedia_pending]
  exact raised_bit _ _

theorem onlyRaised_rolled (s : State) (q : Nat) (order : Option Word32) :
    OnlyRaised s (s.rolled q order) fun c => s.reachesEnd q = true ∧ c = .media := by
  have roll : OnlyRaised s (s.setRoll { s.media.roll with
      position := min (s.media.roll.length * 40) (s.media.roll.position + q) })
      fun c => s.reachesEnd q = true ∧ c = .media :=
    .of_pending (congrArg NoticeUnit.pending ((keeps_setRoll s _).at .notices))
  unfold State.rolled
  split
  · next ends => exact roll.trans ((onlyRaised_noteMedia _ _ _).mono fun c hc => ⟨ends, hc⟩)
  · exact roll

theorem link_rolled (s : State) (q : Nat) (order : Option Word32) : LinkKept s (s.rolled q order) := by
  unfold State.rolled
  split
  · exact (link_setRoll _ _).trans (link_noteMedia _ _ _)
  · exact link_setRoll _ _

/-- A paper movement whose position is not checked against a command (R38). -/
theorem paper_advancePosition (s : State) (q : Nat) (order : Option Word32) :
    PaperMoved s (s.advancePosition q order) false 0 q order ∧
      Follows (fun c => s.reachesEnd q = true ∧ c = .media) s.orders s (s.advancePosition q order) := by
  rw [advancePosition_eq]
  split
  · next moves =>
    have declared : s.media.roll.declared = true := moves.1
    have media := rolled_media s q order declared
    have again := keeps_reevaluate (s.rolled q order)
    refine ⟨⟨(again.at .media).trans media, fun ends => ?_⟩, ?_⟩
    · exact (link_reevaluate _).stays (rolled_pending s q order (by simpa using ends))
    · have keeps := keeps_rolled s q order
      have position : (s.rolled q order).media.roll.position = min (s.media.roll.length * 40) (s.media.roll.position + q) := by
        rw [media]
        simp [State.mediaMoved, declared]
      refine Follows.of_reevaluate (t := s.rolled q order) ⟨?_, ?_, keeps.at .editions⟩ (keeps.at .orders) (link_rolled s q order) (.inl ?_)
        (fun moved => ?_) ((onlyRaised_rolled s q order).mono fun c hc => .inr hc)
      · rw [media]
        rfl
      · rw [media]
        simp [State.mediaMoved, declared, Roll.site]
      · rw [position]
        exact moves.2
      · obtain ⟨c, moved⟩ := moved
        rw [keeps.at .ink] at moved
        exact absurd rfl moved
  · next stays =>
    have ends := reachesEnd_of_still stays
    refine ⟨⟨?_, fun ends' => ?_⟩, .of_keeps (Keeps.refl [] s) (.refl s) (.of_pending rfl)⟩
    · unfold State.mediaMoved
      simp only [ends, Bool.false_and, Bool.false_eq_true, if_false]
      split
      · next declared =>
        have same : min (s.media.roll.length * 40) (s.media.roll.position + q) = s.media.roll.position := by
          simpa [declared] using stays
        rw [same]
      · rfl
    · simp [ends] at ends'

theorem checkSlip_eq (s : State) (n q : Nat) (order : Option Word32) : s.checkSlip n q order =
    if s.isSlip n q then (s.noteMedia (.slip (decide (n * 40 < q)) (n * 40) q) order, true) else (s, false) := rfl

/-- The orders' clock does not move with them. -/
theorem OrdersFollow.clock {base : OrderBlock} (h : OrdersFollow base s u) : u.orders.clock = base.clock := by
  obtain ⟨moved, stays, -⟩ := h
  by_cases k : EligibilityMoved s u
  · rw [(moved k).1]
  · rw [stays k]

theorem FollowRaises.imp {might : Category → Prop} {c : Category} (h : FollowRaises other s u c)
    (imp : ∀ d, other d → might d) : FollowRaises might s u c := by
  obtain order | supply | rest := h
  · exact .inl order
  · exact .inr (.inl supply)
  · exact .inr (.inr (imp c rest))

theorem Follows.mono {base : OrderBlock} {might : Category → Prop} (h : Follows other base s u)
    (imp : ∀ c, other c → might c) : Follows might base s u :=
  ⟨h.place, h.orders, h.link, h.only.mono fun _ raised => raised.imp imp⟩

/-- A media condition noted where the paper stands. -/
theorem follows_noteMedia (s : State) (e : MediaEvent) (order : Option Word32) :
    Follows (· = .media) s.orders s (s.noteMedia e order) := by
  have keeps := keeps_noteMedia s e order
  have media := noteMedia_media s e order
  refine .of_still ⟨?_, ?_, keeps.at .editions⟩ ⟨?_, fun c => ?_, fun g => ?_⟩ (keeps.at .orders) (link_noteMedia _ _ _)
    (onlyRaised_noteMedia _ _ _)
  · rw [media]
  · rw [media]
  · rw [media]
  · rw [keeps.at .ink]
  · rw [keeps.at .colour]

theorem still_noteMedia (s : State) (e : MediaEvent) (order : Option Word32) : Still s (s.noteMedia e order) := by
  have keeps := keeps_noteMedia s e order
  refine ⟨?_, fun c => ?_, fun g => ?_⟩
  · rw [noteMedia_media]
  · rw [keeps.at .ink]
  · rw [keeps.at .colour]

/-- A paper movement with the slip test of a command of `n` mm (R38 to R40). -/
theorem paper_checkSlip (s : State) (n q : Nat) (order : Option Word32) :
    let r := (s.advancePosition q order).checkSlip n q order
    PaperMoved s r.1 true n q order ∧ Follows (· = .media) s.orders s r.1 ∧ r.2 = s.isSlip n q := by
  obtain ⟨⟨media, noted⟩, follows⟩ := paper_advancePosition s q order
  generalize s.advancePosition q order = v at media noted follows
  have follows : Follows (· = .media) s.orders s v := follows.mono fun _ h => h.2
  have clock : v.orders.clock = s.orders.clock := follows.orders.clock
  have slip : v.isSlip n q = s.isSlip n q := by
    have declared : v.media.roll.declared = s.media.roll.declared := (congrArg Roll.declared follows.place.site :)
    simp only [State.isSlip, declared]
  intro r
  have split : r = if s.isSlip n q then (v.noteMedia (.slip (decide (n * 40 < q)) (n * 40) q) order, true)
      else (v, false) := by
    rw [← slip]
    exact checkSlip_eq _ _ _ _
  rw [split]
  cases slips : s.isSlip n q with
  | false =>
    refine ⟨⟨?_, fun ends => noted (by simpa [slips] using ends)⟩, follows, rfl⟩
    rw [if_neg Bool.false_ne_true, media]
    simp [State.mediaMoved, slips]
  | true =>
    rw [if_pos rfl]
    refine ⟨⟨?_, fun _ => ?_⟩, follows.congr (follows_noteMedia _ _ _) (still_noteMedia _ _ _), rfl⟩
    · rw [noteMedia_media, media, clock]
      simp [State.mediaMoved, slips]
    · rw [noteMedia_pending]
      exact raised_bit _ _

/-! ### The uncut marker (R65) -/

theorem markUncut_uncut (s : State) (q : Nat) : (s.markUncut q).uncut = (s.uncut || decide (0 < q)) := by
  unfold State.markUncut
  split
  · next moved =>
    rw [decide_eq_true moved, Bool.or_true]
    exact (keeps_markDirtyIf _ _).at .uncut
  · next none => simp [none]

theorem follows_markUncut (s : State) (q : Nat) : Follows other s.orders s (s.markUncut q) :=
  .of_keeps (keeps_markUncut s q) (link_markUncut s q)
    (.of_pending (congrArg NoticeUnit.pending ((keeps_markUncut s q).at .notices)))

end

end Sys2Proof.Machine

/-! What every correct report leaves, and the reports of a trim, a clear-out and a cleaning (O42; R37 to R40, R44, R45, R72
class 3, R79, R112, R171 to R173). -/

namespace Sys2Proof.Machine

/-! ### Whether the store is marked on the way -/

/-- The store's flag alone may have been set. -/
def MayMark (s u : State) : Prop := ∃ b, Marks b s u

theorem Marks.mayMark {b : Bool} {s u : State} (h : Marks b s u) : MayMark s u := ⟨b, h⟩

theorem MayMark.trans {s t u : State} (h : MayMark s t) (k : MayMark t u) : MayMark s u := by
  obtain ⟨a, first⟩ := h
  obtain ⟨b, second⟩ := k
  exact ⟨a || b, first.trans second⟩

theorem MayMark.marks {s t u : State} (h : MayMark s t) (k : Marks true t u) : Marks true s u := by
  obtain ⟨a, first⟩ := h
  exact (first.trans k).congr (Bool.or_true a)

theorem MayMark.foldl {α : Type} {f : State → α → State} (h : ∀ s a, MayMark s (f s a)) (l : List α) (s : State) :
    MayMark s (l.foldl f s) := by
  induction l generalizing s with
  | nil => exact (Marks.of_store_eq rfl).mayMark
  | cons a l ih => exact (h s a).trans (ih (f s a))

theorem marks_setBay (s : State) (b : Fin 24) (x : Bay) : Marks (decide (x ≠ s.ink.bays[b])) s (s.setBay b x) :=
  Marks.after (keeps_setInk s _) (marks_markDirtyIf _ _)

theorem mayMark_draw (s : State) (c : Fin 12) (n : Nat) : MayMark s (s.draw c n) := by
  obtain rfl | some := Nat.eq_zero_or_pos n
  · exact (Marks.of_store_eq rfl).mayMark
  · rw [draw_eq_writeSupply s c n some]
    exact (((marks_setBay _ _ _).trans (marks_setBay _ _ _)).trans (marks_setChannel _ _ _)).mayMark.trans
      (marks_writeSupply _ _ _).mayMark

theorem mayMark_drawAll (s : State) (v : Vector Nat 12) : MayMark s (s.drawAll v) :=
  .foldl (fun s c => mayMark_draw s c _) _ s

/-! ### Categories that an operation may raise -/

theorem LinkKept.onlyRaised {s u : State} (h : LinkKept s u) : OnlyRaised s u fun _ => True := by
  intro c
  refine ⟨fun raised => ?_, fun _ => .inr trivial⟩
  have kept := congrArg (fun p => c.isIn p) h.pending
  simpa [Category.isIn, BitVec.getLsbD_and, show s.notices.pending.getLsbD _ = true from raised] using kept

/-- An operation on none of what the orders follow. -/
theorem Follows.then {base : OrderBlock} {s t u : State} {l : List Block} (h : Follows (fun _ => True) base s t)
    (k : Keeps l t u) (link : LinkKept t u) (media : Block.media ∉ l := by decide) (ink : Block.ink ∉ l := by decide)
    (colour : Block.colour ∉ l := by decide) (editions : Block.editions ∉ l := by decide)
    (orders : Block.orders ∉ l := by decide) : Follows (fun _ => True) base s u :=
  h.congr (.of_keeps k link link.onlyRaised media ink colour editions orders) (.of_keeps k media ink colour)

/-! ### Ink drawn from the same supply (R95) -/

theorem settledSupply_congr {s v : State} (h : v.ink = s.ink) (c : Fin 12) : v.settledSupply c = s.settledSupply c := by
  obtain ⟨⟩ := v
  obtain rfl := h
  rfl

theorem drawn_ink_congr {s v : State} (h : v.ink = s.ink) (c : Fin 12) (n : Nat) : (v.drawn c n).ink = (s.drawn c n).ink := by
  rw [drawn_ink, drawn_ink]
  obtain ⟨⟩ := v
  obtain rfl := h
  rfl

theorem draw_ink_congr {s v : State} (h : v.ink = s.ink) (c : Fin 12) (n : Nat) : (v.draw c n).ink = (s.draw c n).ink := by
  obtain rfl | some := Nat.eq_zero_or_pos n
  · exact h
  · have drawn := drawn_ink_congr h c n
    have channel : v.drawnChannel c n = s.drawnChannel c n := by
      rw [← drawn_channel, ← drawn_channel, State.channel, State.channel, drawn]
    have supply : v.drawnSupply c n = s.drawnSupply c n := settledSupply_congr drawn c
    rw [draw_ink v c n some, draw_ink s c n some, drawn, channel, supply, h]

theorem inkDrawn_congr {s v : State} (h : v.ink = s.ink) (f : Fin 12 → Nat) : v.inkDrawn f = s.inkDrawn f := by
  unfold State.inkDrawn
  generalize List.finRange 12 = l
  induction l generalizing s v with
  | nil => exact h
  | cons c l ih => exact ih (draw_ink_congr h c (f c))

/-! ### The error that a correct report forgives (R72 class 3, R81) -/

/-- What freeing the slot and forgiving one error leaves. -/
structure Forgives (s v : State) : Prop where
  keeps : Keeps [.engine, .notices, .server] s v
  forgiven : Forgiven s v
  link : LinkKept s v
  only : OnlyRaised s v fun c => c = .engine ∧ v.engine.state ≠ s.engine.state

theorem forgives_of_counted {s : State} (counted : EngineCounted s) : Forgives s s.freeSlot.forgiveError := by
  have split := freeSlot_forgiveError counted
  have engine : s.freeSlot.forgiveError.engine = s.engine.forgiven := split ▸ (keeps_raiseIf _ _ _).at .engine
  refine ⟨split ▸ (keeps_setEngine s _).mono.then (keeps_raiseIf _ _ _), forgiven_of_counted s counted,
    split ▸ (link_setEngine _ _).trans (link_raiseIf _ _ _), ?_⟩
  rw [engine, split]
  refine (OnlyRaised.of_pending (u := s.setEngine s.engine.forgiven) rfl).trans ((onlyRaised_raiseIf _ _ _).mono ?_)
  rintro c ⟨moved, rfl⟩
  exact ⟨rfl, of_decide_eq_true moved⟩

section
variable {s u v : State}

theorem Forgives.stays {l : List Block} (f : Forgives s v) (k : Keeps l v u) (link : LinkKept v u)
    (engine : Block.engine ∉ l := by decide) : Forgiven s u := by
  obtain ⟨record, noted⟩ := f.forgiven
  have same : u.engine = v.engine := k.at .engine engine
  exact ⟨same.trans record, fun moved => link.stays (noted (same ▸ moved))⟩

/-- The categories that may go pending with a correct report, beside those of the orders and supply states. -/
def ForgivenOr (s v : State) (other : Category → Prop) (c : Category) : Prop :=
  (c = .engine ∧ v.engine.state ≠ s.engine.state) ∨ other c

theorem Forgives.follows {other : Category → Prop} (f : Forgives s v) (h : Follows other v.orders v u) :
    Follows (ForgivenOr s v other) s.orders s u := by
  have first : Follows (ForgivenOr s v other) s.orders s v :=
    .of_keeps f.keeps f.link (f.only.mono fun _ => .inl)
  exact first.trans (h.mono fun _ => .inr) (.of_still_left (.of_keeps f.keeps))

theorem PaperMoved.before {slip : Bool} {n q : Nat} {order : Option Word32} {l : List Block} (k : Keeps l s v)
    (h : PaperMoved v u slip n q order) (media : Block.media ∉ l := by decide) (orders : Block.orders ∉ l := by decide) :
    PaperMoved s u slip n q order := by
  unfold PaperMoved State.mediaMoved State.reachesEnd State.isSlip at h ⊢
  rw [k.at .media media, k.at .orders orders] at h
  exact h

theorem PaperMoved.then {slip : Bool} {n q : Nat} {order : Option Word32} {l : List Block} (h : PaperMoved s v slip n q order)
    (k : Keeps l v u) (link : LinkKept v u) (media : Block.media ∉ l := by decide) : PaperMoved s u slip n q order := by
  obtain ⟨record, noted⟩ := h
  exact ⟨(k.at .media media).trans record, fun ends => link.stays (noted ends)⟩

theorem CostNoted.after (h : CostNoted v u) (costs : v.costs = s.costs) : CostNoted s u := by
  rintro ⟨i, clear, set⟩
  exact h ⟨i, by rw [costs]; exact clear, set⟩

theorem CostNoted.then {l : List Block} (h : CostNoted s v) (k : Keeps l v u) (link : LinkKept v u)
    (costs : Block.costs ∉ l := by decide) : CostNoted s u := by
  rintro ⟨i, clear, set⟩
  rw [k.at .costs costs] at set
  exact link.stays (h ⟨i, clear, set⟩)

variable {c : Instr} {tag : Byte} {r : Report} {cmd : EngineCommand} {party : Party}

/-- A correct report, by what its delivery leaves before the slot's turn. -/
theorem report_served (hc : reportOf c = some (tag, r)) (h : Awaits s cmd party tag) (answers : r.answers cmd = true)
    (delivered : s.freeSlot.forgiveError.deliver cmd party r = u) {changed : List Block} {P : State → Prop} (hp : P u)
    (hk : Keeps (changed ++ linkBlocks) s u) (out : (!changed.contains .quiet) = true := by decide) :
    ∃ t, exec c s = .next t ∧ Served changed s t P := by
  obtain ⟨t, ht, served, -⟩ := run_served s h.1 (fun _ => (s.freeSlot.forgiveError.deliver cmd party r).serveSlot) u changed P
    (by rw [delivered]) hp hk out
  exact ⟨t, (exec_correct hc h answers).trans ht, served⟩

theorem report_marks (hc : reportOf c = some (tag, r)) (h : Awaits s cmd party tag) (answers : r.answers cmd = true)
    (delivered : s.freeSlot.forgiveError.deliver cmd party r = u) {changed : List Block} {P : State → Prop} (hp : P u)
    (hk : Keeps (changed ++ linkBlocks) s u) {b : Bool} (marks : Marks b s u)
    (out : (!changed.contains .quiet) = true := by decide) :
    ∃ t, exec c s = .next t ∧ Served changed s t P ∧ MarkedIf (b = true) s t := by
  obtain ⟨t, ht, served⟩ := run_serves s h.1 (fun _ => (s.freeSlot.forgiveError.deliver cmd party r).serveSlot) u changed P
    (by rw [delivered]) hp hk marks out
  exact ⟨t, (exec_correct hc h answers).trans ht, served⟩

theorem marks_post (s : State) (i : Fin 64) (p : Posting) : Marks true s (s.post i p) := by
  unfold Marks
  rw [post_store, Bool.or_true]

/-! ### Delivery to a task (R44, R45) -/

theorem deliver_trim {k : Task} (holds : v.holder = .trim k) (cmd : EngineCommand) (r : Report) :
    v.deliver cmd .trim r = v.taskReport k cmd true r := by
  unfold State.deliver
  rw [holds]

theorem deliver_clearOut {k : Task} (holds : v.holder = .clearOut k) (cmd : EngineCommand) (r : Report) :
    v.deliver cmd .clearOut r = v.taskReport k cmd false r := by
  unfold State.deliver
  rw [holds]

theorem deliver_cleaning {levels : Vector Nat 12} (holds : v.holder = .cleaning levels) (cmd : EngineCommand) (r : Report) :
    v.deliver cmd .cleaning r = v.cleanDone levels := by
  unfold State.deliver
  rw [holds]

/-- A FEED_DONE of a task, after the error it forgives. -/
theorem task_fed (f : Forgives s v) (k : Task) (n q : Nat) (trim : Bool) :
    let u := v.taskFed k (.feed n) q trim
    Keeps ([.engine, .holder, .media, .orders] ++ linkBlocks) s u ∧
      u.holder = (if trim then .trim { k with feedOver := true, pulses := some q }
        else .clearOut { k with feedOver := true, pulses := some q }) ∧
      Forgiven s u ∧ PaperMoved s u true n q none ∧ OrdersFollow s.orders s u := by
  intro u
  obtain ⟨paper, follows, -⟩ := paper_checkSlip v n q none
  have keeps : Keeps [.media, .store, .orders, .notices, .server] v ((v.advancePosition q none).checkSlip n q none).1 :=
    (keeps_advancePosition v q none).mono.then (keeps_checkSlip _ _ _ _)
  have hu : u = ((v.advancePosition q none).checkSlip n q none).1.setHolder
      (if trim then .trim { k with feedOver := true, pulses := some q }
        else .clearOut { k with feedOver := true, pulses := some q }) := rfl
  generalize ((v.advancePosition q none).checkSlip n q none).1 = w at paper follows keeps hu
  have last := keeps_setHolder w (if trim then .trim { k with feedOver := true, pulses := some q }
        else .clearOut { k with feedOver := true, pulses := some q })
  have link : LinkKept w u := hu ▸ link_setHolder _ _
  rw [← hu] at last
  have follows' : Follows (· = .media) v.orders v u :=
    follows.congr (.of_keeps last link (.of_pending (congrArg NoticeUnit.pending (last.at .notices)))) (.of_keeps last)
  exact ⟨(f.keeps.mono.trans keeps.mono).then last, hu ▸ rfl, f.stays (keeps.mono.then last :
      Keeps [.media, .store, .orders, .notices, .server, .holder] v u) (follows.link.trans link),
    (paper.before f.keeps).then last link, (f.follows follows').orders⟩

/-- The measured millimetres of a task, 0 when its FEED was not measured. -/
def Task.measured (k : Task) : Nat := match k.pulses with | some p => (p + 20) / 40 | none => 0

theorem Task.measured_eq (k : Task) : pulsesToMm (k.pulses.getD 0) = k.measured := by
  unfold Task.measured
  cases k.pulses <;> rfl

/-- The posting at a task's CUT_DONE (R171, R172). -/
def State.taskPosting (s : State) (k : Task) : Posting :=
  { media := (k.measured * s.costs.prices.media[s.media.roll.mediaKind] + 500) / 1000, cut := s.costs.prices.cut }

theorem postTask_cut (s : State) (k : Task) : s.postTask k.pulses true = s.post 0 (s.taskPosting k) := by
  unfold State.postTask
  rw [k.measured_eq]
  rfl

/-- The task has ended with its posting, and one error is forgiven. -/
def TaskEnded (s u : State) (k : Task) : Prop :=
  u.holder = .idle ∧ Forgiven s u ∧ CostNoted s u ∧
    u.costs = { s.costs with accounts := s.costs.accounts.set 0 (s.costs.accounts[(0 : Fin 64)].posted (s.taskPosting k)) }

/-- What a task's CUT_DONE leaves, after the error it forgives; `w` is `v` with a clear-out's flag settled. -/
theorem task_cut {w : State} {k : Task} {b : Bool} (f : Forgives s v) (keeps : Keeps [.media, .store] v w)
    (link : LinkKept v w) (kind : w.media.roll.mediaKind = s.media.roll.mediaKind) (marks : Marks b v w) :
    let u := (w.postTask k.pulses true).setHolder .idle
    TaskEnded s u k ∧ Keeps [.costs, .store, .notices, .server, .holder] w u ∧ Marks true s u := by
  intro u
  have costs : w.costs = s.costs := (keeps.at .costs).trans (f.keeps.at .costs)
  have posting : w.taskPosting k = s.taskPosting k := by
    simp only [State.taskPosting, kind, costs]
  have hu : u = (w.post 0 (s.taskPosting k)).setHolder .idle := by rw [← posting, ← postTask_cut]
  have post : Keeps [.costs, .store, .notices, .server] w (w.post 0 (s.taskPosting k)) := keeps_post _ _ _
  have last : Keeps [.holder] (w.post 0 (s.taskPosting k)) u := hu ▸ keeps_setHolder _ _
  have linkPost : LinkKept w (w.post 0 (s.taskPosting k)) := link_post _ _ _
  have linkLast : LinkKept (w.post 0 (s.taskPosting k)) u := hu ▸ link_setHolder _ _
  refine ⟨⟨rfl, f.stays ((keeps.mono.trans post.mono).then last :
      Keeps [.media, .store, .costs, .notices, .server, .holder] v u) ((link.trans linkPost).trans linkLast),
    ((costNoted_post w 0 (s.taskPosting k)).after costs).then last linkLast, ?_⟩, post.mono.then last, ?_⟩
  · rw [(last.at .costs), post_costs, costs]
    rfl
  · exact ((((Marks.after f.keeps marks).trans (marks_post w 0 (s.taskPosting k))).then last).congr (Bool.or_true b))

/-! ### Cleaning (R79, R112, R173) -/

/-- These volumes have been drawn by a CLEAN and posted to account 1, the slot is idle, and one error is forgiven. -/
def Cleaned (s u : State) (nl : Fin 12 → Nat) : Prop :=
  u.holder = .idle ∧ Forgiven s u ∧ OrdersFollow s.orders s u ∧ CostNoted s u ∧ u.ink = s.inkDrawn (fun c => nl c * 10000) ∧
    u.costs = { s.costs with accounts := s.costs.accounts.set 1 (s.costs.accounts[(1 : Fin 64)].posted
      { ink := ((List.finRange 12).map fun c => (nl c * s.costs.prices.ink[c] + 500000) / 1000000).sum }) }

theorem postCleaning_eq (s : State) (f : Fin 12 → Nat) : s.postCleaning (Vector.ofFn f) =
    s.post 1 { ink := ((List.finRange 12).map fun c => (f c * s.costs.prices.ink[c] + 500000) / 1000000).sum } := by
  unfold State.postCleaning
  simp only [Fin.getElem_fin, Vector.getElem_ofFn]
  rfl

theorem clean_done (f : Forgives s v) (levels : Vector Nat 12) :
    let u := v.cleanDone levels
    Cleaned s u (fun c => cleaningVolume levels[c]) ∧
      Keeps ([.engine, .holder, .ink, .orders, .costs] ++ linkBlocks) s u ∧ Marks true s u := by
  intro u
  have split : u = ((v.drawAll (Vector.ofFn fun c => cleaningVolume levels[c] * 10000)).postCleaning
      (Vector.ofFn fun c => cleaningVolume levels[c])).setHolder .idle := by
    show ((v.drawAll (Vector.ofFn fun c => (Vector.ofFn fun c => cleaningVolume levels[c])[c] * 10000)).postCleaning _).setHolder
      .idle = _
    simp only [Fin.getElem_fin, Vector.getElem_ofFn]
  have ink := drawAll_ink v (v := Vector.ofFn fun c => cleaningVolume levels[c] * 10000)
    (f := fun c => cleaningVolume levels[c] * 10000) (by simp)
  have drawn := follows_drawAll (other := fun _ => False) v (Vector.ofFn fun c => cleaningVolume levels[c] * 10000)
  have keepsDraw := keeps_drawAll v (Vector.ofFn fun c => cleaningVolume levels[c] * 10000)
  have marked := mayMark_drawAll v (Vector.ofFn fun c => cleaningVolume levels[c] * 10000)
  generalize v.drawAll (Vector.ofFn fun c => cleaningVolume levels[c] * 10000) = w at split ink drawn keepsDraw marked
  have costs : w.costs = s.costs := (keepsDraw.at .costs).trans (f.keeps.at .costs)
  rw [postCleaning_eq, costs] at split
  generalize hp : ({ ink := ((List.finRange 12).map fun c =>
    (cleaningVolume levels[c] * s.costs.prices.ink[c] + 500000) / 1000000).sum } : Posting) = p at split
  have keepsPost : Keeps [.costs, .store, .notices, .server] w (w.post 1 p) := keeps_post _ _ _
  have last : Keeps [.holder] (w.post 1 p) u := split ▸ keeps_setHolder _ _
  have link : LinkKept w u := split ▸ (link_post w 1 p).trans (link_setHolder _ _)
  have both : Keeps [.costs, .store, .notices, .server, .holder] w u := keepsPost.mono.then last
  refine ⟨⟨split ▸ rfl, f.stays (keepsDraw.mono.trans both.mono : Keeps [.ink, .store, .orders, .notices, .server, .costs,
      .holder] v u) (drawn.link.trans link), ?_, ((costNoted_post w 1 p).after costs).then last (split ▸ link_setHolder _ _),
    ?_, ?_⟩, (f.keeps.mono.trans keepsDraw.mono).trans both.mono, ?_⟩
  · exact (((f.follows drawn).mono fun _ _ => trivial).then both link).orders
  · exact (both.at .ink).trans (ink.trans (inkDrawn_congr (f.keeps.at .ink) _))
  · rw [last.at .costs, post_costs, costs, ← hp]
    rfl
  · exact (((Marks.of_keeps f.keeps).mayMark.trans marked).marks (marks_post w 1 p)).then last

end

/-! ### The statement of tasks -/

/-- A level that a CLEAN can carry, in nL (R110). -/
theorem cleaningVolume_eq {n : Nat} (h : n ≤ 3) : cleaningVolume n =
    if n = 0 then 0 else if n = 1 then 80000 else if n = 2 then 250000 else 900000 := by
  interval_cases n <;> rfl

/-- Settles O42: the FEED_DONE by `task_fed`, the CUT_DONE by `task_cut`, the CLEAN_DONE by the draw and the posting. -/
theorem taskReportsEndTasks : Obligations.TaskReportsEndTasks := by
  refine ⟨fun s tag pulses n k counted => ⟨fun holds awaits => ?_, fun holds awaits => ?_⟩,
    fun s tag k counted => ⟨fun holds awaits => ?_, fun holds awaits => ?_⟩, ?_⟩
  · have f := forgives_of_counted counted
    obtain ⟨keeps, done⟩ := task_fed f k n pulses.toNat true
    exact report_served (r := .feedDone pulses.toNat) rfl awaits rfl
      (deliver_trim ((f.keeps.at .holder).trans holds) _ _) done keeps
  · have f := forgives_of_counted counted
    obtain ⟨keeps, done⟩ := task_fed f k n pulses.toNat false
    exact report_served (r := .feedDone pulses.toNat) rfl awaits rfl
      (deliver_clearOut ((f.keeps.at .holder).trans holds) _ _) done keeps
  · have f := forgives_of_counted counted
    have here : s.freeSlot.forgiveError.media = s.media := f.keeps.at .media
    obtain ⟨done, keeps, marks⟩ := task_cut (k := k) f (Keeps.refl _ _) (.refl _) (by rw [here])
      (Marks.of_store_eq rfl)
    obtain ⟨t, ht, served, marked⟩ := report_marks (c := .cutDone tag) rfl awaits rfl
      (deliver_trim ((f.keeps.at .holder).trans holds) .cut .cutDone) (changed := [.engine, .holder, .costs])
      (P := fun u => TaskEnded s u k) done (f.keeps.mono.trans keeps.mono) marks
    exact ⟨t, ht, marked.1 rfl, served⟩
  · have f := forgives_of_counted counted
    have here : s.freeSlot.forgiveError.media = s.media := f.keeps.at .media
    generalize hv : s.freeSlot.forgiveError = v at f here
    have roll := marks_setRoll v { v.media.roll with clearOutPending := false }
    have media := setRoll_media v { v.media.roll with clearOutPending := false }
    have keepsRoll := keeps_setRoll v { v.media.roll with clearOutPending := false }
    have linkRoll := link_setRoll v { v.media.roll with clearOutPending := false }
    have cut (r : Report) (h : r = .cutDone) : v.deliver .cut .clearOut r =
        ((v.setRoll { v.media.roll with clearOutPending := false }).postTask k.pulses true).setHolder .idle := by
      rw [deliver_clearOut ((f.keeps.at .holder).trans holds), h]
      rfl
    generalize v.setRoll { v.media.roll with clearOutPending := false } = w at roll media keepsRoll linkRoll cut
    obtain ⟨done, keeps, marks⟩ := task_cut (k := k) f keepsRoll linkRoll (by rw [media, here]) roll
    obtain ⟨t, ht, served, marked⟩ := report_marks (c := .cutDone tag) rfl awaits rfl
      (by rw [hv]; exact cut .cutDone rfl) (changed := [.engine, .holder, .costs, .media])
      (P := fun u => TaskEnded s u k ∧ u.media = { s.media with roll := { s.media.roll with clearOutPending := false } })
      ⟨done, (keeps.at .media).trans (by rw [media, here])⟩
      ((f.keeps.mono.trans keepsRoll.mono).trans keeps.mono) marks
    exact ⟨t, ht, marked.1 rfl, served⟩
  · intro s tag levels counted holds awaits bounded nl
    have f := forgives_of_counted counted
    have volume : (fun c : Fin 12 => cleaningVolume levels[c]) = nl := funext fun c => cleaningVolume_eq (bounded c)
    obtain ⟨done, keeps, marks⟩ := clean_done f levels
    rw [volume] at done
    obtain ⟨t, ht, served, marked⟩ := report_marks (c := .cleanDone tag) rfl awaits rfl
      (deliver_cleaning ((f.keeps.at .holder).trans holds) (.clean levels) .cleanDone)
      (P := fun u => Cleaned s u nl) (changed := [.engine, .holder, .ink, .orders, .costs]) done keeps marks
    exact ⟨t, ht, marked.1 rfl, served⟩

end Sys2Proof.Machine

/-! The reports of an attempt's paper and bands (O43, O44; R37 to R42, R49, R51 to R53, R56, R65). -/

namespace Sys2Proof.Machine

/-! ### The phase that follows (R49) -/

/-- The attempt with the outcome of a slip, unless it holds one (R40). -/
def Attempt.slipped (a : Attempt) (slip : Bool) : Attempt :=
  { a with pendingOutcome := if slip = true ∧ a.pendingOutcome = none then some .failedMedia else a.pendingOutcome }

theorem Attempt.slipped_eq (a : Attempt) (slip : Bool) :
    (if slip then a.takePending .failedMedia else a) = a.slipped slip := by
  unfold Attempt.takePending Attempt.slipped
  cases slip with
  | false => simp
  | true => by_cases held : a.pendingOutcome = none <;> simp [held]

/-- The phase after a FEED of the attempt. -/
def Attempt.phaseAfterFeed (a : Attempt) : Phase :=
  if a.phase = .wasteFeed then .wasteCut
  else if a.phase = .lead ∧ a.pendingOutcome = none then .bands
  else if a.phase = .lead ∧ 0 < a.tail then .tail
  else a.dwellPhase

theorem Attempt.phaseOver_feed {a : Attempt} (h : a.phase ∈ [.wasteFeed, .lead, .tail]) :
    a.phaseOver = a.entering a.phaseAfterFeed := by
  simp only [List.mem_cons, List.not_mem_nil, or_false] at h
  obtain phase | phase | phase := h <;> unfold Attempt.phaseOver Attempt.phaseAfterFeed <;> simp only [phase]
  · exact a.enter_eq (by simp) (by simp)
  · unfold Attempt.enterBands
    by_cases held : a.pendingOutcome = none
    · simp only [held, if_true, and_self, reduceCtorEq, if_false]
      exact a.enter_eq (by simp) (by simp)
    · simp only [held, if_false, and_false, reduceCtorEq, true_and]
      exact a.enterTail_eq
  · simp only [reduceCtorEq, if_false, false_and]
    exact a.enterDwell_eq

/-- The phase after a band. -/
def Attempt.phaseAfterBand (a : Attempt) : Phase :=
  if a.pendingOutcome = none then (if a.bandsDone < a.bandsTotal then .bands else if a.check then .strip else a.tailPhase)
  else a.tailPhase

theorem Attempt.banded_eq {a : Attempt} (phase : a.phase = .bands) :
    (if a.pendingOutcome = none ∧ a.bandsDone < a.bandsTotal then a.enter .bands else a.phaseOver) =
      a.entering a.phaseAfterBand := by
  have goesOn : a.phaseOver = a.enterStrip := by simp only [Attempt.phaseOver, phase]
  rw [goesOn]
  unfold Attempt.phaseAfterBand Attempt.enterStrip
  have enters {p : Phase} (dwell : p ≠ .dwell) (cut : p ≠ .cut) := a.enter_eq dwell cut
  by_cases held : a.pendingOutcome = none
  · by_cases more : a.bandsDone < a.bandsTotal
    · simp [held, more, enters]
    · cases check : a.check <;> simp [held, more, enters, Attempt.enterTail_eq]
  · simp [held, Attempt.enterTail_eq]

section
variable {s u v w x : State} {a : Attempt}

/-! ### Paper of an attempt (R38 to R40, R65) -/

/-- The slip test reads the declaration alone. -/
theorem isSlip_congr (media : v.media = s.media) (n q : Nat) : v.isSlip n q = s.isSlip n q := by
  unfold State.isSlip
  rw [media]

theorem PaperMoved.of_media {slip : Bool} {n q : Nat} {order : Option Word32} (h : PaperMoved v u slip n q order)
    (media : v.media = s.media) (clock : v.orders.clock = s.orders.clock) : PaperMoved s u slip n q order := by
  unfold PaperMoved State.mediaMoved State.reachesEnd State.isSlip at h ⊢
  rw [media, clock] at h
  exact h

/-- The pulses of an attempt's command have moved the paper. -/
structure PaperTaken (v x : State) (slip : Bool) (n q : Nat) (order : Word32) : Prop where
  paper : PaperMoved v x slip n q (some order)
  uncut : x.uncut = (v.uncut || decide (0 < q))
  follows : Follows (fun _ => True) v.orders v x
  keeps : Keeps paperBlocks v x

theorem PaperTaken.marked {slip : Bool} {n q : Nat} {order : Word32} (paper : PaperMoved v w slip n q (some order))
    (follows : Follows (fun _ => True) v.orders v w) (keeps : Keeps [.media, .store, .orders, .notices, .server] v w) :
    PaperTaken v (w.markUncut q) slip n q order := by
  have mark := keeps_markUncut w q
  exact ⟨paper.then mark (link_markUncut w q), by rw [markUncut_uncut, keeps.at .uncut],
    follows.then mark (link_markUncut w q), keeps.mono.then mark⟩

theorem movePaper_taken (v : State) (a : Attempt) (cmd : EngineCommand) (q : Nat) :
    PaperTaken v (v.movePaper a cmd q).1 true cmd.lengthMm q a.reference ∧
      (v.movePaper a cmd q).2 = a.slipped (v.isSlip cmd.lengthMm q) := by
  obtain ⟨paper, follows, slip⟩ := paper_checkSlip v cmd.lengthMm q (some a.reference)
  refine ⟨.marked paper (follows.mono fun _ _ => trivial)
    ((keeps_advancePosition v q _).mono.then (keeps_checkSlip _ _ _ _)), ?_⟩
  rw [← Attempt.slipped_eq, ← slip]
  rfl

theorem advance_taken (v : State) (a : Attempt) (n q : Nat) :
    PaperTaken v ((v.advancePosition q (some a.reference)).markUncut q) false n q a.reference := by
  obtain ⟨paper, follows⟩ := paper_advancePosition v q (some a.reference)
  exact .marked paper (follows.mono fun _ _ => trivial) (keeps_advancePosition v q _)

/-! ### FEED_DONE (R41, R51) -/

theorem deliver_attempt (holds : v.holder = .attempt a) (cmd : EngineCommand) (r : Report) :
    v.deliver cmd .attempt r = v.attemptReport a cmd r := by
  unfold State.deliver
  rw [holds]

/-- The attempt after a FEED of its own, before the next phase. -/
def Attempt.fed (a : Attempt) (q : Nat) : Attempt :=
  { a with
    wastePulses := if a.phase = .wasteFeed then q else a.wastePulses,
    ownPulses := if a.phase = .wasteFeed then a.ownPulses else min 4294967295 (a.ownPulses + q) }

theorem Attempt.fed_eq (a : Attempt) (q : Nat) :
    (if a.phase = .wasteFeed then { a with wastePulses := q } else a.addOwn q) = a.fed q := by
  unfold Attempt.fed Attempt.addOwn
  split_ifs <;> rfl

theorem attemptFed_eq (v : State) (a : Attempt) (n q : Nat) (h : a.phase ∈ [.wasteFeed, .lead, .tail]) :
    v.attemptFed a (.feed n) q = (v.movePaper a (.feed n) q).1.setHolder (.attempt
      (((a.slipped (v.isSlip n q)).fed q).entering ((a.slipped (v.isSlip n q)).fed q).phaseAfterFeed)) := by
  have split : v.attemptFed a (.feed n) q = (v.movePaper a (.feed n) q).1.setHolder (.attempt
      (if (v.movePaper a (.feed n) q).2.phase = .wasteFeed then { (v.movePaper a (.feed n) q).2 with wastePulses := q }
        else (v.movePaper a (.feed n) q).2.addOwn q).phaseOver) := rfl
  rw [split, (movePaper_taken v a (.feed n) q).2, Attempt.fed_eq, Attempt.phaseOver_feed (by exact h)]
  rfl

/-- Settles O43: the paper by `movePaper_taken`, the attempt by the phase entered after its FEED. -/
theorem attemptFeedDone : Obligations.AttemptFeedDone := by
  intro s tag pulses n a counted holds awaits phase q pending
  have f := forgives_of_counted counted
  have media : s.freeSlot.forgiveError.media = s.media := f.keeps.at .media
  have delivered := deliver_attempt ((f.keeps.at .holder).trans holds) (.feed n) (.feedDone q)
  rw [State.attemptReport, attemptFed_eq _ a n q phase, isSlip_congr media] at delivered
  obtain ⟨moved, -⟩ := movePaper_taken s.freeSlot.forgiveError a (.feed n) q
  generalize (s.freeSlot.forgiveError.movePaper a (.feed n) q).1 = w at moved delivered
  have last := keeps_setHolder w (.attempt
      (((a.slipped (s.isSlip n q)).fed q).entering ((a.slipped (s.isSlip n q)).fed q).phaseAfterFeed))
  have link := link_setHolder w (.attempt
      (((a.slipped (s.isSlip n q)).fed q).entering ((a.slipped (s.isSlip n q)).fed q).phaseAfterFeed))
  refine report_served rfl awaits rfl delivered ⟨?_, ?_, ?_, ?_, _, rfl, rfl, rfl, rfl, rfl⟩
    ((f.keeps.mono.trans moved.keeps.mono).then last)
  · exact f.stays (moved.keeps.mono.then last : Keeps (.holder :: paperBlocks) _ _) (moved.follows.link.trans link)
  · refine (last.at .uncut).trans (moved.uncut.trans ?_)
    rw [f.keeps.at .uncut]
  · exact (moved.paper.before f.keeps).then last link
  · exact ((f.follows moved.follows).mono fun _ _ => trivial).then last link |>.orders

end

end Sys2Proof.Machine

/-! The reports of an attempt's bands and of its stopped strip (O44; R49, R52, R53, R56, R65). -/

namespace Sys2Proof.Machine

section
variable {s u v w x : State} {a : Attempt}

/-! ### Ink of a report (R52, R53) -/

/-- The volumes of a report at the drop sizes current now (R92, R93). -/
def State.volume (s : State) (drops : Vector Drops 12) (c : Fin 12) : Nat :=
  drops[c].small.toNat * s.ink.sizes.small + drops[c].medium.toNat * s.ink.sizes.medium +
    drops[c].large.toNat * s.ink.sizes.large

theorem volumes_getElem (ink : v.ink = s.ink) (drops : Vector Drops 12) (c : Fin 12) :
    (v.volumes drops)[c] = s.volume drops c := by
  simp only [State.volumes, Fin.getElem_fin, Vector.getElem_ofFn, ink]
  rfl

/-- The tallies with these volumes added (R53). Irreducible, so that two attempts' other fields compare at once. -/
@[irreducible] def Attempt.inkedTallies (a : Attempt) (f : Fin 12 → Nat) : Vector Nat 12 :=
  Vector.ofFn fun c => min 281474976710655 (a.tallies[c] + f c)

@[irreducible] def Attempt.inkedSaturated (a : Attempt) (f : Fin 12 → Nat) : Bool :=
  a.tallySaturated || (List.finRange 12).any fun c => decide (281474976710655 < a.tallies[c] + f c)

/-- The attempt with these volumes added to its tallies. -/
def Attempt.inked (a : Attempt) (f : Fin 12 → Nat) : Attempt :=
  { a with tallies := a.inkedTallies f, tallySaturated := a.inkedSaturated f }

theorem Attempt.inkedTallies_eq (a : Attempt) (f : Fin 12 → Nat) :
    a.inkedTallies f = Vector.ofFn fun c => min 281474976710655 (a.tallies[c] + f c) := by
  unfold Attempt.inkedTallies
  rfl

theorem Attempt.inkedSaturated_eq (a : Attempt) (f : Fin 12 → Nat) : a.inkedSaturated f =
    (a.tallySaturated || (List.finRange 12).any fun c => decide (281474976710655 < a.tallies[c] + f c)) := by
  unfold Attempt.inkedSaturated
  rfl

theorem Attempt.tallied_eq (a : Attempt) {volumes : Vector Nat 12} {f : Fin 12 → Nat} (h : ∀ c : Fin 12, volumes[c] = f c) :
    a.tallied volumes = a.inked f := by
  simp only [Attempt.tallied, Attempt.inked, Attempt.inkedTallies_eq, Attempt.inkedSaturated_eq, h, satAdd, max48, gt_iff_lt]

theorem cost_mask : Category.cost.mask = 32#8 := by decide

/-- The ink of a report has been tallied and drawn; COST is pending when a tally first saturates. -/
structure InkTaken (s v w : State) (f : Fin 12 → Nat) (saturates : Bool) : Prop where
  ink : w.ink = s.inkDrawn f
  follows : Follows (fun _ => True) v.orders v w
  keeps : Keeps inkBlocks v w
  noted : saturates = true → w.notices.pending &&& 32#8 = 32#8

theorem inkTaken_drawAll (ink : v.ink = s.ink) {volumes : Vector Nat 12} {f : Fin 12 → Nat}
    (h : ∀ c : Fin 12, volumes[c] = f c) (b : Bool) : InkTaken s v ((v.raiseIf b .cost).drawAll volumes) f b := by
  have raises := keeps_raiseIf v b .cost
  have link := link_raiseIf v b .cost
  have noted : b = true → (v.raiseIf b .cost).notices.pending &&& 32#8 = 32#8 := fun h => by
    rw [raiseIf_pending, if_pos h, cost_mask]
    exact raised_bit _ _
  generalize v.raiseIf b .cost = t at raises link noted
  have supply : t.ink = s.ink := (raises.at .ink).trans ink
  have first : Follows (fun _ => True) v.orders v t := .of_keeps raises link link.onlyRaised
  have drawn : Follows (fun _ => True) t.orders t (t.drawAll volumes) := follows_drawAll _ _
  exact ⟨(drawAll_ink t h).trans (inkDrawn_congr supply _), first.trans drawn (.of_still_left (.of_keeps raises)),
    raises.mono.trans (keeps_drawAll _ _), fun h => drawn.link.stays (noted h)⟩

theorem tallyAndDraw_eq (ink : v.ink = s.ink) (a : Attempt) (drops : Vector Drops 12) :
    v.tallyAndDraw a (v.volumes drops) =
      ((v.raiseIf (a.inkedSaturated (s.volume drops) && !a.tallySaturated) .cost).drawAll (v.volumes drops),
        a.inked (s.volume drops)) := by
  unfold State.tallyAndDraw
  rw [a.tallied_eq (volumes_getElem ink drops)]
  rfl

/-! ### Ink and paper together -/

/-- A report's ink has been drawn and its pulses have moved the paper, one error forgiven. -/
structure Printed (s x : State) (f : Fin 12 → Nat) (slip : Bool) (n q : Nat) (order : Word32) (saturates : Bool) : Prop where
  forgiven : Forgiven s x
  uncut : x.uncut = (s.uncut || decide (0 < q))
  paper : PaperMoved s x slip n q (some order)
  follows : Follows (fun _ => True) s.orders s x
  ink : x.ink = s.inkDrawn f
  noted : saturates = true → x.notices.pending &&& 32#8 = 32#8
  keeps : Keeps [.engine, .media, .orders, .uncut, .ink, .store, .notices, .server] s x

theorem printed_of_taken {f : Fin 12 → Nat} {saturates slip : Bool} {n q : Nat} {order : Word32} (forgives : Forgives s v)
    (inked : InkTaken s v w f saturates) (moved : PaperTaken w x slip n q order) :
    Printed s x f slip n q order saturates := by
  have media : w.media = s.media := (inked.keeps.at .media).trans (forgives.keeps.at .media)
  have drawn : Follows (fun _ => True) s.orders s w := (forgives.follows inked.follows).mono fun _ _ => trivial
  have both : Keeps [.media, .orders, .uncut, .ink, .store, .notices, .server] v x := inked.keeps.mono.trans moved.keeps.mono
  refine ⟨forgives.stays both (inked.follows.link.trans moved.follows.link), ?_,
    moved.paper.of_media media drawn.orders.clock, drawn.trans moved.follows ⟨.inl ?_, fun c => .inr ?_, fun g => .inr ?_⟩,
    (moved.keeps.at .ink).trans inked.ink, fun h => moved.follows.link.stays (inked.noted h),
    forgives.keeps.mono.trans both.mono⟩
  · rw [moved.uncut, inked.keeps.at .uncut, forgives.keeps.at .uncut]
  · rw [media]
  · rw [moved.keeps.at .ink]
  · rw [moved.keeps.at .colour]

theorem Printed.of_setHolder {f : Fin 12 → Nat} {saturates slip : Bool} {n q : Nat} {order : Word32}
    (h : Printed s x f slip n q order saturates) (y : Holder) :
    let u := x.setHolder y
    Forgiven s u ∧ u.uncut = (s.uncut || decide (0 < q)) ∧ PaperMoved s u slip n q (some order) ∧
      OrdersFollow s.orders s u ∧ u.ink = s.inkDrawn f ∧ (saturates = true → u.notices.pending &&& 32#8 = 32#8) :=
  ⟨h.forgiven, h.uncut, h.paper, (h.follows.then (keeps_setHolder x y) (link_setHolder x y)).orders, h.ink, h.noted⟩

/-! ### The attempt after a report (R52, R56) -/

/-- The attempt after a BAND_DONE, before the next phase. -/
def Attempt.banded (a : Attempt) (f : Fin 12 → Nat) (slip : Bool) (q : Nat) : Attempt :=
  { (a.inked f).slipped slip with bandsDone := a.bandsDone + 1, ownPulses := min 4294967295 (a.ownPulses + q) }

theorem attemptBanded_eq (ink : v.ink = s.ink) (media : v.media = s.media) (cmd : EngineCommand) (q : Nat)
    (drops : Vector Drops 12) (phase : a.phase = .bands) :
    ∃ x, v.attemptBanded a cmd q drops = x.setHolder (.attempt
        ((a.banded (s.volume drops) (s.isSlip cmd.lengthMm q) q).entering
          (a.banded (s.volume drops) (s.isSlip cmd.lengthMm q) q).phaseAfterBand)) ∧
      (Forgives s v → Printed s x (s.volume drops) true cmd.lengthMm q a.reference
        (a.inkedSaturated (s.volume drops) && !a.tallySaturated)) := by
  have inked := inkTaken_drawAll ink (volumes_getElem ink drops)
    (a.inkedSaturated (s.volume drops) && !a.tallySaturated)
  have drew := tallyAndDraw_eq ink a drops
  generalize (v.raiseIf (a.inkedSaturated (s.volume drops) && !a.tallySaturated) .cost).drawAll (v.volumes drops) = w
    at inked drew
  obtain ⟨moved, slipped⟩ := movePaper_taken w (a.inked (s.volume drops)) cmd q
  rw [isSlip_congr ((inked.keeps.at .media).trans media)] at slipped
  refine ⟨(w.movePaper (a.inked (s.volume drops)) cmd q).1, ?_, fun f => printed_of_taken f inked moved⟩
  unfold State.attemptBanded
  simp only [drew, slipped]
  have banded : ({ ((a.inked (s.volume drops)).slipped (s.isSlip cmd.lengthMm q)).addOwn q with
      bandsDone := a.bandsDone + 1 } : Attempt) = a.banded (s.volume drops) (s.isSlip cmd.lengthMm q) q := rfl
  rw [banded]
  refine congrArg (fun b => (w.movePaper (a.inked (s.volume drops)) cmd q).1.setHolder (.attempt b)) ?_
  exact Attempt.banded_eq (a := a.banded (s.volume drops) (s.isSlip cmd.lengthMm q) q) phase

/-- The attempt after a BAND_STOPPED or STRIP_STOPPED, before the next phase. -/
def Attempt.stopped (a : Attempt) (f : Fin 12 → Nat) (q : Nat) (strip : Bool) : Attempt :=
  { a.inked f with
    ownPulses := min 4294967295 (a.ownPulses + q), pendingOutcome := some (a.pendingOutcome.getD .interrupted),
    verdict := if strip then .unverified else a.verdict }

theorem Attempt.stopped_eq (a : Attempt) (f : Fin 12 → Nat) (q : Nat) (strip : Bool) :
    (if strip then { ((a.inked f).addOwn q).takePending .interrupted with verdict := .unverified }
      else ((a.inked f).addOwn q).takePending .interrupted) = a.stopped f q strip := by
  rw [Attempt.takePending_eq]
  cases strip <;> rfl

theorem Attempt.stopped_tailPhase (a : Attempt) (f : Fin 12 → Nat) (q : Nat) (strip : Bool) :
    (a.stopped f q strip).tailPhase = a.tailPhase := by
  unfold Attempt.tailPhase Attempt.dwellPhase
  rfl

theorem attemptStopped_eq (ink : v.ink = s.ink) (n q : Nat) (drops : Vector Drops 12) (strip : Bool) :
    ∃ x, v.attemptStopped a q drops strip = x.setHolder (.attempt
        ((a.stopped (s.volume drops) q strip).entering a.tailPhase)) ∧
      (Forgives s v → Printed s x (s.volume drops) false n q a.reference
        (a.inkedSaturated (s.volume drops) && !a.tallySaturated)) := by
  have inked := inkTaken_drawAll ink (volumes_getElem ink drops)
    (a.inkedSaturated (s.volume drops) && !a.tallySaturated)
  have drew := tallyAndDraw_eq ink a drops
  generalize (v.raiseIf (a.inkedSaturated (s.volume drops) && !a.tallySaturated) .cost).drawAll (v.volumes drops) = w
    at inked drew
  refine ⟨(w.advancePosition q (some a.reference)).markUncut q, ?_,
    fun f => printed_of_taken f inked (advance_taken w a n q)⟩
  unfold State.attemptStopped
  simp only [drew]
  rw [Attempt.stopped_eq, Attempt.enterTail_eq, Attempt.stopped_tailPhase]
  rfl

end

/-- Settles O44: ink and paper by `Printed`, the attempt by its record before the next phase. -/
theorem attemptBandReports : Obligations.AttemptBandReports := by
  intro s tag pulses drops a cmd counted holds awaits q v common next blocks
  have f := forgives_of_counted counted
  have media : s.freeSlot.forgiveError.media = s.media := f.keeps.at .media
  have ink : s.freeSlot.forgiveError.ink = s.ink := f.keeps.at .ink
  have delivers := deliver_attempt ((f.keeps.at .holder).trans holds) cmd
  have tally : a.inkedSaturated v = _ := a.inkedSaturated_eq v
  have saturates {b c : Bool} (set : b = true) (clear : c = false) : (b && !c) = true := by simp [set, clear]
  refine ⟨fun order number index length gains band phase => ⟨?_, ?_⟩, fun order number margin gains strip => ?_⟩
  · subst band
    obtain ⟨x, delivered, printed⟩ := attemptBanded_eq (a := a) ink media (.band order number index length gains) q drops phase
    have printed := printed f
    obtain ⟨forgiven, uncut, paper, orders, drawn, noted⟩ := printed.of_setHolder _
    refine report_served (r := .bandDone q drops) rfl awaits rfl ((delivers _).trans delivered)
      ⟨_, ⟨forgiven, uncut, paper, orders, drawn, fun set clear => noted (saturates set clear), rfl, ?_, rfl, rfl⟩,
        rfl, rfl, rfl, rfl⟩ (printed.keeps.mono.then (keeps_setHolder _ _))
    rw [← a.inkedTallies_eq v, ← tally]
    rfl
  · subst band
    obtain ⟨x, delivered, printed⟩ := attemptStopped_eq (a := a) ink length q drops false
    have printed := printed f
    obtain ⟨forgiven, uncut, paper, orders, drawn, noted⟩ := printed.of_setHolder _
    refine report_served (r := .bandStopped q drops) rfl awaits rfl ((delivers _).trans delivered)
      ⟨_, ⟨forgiven, uncut, paper, orders, drawn, fun set clear => noted (saturates set clear), rfl, ?_, rfl, rfl⟩,
        rfl, rfl, rfl, rfl⟩ (printed.keeps.mono.then (keeps_setHolder _ _))
    rw [← a.inkedTallies_eq v, ← tally]
    rfl
  · subst strip
    obtain ⟨x, delivered, printed⟩ := attemptStopped_eq (a := a) ink margin q drops true
    have printed := printed f
    obtain ⟨forgiven, uncut, paper, orders, drawn, noted⟩ := printed.of_setHolder _
    refine report_served (r := .stripStopped q drops) rfl awaits rfl ((delivers _).trans delivered)
      ⟨_, ⟨forgiven, uncut, paper, orders, drawn, fun set clear => noted (saturates set clear), rfl, ?_, rfl, rfl⟩,
        rfl, rfl, rfl, rfl⟩ (printed.keeps.mono.then (keeps_setHolder _ _))
    rw [← a.inkedTallies_eq v, ← tally]
    rfl

end Sys2Proof.Machine

/-! The CUT_DONE of an attempt (O48; R19, R41, R51, R59, R60, R150 to R152, R163 to R166, R182). -/

namespace Sys2Proof.Machine

section
variable {s u v w : State} {a : Attempt} {o : Order}

/-! ### The waste cut (R41, R51, R170) -/

/-- The waste posting at current prices (R170). -/
def State.wasteCutPosting (s : State) (a : Attempt) (o : Order) : Posting :=
  { media := (a.waste * s.costs.prices.media[o.mediaKind] + 500) / 1000, cut := s.costs.prices.cut }

theorem slotKind_some {i : Fin 40} (h : s.orders.slots[i] = some o) : s.slotKind i = o.mediaKind := by
  simp only [State.slotKind, h]

/-- The phase after the waste cut (R49). -/
def Attempt.phaseAfterWaste (a : Attempt) : Phase :=
  if a.pendingOutcome = none then (if 0 < a.lead then .lead else .bands) else a.tailPhase

theorem Attempt.phaseOver_wasteCut (phase : a.phase = .wasteCut) : a.phaseOver = a.entering a.phaseAfterWaste := by
  have goesOn : a.phaseOver = a.enterLead := by simp only [Attempt.phaseOver, phase]
  rw [goesOn]
  unfold Attempt.enterLead Attempt.enterBands Attempt.phaseAfterWaste
  have enters {p : Phase} (dwell : p ≠ .dwell) (cut : p ≠ .cut) := a.enter_eq dwell cut
  by_cases held : a.pendingOutcome = none
  · by_cases lead : 0 < a.lead <;> simp [held, lead, enters]
  · simp [held, Attempt.enterTail_eq]

theorem marks_writeUncut (s : State) (b : Bool) : MayMark s (s.writeUncut b) := by
  exact (Marks.after (keeps_setUncut s b) (marks_markDirtyIf _ _)).mayMark

theorem writeUncut_uncut (s : State) (b : Bool) : (s.writeUncut b).uncut = b := (keeps_markDirtyIf _ _).at .uncut

theorem wasteCut_done (f : Forgives s v) (slot : s.orders.slots[a.slot] = some o) (phase : a.phase = .wasteCut) :
    let u := v.attemptCut a
    Forgiven s u ∧ u.uncut = false ∧ CostNoted s u ∧ u.costs = s.costs.posted (s.wasteCutPosting a o) ∧
      u.orders = { s.orders with slots := s.orders.slots.set a.slot (some (o.spoiled (s.wasteCutPosting a o))) } ∧
      u.holder = .attempt (a.entering a.phaseAfterWaste) ∧
      Keeps ([.engine, .holder, .orders, .costs, .uncut] ++ linkBlocks) s u ∧ Marks true s u := by
  intro u
  have orders : v.orders = s.orders := f.keeps.at .orders
  have costs : v.costs = s.costs := f.keeps.at .costs
  have kind : v.slotKind a.slot = o.mediaKind := slotKind_some (by rw [orders, slot])
  have posting : (({
        media := mediaCost a.waste v.costs.prices.media[v.slotKind a.slot],
        cut := if true then v.costs.prices.cut else 0 } : Posting)) = s.wasteCutPosting a o := by
    simp only [kind, costs, if_true]
    rfl
  have split : u = ((v.spoil a.slot (s.wasteCutPosting a o)).writeUncut false).setHolder
      (.attempt (a.entering a.phaseAfterWaste)) := by
    rw [← posting, ← postWaste_eq, ← Attempt.phaseOver_wasteCut phase]
    exact if_pos phase
  generalize hp : s.wasteCutPosting a o = p at split
  have spoil := keeps_spoil v a.slot p
  have spoiled := spoil_orders_some (p := p) (show v.orders.slots[a.slot] = some o by rw [orders, slot])
  have posted := spoil_costs v a.slot p
  have noted := costNoted_spoil v a.slot p
  have marked := marks_spoil v a.slot p
  have link := link_spoil v a.slot p
  generalize v.spoil a.slot p = w at split spoil spoiled posted noted marked link
  have clear : Keeps [.uncut, .store] w (w.writeUncut false) := keeps_writeUncut w false
  have last : Keeps [.holder] (w.writeUncut false) u := split ▸ keeps_setHolder _ _
  have linkLast : LinkKept w u := split ▸ (link_writeUncut w false).trans (link_setHolder _ _)
  have both : Keeps [.uncut, .store, .holder] w u := clear.mono.then last
  refine ⟨f.stays (spoil.mono.trans both.mono : Keeps [.orders, .costs, .store, .notices, .server, .uncut, .holder] v u)
      (link.trans linkLast), (last.at .uncut).trans (writeUncut_uncut w false), (noted.after costs).then both linkLast,
    ?_, ?_, split ▸ rfl, (f.keeps.mono.trans spoil.mono).trans both.mono, ?_⟩
  · rw [both.at .costs, posted, costs]
  · rw [both.at .orders, spoiled, orders]
  · obtain ⟨b, clears⟩ := marks_writeUncut w false
    exact (((Marks.after f.keeps marked).trans clears).then last).congr (Bool.true_or b)

/-! ### The outcome and its posting (R59, R163 to R166) -/

/-- The outcome that the final cut decides (R59). -/
def Attempt.cutOutcome (a : Attempt) (o : Order) : AttemptOutcome :=
  match a.pendingOutcome with
  | some x => x
  | none => if o.cancelRequested then .cancelled
    else if a.check = false ∨ a.verdict = .pass then .accepted else .rejected

theorem Attempt.outcomeAtCut_eq (a : Attempt) (o : Order) : a.outcomeAtCut o = a.cutOutcome o := by
  unfold Attempt.outcomeAtCut Attempt.cutOutcome
  cases a.pendingOutcome with
  | some x => rfl
  | none =>
    by_cases check : a.check = false
    · simp [check]
    · simp [check]

/-- The posting of an attempt that ends at its final cut. -/
def Attempt.cutPosting (a : Attempt) (kind : Fin 8) (outcome : AttemptOutcome) : Posting :=
  { ink := ((List.finRange 12).map fun c =>
      min 4294967295 ((a.tallies[c] / 10000 * a.prices.ink[c] + 500000) / 1000000)).sum,
    media := ((a.ownPulses + 20) / 40 * a.prices.media[kind] + 500) / 1000, cut := a.prices.cut,
    handling := if outcome = .accepted then a.prices.handling else 0, attempts := 1,
    prints := if outcome = .accepted then 1 else 0,
    inkSaturated := (List.finRange 12).any fun c =>
      decide (4294967295 < (a.tallies[c] / 10000 * a.prices.ink[c] + 500000) / 1000000) }

theorem Attempt.posting_cut (a : Attempt) (kind : Fin 8) (outcome : AttemptOutcome) :
    ({ a with cutsMade := 1 } : Attempt).posting kind outcome = a.cutPosting kind outcome := by
  unfold Attempt.posting Attempt.cutPosting inkFigure inkSaturates sumChannels volumeCost inkCost mediaCost pulsesToMm max32
  simp only [one_mul, gt_iff_lt]

/-- The order's cost summary with a posting (R182). -/
def Order.charged (o : Order) (own : Bool) (p : Posting) : Order :=
  { o with cost := if own then o.cost.addOwn p else o.cost.addSpoiled p.total }

theorem postAttempt_eq (h : s.orders.slots[a.slot] = some o) (outcome : AttemptOutcome) (own : Bool) :
    s.postAttempt a outcome own =
      (s.setOrder a.slot (o.charged own (a.posting o.mediaKind outcome))).post (if own then o.account else 0)
        (a.posting o.mediaKind outcome) := by
  unfold State.postAttempt Order.charged
  rw [slotKind_some h]
  cases own <;> simp [h]

/-! ### Numbering (R150 to R152) -/

/-- The edition that an ACCEPTED attempt of the order numbers, with its slot. -/
def State.numbered (s : State) (o : Order) (outcome : AttemptOutcome) : Option (Fin 16 × Edition) :=
  match outcome, o.edition with
  | .accepted, some ref => match s.findEdition ref with
    | none => none
    | some i => match s.editions[i] with
      | none => none
      | some e => some (i, e)
  | _, _ => none

/-- An edition after one more acceptance of an attempt with these readings. -/
def State.editionAccepted (s : State) (a : Attempt) (e : Edition) : Edition :=
  { e with
    accepted := e.accepted + 1,
    readings := if e.state = .opened then
        (match a.readings, s.kindReference e.mediaKind with
          | some r, some k => some (Vector.ofFn fun p => if r[p].valid then r[p].lab else k[p])
          | _, _ => none)
      else e.readings,
    fixedAt := if e.state = .opened then some s.orders.clock else e.fixedAt,
    state := if e.accepted + 1 = e.size then .complete else if e.state = .opened then .fixed else e.state }

theorem adopted_eq (s : State) (a : Attempt) (e : Edition) :
    (a.readings.bind fun r => ((s.colour.settings[e.mediaKind]).bind (·.reference)).map fun k => adoptReadings r k) =
      match a.readings, s.kindReference e.mediaKind with
      | some r, some k => some (Vector.ofFn fun p => if r[p].valid then r[p].lab else k[p])
      | _, _ => none := by
  change (a.readings.bind fun r => (s.kindReference e.mediaKind).map fun k => adoptReadings r k) = _
  cases a.readings with
  | none => rfl
  | some r => cases s.kindReference e.mediaKind <;> rfl

theorem afterAccept_eq (s : State) (a : Attempt) (e : Edition) :
    e.afterAccept (a.readings.bind fun r =>
      ((s.colour.settings[e.mediaKind]).bind (·.reference)).map fun k => adoptReadings r k) s.clock =
      s.editionAccepted a e := by
  rw [adopted_eq]
  unfold Edition.afterAccept State.editionAccepted
  by_cases opened : e.state = .opened <;> by_cases full : e.accepted + 1 = e.size <;> simp [opened, full, State.clock]

/-- The order's edition number after an outcome. -/
def Order.numberedBy (o : Order) (n : Option (Fin 16 × Edition)) : Order :=
  { o with editionNumber := match n with | some (_, e) => some (e.accepted + 1) | none => o.editionNumber }

/-- The editions after an outcome. -/
def State.editionsAccepted (s : State) (a : Attempt) (n : Option (Fin 16 × Edition)) : Vector (Option Edition) 16 :=
  match n with
  | none => s.editions
  | some (i, e) => s.editions.set i (some (s.editionAccepted a e))

theorem numbered_accepted (s : State) (o : Order) : s.numbered o .accepted =
    (o.edition.bind s.findEdition).bind fun i => (s.editions[i]).map fun e => (i, e) := by
  unfold State.numbered
  cases o.edition with
  | none => rfl
  | some ref =>
    simp only [Option.bind_some]
    cases s.findEdition ref with
    | none => rfl
    | some i =>
      simp only [Option.bind_some]
      cases s.editions[i] <;> rfl

theorem numbered_unaccepted (s : State) (o : Order) {outcome : AttemptOutcome} (h : outcome ≠ .accepted) :
    s.numbered o outcome = none := by
  cases outcome <;> simp [State.numbered] at h ⊢

theorem numberPrint_split (h : s.orders.slots[a.slot] = some o) : s.numberPrint a =
    (s.numbered o .accepted).elim s fun n =>
      (s.setOrder a.slot (o.numberedBy (some n))).setEdition n.1 (some (s.editionAccepted a n.2)) := by
  unfold State.numberPrint
  simp only [h]
  rw [numbered_accepted]
  cases o.edition.bind s.findEdition with
  | none => rfl
  | some i =>
    simp only [Option.bind_some]
    cases s.editions[i] with
    | none => rfl
    | some e => simp only [afterAccept_eq, Option.map_some, Option.elim_some, Order.numberedBy]

/-- What an outcome leaves after its numbering, of an edition or of none. -/
structure Numbered (s u : State) (a : Attempt) (o : Order) (n : Option (Fin 16 × Edition)) : Prop where
  orders : u.orders = { s.orders with slots := s.orders.slots.set a.slot (some (o.numberedBy n)) }
  editions : u.editions = s.editionsAccepted a n
  keeps : Keeps [.orders, .editions, .store] s u
  link : LinkKept s u
  marks : MayMark s u

theorem numbered_none (h : s.orders.slots[a.slot] = some o) : Numbered s s a o none := by
  refine ⟨?_, rfl, Keeps.refl _ _, .refl s, (Marks.of_store_eq rfl).mayMark⟩
  have same : s.orders.slots.set a.slot (some (o.numberedBy none)) = s.orders.slots := by
    rw [show o.numberedBy none = o from rfl, ← h]
    exact Vector.set_getElem_self _
  rw [same]

theorem numberPrint_numbered (h : s.orders.slots[a.slot] = some o) (outcome : AttemptOutcome) :
    Numbered s (if outcome = .accepted then s.numberPrint a else s) a o (s.numbered o outcome) := by
  by_cases accepted : outcome = .accepted
  · rw [if_pos accepted, accepted, numberPrint_split h]
    cases n : s.numbered o .accepted with
    | none => exact numbered_none h
    | some n =>
      exact ⟨rfl, rfl, (keeps_setOrders s _).mono.then (keeps_setEdition _ _ _), (link_setOrders s _).trans (link_setEdition _ _ _),
        (Marks.after (keeps_setOrders s _) (marks_setEdition _ _ _)).mayMark⟩
  · rw [if_neg accepted, numbered_unaccepted s o accepted]
    exact numbered_none h

end

end Sys2Proof.Machine

/-! The final cut of an attempt (O48; R59, R60). -/

namespace Sys2Proof.Machine

section
variable {s u v w : State} {a : Attempt} {o : Order}

theorem holdReasons_fields (s : State) {o o' : Order} (kind : o'.mediaKind = o.mediaKind) (width : o'.printWidth = o.printWidth)
    (length : o'.printLength = o.printLength) (check : o'.check = o.check) (channels : o'.channels = o.channels)
    (edition : o'.edition = o.edition) : s.holdReasons o' = s.holdReasons o := by
  simp only [State.holdReasons, State.orderNeed, State.orderSuspended, State.orderSet?, kind, width, length, check, channels,
    edition]

/-- The order record that an attempt's outcome at the cut makes, but for its state. -/
def State.cutRecord (s : State) (a : Attempt) (o : Order) (outcome : AttemptOutcome) : Order :=
  ((o.charged outcome.ownAccount (a.cutPosting o.mediaKind outcome)).numberedBy (s.numbered o outcome)).taking outcome

/-- The order table after the final cut: a final order ends, another one is retried as its eligibility gives (R19). -/
def State.ordersCut (s : State) (a : Attempt) (o : Order) (outcome : AttemptOutcome) : OrderBlock :=
  match o.finalState outcome with
  | some final =>
    { s.orders with
      slots := s.orders.slots.set a.slot (some ((s.cutRecord a o outcome).ended final s.orders.clock)),
      arrival := s.orders.arrival.filter fun j => j != a.slot }
  | none => { s.orders with slots := s.orders.slots.set a.slot (some { s.cutRecord a o outcome with
      state := if s.holdReasons o = {} then .queued else .held, holds := s.holdReasons o }) }

theorem finalState_congr {o o' : Order} (cancel : o'.cancelRequested = o.cancelRequested)
    (used : o'.attemptsUsed = o.attemptsUsed) (allowed : o'.attemptsAllowed = o.attemptsAllowed) (outcome : AttemptOutcome) :
    o'.finalState outcome = o.finalState outcome := by
  unfold Order.finalState
  rw [cancel, used, allowed]

/-- A retried order was not accepted, so nothing has been numbered. -/
theorem numbered_retried (s : State) {outcome : AttemptOutcome} (h : o.finalState outcome = none) :
    s.numbered o outcome = none := by
  refine numbered_unaccepted s o fun accepted => ?_
  subst accepted
  simp [Order.finalState] at h

/-- The accounts after a posting to account `i`. -/
def CostUnit.postedTo (c : CostUnit) (i : Fin 64) (p : Posting) : CostUnit :=
  { c with accounts := c.accounts.set i (c.accounts[i].posted p) }

/-- The final posting has been made: the cost summary of the order and its account, the uncut marker cleared. -/
structure CutPosted (s v w : State) (a : Attempt) (o : Order) (own : Bool) (p : Posting) : Prop where
  orders : w.orders = { s.orders with slots := s.orders.slots.set a.slot (some (o.charged own p)) }
  costs : w.costs = s.costs.postedTo (if own then o.account else 0) p
  uncut : w.uncut = false
  noted : CostNoted s w
  keeps : Keeps [.orders, .costs, .uncut, .store, .notices, .server] v w
  link : LinkKept v w
  marks : Marks true s w

theorem cutPosted (f : Forgives s v) (slot : s.orders.slots[a.slot] = some o) (outcome : AttemptOutcome) (own : Bool) :
    CutPosted s v ((v.writeUncut false).postAttempt { a with cutsMade := 1 } outcome own) a o own
      (a.cutPosting o.mediaKind outcome) := by
  have clears := keeps_writeUncut v false
  have cleared := writeUncut_uncut v false
  have linkClear := link_writeUncut v false
  obtain ⟨b, marked⟩ := marks_writeUncut v false
  generalize v.writeUncut false = w at clears cleared linkClear marked
  have orders : w.orders = s.orders := (clears.at .orders).trans (f.keeps.at .orders)
  have costs : w.costs = s.costs := (clears.at .costs).trans (f.keeps.at .costs)
  have posts := postAttempt_eq (s := w) (a := { a with cutsMade := 1 }) (o := o) (by rw [orders]; exact slot) outcome own
  rw [Attempt.posting_cut] at posts
  rw [posts]
  generalize a.cutPosting o.mediaKind outcome = p
  have sets : Keeps [.orders] w (w.setOrder a.slot (o.charged own p)) := keeps_setOrders w _
  have linkSet : LinkKept w (w.setOrder a.slot (o.charged own p)) := link_setOrders w _
  have table : (w.setOrder a.slot (o.charged own p)).orders =
      { s.orders with slots := s.orders.slots.set a.slot (some (o.charged own p)) } := by
    rw [← orders]
    rfl
  generalize w.setOrder a.slot (o.charged own p) = x at sets linkSet table
  have post := keeps_post x (if own then o.account else 0) p
  have same : x.costs = s.costs := (sets.at .costs).trans costs
  refine ⟨(post.at .orders).trans table, ?_, (post.at .uncut).trans ((sets.at .uncut).trans cleared),
    (costNoted_post x _ p).after same, (clears.mono.trans sets.mono).trans post.mono,
    (linkClear.trans linkSet).trans (link_post _ _ _), ?_⟩
  · rw [post_costs, same]
    rfl
  · exact ((((Marks.of_keeps f.keeps).trans marked).then sets).trans (marks_post x _ p)).congr (Bool.or_true _)

theorem numbered_congr (editions : w.editions = s.editions) {o' : Order} (edition : o'.edition = o.edition)
    (outcome : AttemptOutcome) : w.numbered o' outcome = s.numbered o outcome := by
  unfold State.numbered State.findEdition
  rw [editions, edition]

theorem editionsAccepted_congr (editions : w.editions = s.editions) (colour : w.colour = s.colour)
    (clock : w.orders.clock = s.orders.clock) (n : Option (Fin 16 × Edition)) :
    w.editionsAccepted a n = s.editionsAccepted a n := by
  unfold State.editionsAccepted State.editionAccepted State.kindReference
  rw [editions, colour, clock]

/-- The order table of the outcome, written over the record that the posting and the numbering have made. -/
theorem outcomeOrders_cut {outcome : AttemptOutcome} (media : w.media = s.media) (ink : w.ink = s.ink)
    (colour : w.colour = s.colour) (editions : s.numbered o outcome = none → w.editions = s.editions)
    (orders : w.orders = { s.orders with slots := s.orders.slots.set a.slot (some
      ((o.charged outcome.ownAccount (a.cutPosting o.mediaKind outcome)).numberedBy (s.numbered o outcome))) }) :
    w.outcomeOrders a.slot ((o.charged outcome.ownAccount (a.cutPosting o.mediaKind outcome)).numberedBy
      (s.numbered o outcome)) outcome = s.ordersCut a o outcome := by
  unfold State.outcomeOrders State.ordersCut
  have record : (((o.charged outcome.ownAccount (a.cutPosting o.mediaKind outcome)).numberedBy
      (s.numbered o outcome)).taking outcome) = s.cutRecord a o outcome := rfl
  have final : (s.cutRecord a o outcome).finalState outcome = o.finalState outcome := finalState_congr rfl rfl rfl _
  rw [record, final]
  cases ends : o.finalState outcome with
  | some final => simp only [orders, Vector.set_set]
  | none =>
    have holds : w.holdReasons (s.cutRecord a o outcome) = s.holdReasons o :=
      (holdReasons_congr (by rw [media]) (by rw [media]) ink colour (editions (numbered_retried s ends)) _).trans
        (holdReasons_fields s rfl rfl rfl rfl rfl rfl)
    simp only [orders, Vector.set_set, State.evaluated, holds]

/-- The final cut after the error it forgives (R60). -/
theorem finalCut_done (f : Forgives s v) (slot : s.orders.slots[a.slot] = some o) (phase : a.phase = .cut) :
    let u := v.attemptCut a
    let outcome := a.cutOutcome o
    let p := a.cutPosting o.mediaKind outcome
    Forgiven s u ∧ u.uncut = false ∧ u.holder = .idle ∧ CostNoted s u ∧ LateNoted s u ∧
      u.costs = s.costs.postedTo (if outcome.ownAccount then o.account else 0) p ∧
      u.notices.pending &&& 1#8 = 1#8 ∧ u.orders = s.ordersCut a o outcome ∧
      u.editions = s.editionsAccepted a (s.numbered o outcome) ∧
      Keeps ([.engine, .holder, .orders, .costs, .uncut, .editions] ++ linkBlocks) s u ∧ Marks true s u := by
  intro u outcome p
  have orders : v.orders = s.orders := f.keeps.at .orders
  have split : u = (((if outcome = .accepted then
      ((v.writeUncut false).postAttempt { a with cutsMade := 1 } outcome outcome.ownAccount).numberPrint { a with cutsMade := 1 }
      else (v.writeUncut false).postAttempt { a with cutsMade := 1 } outcome outcome.ownAccount).applyOutcome a.slot
        outcome).setHolder .idle) := by
    show v.attemptCut a = _
    unfold State.attemptCut
    rw [if_neg (by simp [phase]), orders, slot]
    simp only
    rw [show ({ a with cutsMade := 1 } : Attempt).outcomeAtCut o = a.cutOutcome o from a.outcomeAtCut_eq o]
    rfl
  have posted := cutPosted f slot outcome outcome.ownAccount
  generalize (v.writeUncut false).postAttempt { a with cutsMade := 1 } outcome outcome.ownAccount = w at posted split
  have here : w.orders.slots[a.slot] = some (o.charged outcome.ownAccount p) := by
    rw [posted.orders]
    exact Vector.getElem_set_self _
  have media : w.media = s.media := (posted.keeps.at .media).trans (f.keeps.at .media)
  have ink : w.ink = s.ink := (posted.keeps.at .ink).trans (f.keeps.at .ink)
  have colour : w.colour = s.colour := (posted.keeps.at .colour).trans (f.keeps.at .colour)
  have editions : w.editions = s.editions := (posted.keeps.at .editions).trans (f.keeps.at .editions)
  have clock : w.orders.clock = s.orders.clock := by rw [posted.orders]
  obtain ⟨table, accepted, keeps, link, marks⟩ := numberPrint_numbered here outcome
  rw [numbered_congr editions (o := o) (by rfl) outcome] at table accepted
  rw [editionsAccepted_congr editions colour clock] at accepted
  change u = (((if outcome = .accepted then w.numberPrint a else w).applyOutcome a.slot outcome).setHolder .idle) at split
  generalize (if outcome = .accepted then w.numberPrint a else w) = x at table accepted keeps link marks split
  rw [posted.orders, Vector.set_set] at table
  have slotX : x.orders.slots[a.slot] = some ((o.charged outcome.ownAccount p).numberedBy (s.numbered o outcome)) := by
    rw [table]
    exact Vector.getElem_set_self _
  have ends := applyOutcome_orders slotX outcome
  rw [outcomeOrders_cut ((keeps.at .media).trans media) ((keeps.at .ink).trans ink) ((keeps.at .colour).trans colour)
    (fun none => by rw [accepted, none]; rfl) table] at ends
  have order := applyOutcome_order slotX outcome
  have late := lateNoted_applyOutcome x a.slot outcome
  have keepsEnd := keeps_applyOutcome x a.slot outcome
  have linkEnd := link_applyOutcome x a.slot outcome
  generalize x.applyOutcome a.slot outcome = y at ends order late keepsEnd linkEnd split
  have last : Keeps [.holder] y u := split ▸ keeps_setHolder y _
  have linkLast : LinkKept y u := split ▸ link_setHolder y _
  have after : Keeps [.orders, .editions, .store, .notices, .server, .holder] w u :=
    (keeps.mono.trans keepsEnd.mono).then last
  have linkAfter : LinkKept w u := (link.trans linkEnd).trans linkLast
  have lates (i : Fin 40) : (x.orders.slots[i]).map (·.late) = (s.orders.slots[i]).map (·.late) := by
    rw [table]
    exact late_of_set_same (o' := (o.charged outcome.ownAccount p).numberedBy (s.numbered o outcome)) slot rfl i
  refine ⟨f.stays (posted.keeps.mono.trans after.mono :
      Keeps [.orders, .costs, .uncut, .editions, .store, .notices, .server, .holder] v u) (posted.link.trans linkAfter),
    (after.at .uncut).trans posted.uncut, split ▸ rfl, posted.noted.then after linkAfter,
    (late.after lates).then (last.at .orders) linkLast, (after.at .costs).trans posted.costs, linkLast.stays order,
    (last.at .orders).trans ends, ?_, (f.keeps.mono.trans posted.keeps.mono).trans after.mono, ?_⟩
  · exact (last.at .editions).trans ((keepsEnd.at .editions).trans accepted)
  · obtain ⟨b, marks⟩ := marks
    exact (((posted.marks.trans marks).then keepsEnd).then last).congr (Bool.true_or b)

end

/-! ### The statement -/

theorem Order.spoiled_waste (o : Order) (s : State) (a : Attempt) : o.spoiled (s.wasteCutPosting a o) =
    { o with cost := { o.cost with spoiledTotal := min 281474976710655 (o.cost.spoiledTotal +
      ((a.waste * s.costs.prices.media[o.mediaKind] + 500) / 1000 + s.costs.prices.cut)) } } := by
  simp only [Order.spoiled, CostSummary.addSpoiled, State.wasteCutPosting, Posting.total, satAdd, max48, Nat.zero_add,
    Nat.add_zero]

theorem Order.charged_eq (o : Order) (own : Bool) (p : Posting) : o.charged own p =
    { o with cost := if own then
        { o.cost with
          ownInk := min 281474976710655 (o.cost.ownInk + p.ink),
          ownMedia := min 281474976710655 (o.cost.ownMedia + p.media),
          ownCut := min 281474976710655 (o.cost.ownCut + p.cut),
          handling := min 281474976710655 (o.cost.handling + p.handling),
          ownTotal := min 281474976710655 (o.cost.ownTotal + (p.ink + p.media + p.cut + p.handling)) }
      else { o.cost with spoiledTotal := min 281474976710655 (o.cost.spoiledTotal +
        (p.ink + p.media + p.cut + p.handling)) } } := by
  simp only [Order.charged, CostSummary.addOwn, CostSummary.addSpoiled, Posting.total, satAdd, max48]

theorem ownAccount_eq (outcome : AttemptOutcome) : outcome.ownAccount = match outcome with
    | .accepted | .cancelled | .stopped => true
    | _ => false := by
  cases outcome <;> rfl

theorem finalState_eq (o : Order) (outcome : AttemptOutcome) : o.finalState outcome = match outcome with
    | .accepted => some .completed
    | .cancelled => some .cancelled
    | .stopped => some .stopped
    | _ => if o.cancelRequested then some .cancelled
      else if o.attemptsUsed < o.attemptsAllowed then none else some .failed := by
  cases outcome <;> rfl

/-- Settles O48: the waste cut by `wasteCut_done`, the final cut by `finalCut_done`. -/
theorem attemptCutDone : Obligations.AttemptCutDone := by
  intro s tag a o counted holds slot active awaits
  have f := forgives_of_counted counted
  have delivered := deliver_attempt ((f.keeps.at .holder).trans holds) .cut .cutDone
  refine ⟨fun phase => ?_, fun phase => ?_⟩
  · obtain ⟨forgiven, uncut, cost, costs, orders, holder, keeps, marks⟩ := wasteCut_done f slot phase
    rw [Order.spoiled_waste] at orders
    obtain ⟨t, ht, served, marked⟩ := report_marks (c := .cutDone tag) rfl awaits rfl delivered
      (changed := [.engine, .holder, .orders, .costs, .uncut]) (P := fun u => u = s.freeSlot.forgiveError.attemptCut a)
      rfl keeps marks
    refine ⟨t, ht, marked.1 rfl, served.imp fun u hu => ?_⟩
    rw [hu]
    exact ⟨forgiven, uncut, cost, costs, orders, _, holder, rfl⟩
  · intro outcome own inkCost posting account final kindReference numbered past total o1
    obtain ⟨forgiven, uncut, idle, cost, late, costs, order, orders, editions, keeps, marks⟩ := finalCut_done f slot phase
    obtain ⟨t, ht, served, marked⟩ := report_marks (c := .cutDone tag) rfl awaits rfl delivered
      (changed := [.engine, .holder, .orders, .costs, .uncut, .editions])
      (P := fun u => u = s.freeSlot.forgiveError.attemptCut a) rfl keeps marks
    refine ⟨t, ht, marked.1 rfl, served.imp fun u hu => ?_⟩
    rw [hu]
    have decided : a.cutOutcome o = outcome := rfl
    have posted : a.cutPosting o.mediaKind outcome = posting := rfl
    have ownAccount : outcome.ownAccount = own := ownAccount_eq outcome
    have finalState : o.finalState outcome = final := finalState_eq o outcome
    have numbers : s.numbered o outcome = numbered := rfl
    have lateness : o.pastDeadline s.orders.clock = past := o.pastDeadline_eq s.orders.clock
    have record : s.cutRecord a o outcome = o1 := by
      unfold State.cutRecord
      rw [Order.charged_eq, ownAccount, posted, numbers]
      rfl
    rw [decided, posted, ownAccount] at costs
    rw [decided] at orders editions
    rw [numbers] at editions
    refine ⟨forgiven, uncut, idle, cost, late, costs, order, orders.trans ?_, editions.trans ?_⟩
    · unfold State.ordersCut
      unfold Order.ended
      rewrite [finalState, record, show o1.pastDeadline s.orders.clock = past from lateness]
      rfl
    · have kinds : s.kindReference = kindReference := funext fun k => by
        change (s.colour.settings[k]).bind _ = match s.colour.settings[k] with | none => none | some x => x.reference
        cases s.colour.settings[k] <;> rfl
      unfold State.editionsAccepted State.editionAccepted
      rewrite [kinds]
      rfl

end Sys2Proof.Machine

/-! Roll and cover events (O49; R16, R17, R30, R33, R46, R61, R75, R170, R171). -/

namespace Sys2Proof.Machine

/-! ### Start-up reports and events that end nothing (R30, R75) -/

theorem noted_eq (e : EngineLink) (roll : Bool) : e.noted roll =
    if e.startUpFlag = true ∧ e.state ≠ .starting then
      { e with rollNoted := e.rollNoted || roll, coverNoted := e.coverNoted || !roll,
               startUpFlag := !((e.rollNoted || roll) && (e.coverNoted || !roll)) }
    else e := by
  unfold EngineLink.noted
  by_cases h : e.startUpFlag = true ∧ e.state ≠ .starting
  · simp [h]
  · rw [if_neg h, if_neg (by simpa using h)]

section
variable {s t u v w x y : State} {a : Attempt} {o : Order}

theorem run_roll (works : Works s) (b : Byte) : exec (.rollEvent b) s = s.run fun _ => s.takeRollEvent b := by
  show (s.run fun s => s.engineRoll b) = _
  simp [State.run, works.1, State.engineRoll, State.whenWorking, State.working, works.2]

theorem run_cover (works : Works s) (b : Byte) : exec (.coverEvent b) s = s.run fun _ => s.takeCoverEvent b := by
  show (s.run fun s => s.engineCover b) = _
  simp [State.run, works.1, State.engineCover, State.whenWorking, State.working, works.2]

/-- The removal of the declared roll is due at an absent (R30; log entry 21). -/
def State.removes (s : State) : Prop :=
  s.media.roll.declared = true ∧ (s.media.present = true ∨ s.engine.state ≠ .starting)

theorem rollAbsent_kept (h : ¬s.removes) : s.rollAbsent = s.setMedia { s.media with present := false } := by
  unfold State.removes at h
  unfold State.rollAbsent
  cases present : s.media.present <;> cases declared : s.media.roll.declared <;> simp_all
  all_goals
    have same : { s.media with present := false } = s.media := by rw [← present]
    rw [same]
    rfl

theorem rollAbsent_removes (h : s.removes) : s.rollAbsent = (s.setMedia { s.media with present := false }).removeRoll := by
  obtain ⟨declared, known⟩ := h
  unfold State.rollAbsent
  rw [if_pos (by simpa [declared] using known), declared]
  rfl

/-- A roll event that only marks the roll. -/
theorem roll_marked (works : Works s) (b : Byte) (present : Bool)
    (takes : s.takeRollEvent b = ((s.setMedia { s.media with present := present }).setEngine (s.engine.noted true)).serveSlot) :
    ∃ t, exec (.rollEvent b) s = .next t ∧ Served [.media, .engine] s t fun u =>
      u.media = { s.media with present := present } ∧ u.engine = s.engine.noted true ∧
        u.notices.pending = s.notices.pending := by
  obtain ⟨t, ht, served, -⟩ := run_served s works (fun _ => s.takeRollEvent b) _ [.media, .engine]
    (fun u => u.media = { s.media with present := present } ∧ u.engine = s.engine.noted true ∧
      u.notices.pending = s.notices.pending) takes ⟨rfl, rfl, rfl⟩ ((keeps_setMedia s _).mono.then (keeps_setEngine _ _))
  exact ⟨t, (run_roll works b).trans ht, served⟩

theorem cover_set (works : Works s) (b : Byte) (h : b = 0 ∨ b = 1) :
    ∃ t, exec (.coverEvent b) s = .next t ∧ Served [.engine] s t fun u =>
      u.engine = ({ s.engine with coverClosed := b == 1 } : EngineLink).noted false ∧
        u.notices.pending = s.notices.pending := by
  obtain ⟨t, ht, served, -⟩ := run_served s works (fun _ => s.takeCoverEvent b) _ [.engine]
    (fun u => u.engine = ({ s.engine with coverClosed := b == 1 } : EngineLink).noted false ∧
      u.notices.pending = s.notices.pending) (if_pos h) ⟨rfl, rfl⟩ (keeps_setEngine s _).mono
  exact ⟨t, (run_cover works b).trans ht, served⟩

theorem unused_byte (works : Works s) {b : Byte} (zero : b ≠ 0) (one : b ≠ 1) :
    exec (.rollEvent b) s = .next s.closeStep ∧ exec (.coverEvent b) s = .next s.closeStep := by
  have roll : s.takeRollEvent b = s := (if_neg one).trans (if_neg zero)
  have cover : s.takeCoverEvent b = s := if_neg (not_or.2 ⟨zero, one⟩)
  rw [run_roll works, run_cover works]
  simp [State.run, works.1, roll, cover]

/-! ### The roll taken away (R30, R46) -/

/-- The reference of the order whose attempt holds the slot. -/
def State.attemptOrder (s : State) : Option Word32 := match s.holder with | .attempt a => some a.reference | _ => none

/-- The roll and its declaration are gone, with its clear-out and the pending trim. -/
def State.unrolled (s : State) : State :=
  let s1 := (s.setMedia { s.media with present := false }).setRoll
    { s.media.roll with declared := false, clearOutPending := false }
  s1.setEngine { s1.engine with pendingTrim := none }

/-- The removal is recorded. -/
def State.rollTaken (s : State) : State := s.unrolled.noteMedia .rollRemoved s.attemptOrder

theorem keeps_unrolled (s : State) : Keeps [.media, .store, .engine] s s.unrolled :=
  ((keeps_setMedia s _).mono.then (keeps_setRoll _ _)).then (keeps_setEngine _ _)

theorem unrolled_media (s : State) : s.unrolled.media = { s.media with
    present := false, roll := { s.media.roll with declared := false, clearOutPending := false } } :=
  setRoll_media (s.setMedia { s.media with present := false }) _

theorem unrolled_engine (s : State) : s.unrolled.engine = { s.engine with pendingTrim := none } := by
  have engine : ((s.setMedia { s.media with present := false }).setRoll
    { s.media.roll with declared := false, clearOutPending := false }).engine = s.engine := (keeps_setRoll _ _).at .engine
  exact congrArg (fun e : EngineLink => { e with pendingTrim := none }) engine

theorem marks_unrolled (declared : s.media.roll.declared = true) : Marks true s s.unrolled := by
  have moves : ({ s.media.roll with declared := false, clearOutPending := false } : Roll) ≠ s.media.roll := fun same => by
    have off := congrArg Roll.declared same
    rw [declared] at off
    cases off
  have roll := marks_setRoll (s.setMedia { s.media with present := false })
    { s.media.roll with declared := false, clearOutPending := false }
  exact ((Marks.after (keeps_setMedia s _) roll).then (keeps_setEngine _ _)).congr (decide_eq_true moves)

theorem removeRoll_eq (s : State) : (s.setMedia { s.media with present := false }).removeRoll =
    s.rollTaken.endRollUser.reevaluate := by
  have holder : s.unrolled.holder = s.holder := (keeps_unrolled s).at .holder
  have order : (s.unrolled.attempt?).map (·.reference) = s.attemptOrder := by
    unfold State.attempt? State.attemptOrder
    rw [holder]
    cases s.holder <;> rfl
  unfold State.rollTaken
  rw [← order]
  rfl

/-- What the roll's removal leaves before its user ends. -/
structure Taken (s x : State) : Prop where
  media : x.media = { s.media with
    present := false, roll := { s.media.roll with declared := false, clearOutPending := false },
    condition := some { event := .rollRemoved, clock := s.orders.clock, order := s.attemptOrder } }
  engine : x.engine = { s.engine with pendingTrim := none }
  noted : x.notices.pending &&& 16#8 = 16#8
  keeps : Keeps [.media, .engine, .store, .notices, .server] s x
  link : LinkKept s x

theorem rollTaken_taken (s : State) : Taken s s.rollTaken := by
  have keeps := keeps_unrolled s
  have link : LinkKept s s.unrolled := ((link_setMedia s _).trans (link_setRoll _ _)).trans (link_setEngine _ _)
  refine ⟨?_, ((keeps_noteMedia _ _ _).at .engine).trans (unrolled_engine s), ?_, keeps.mono.then (keeps_noteMedia _ _ _),
    link.trans (link_noteMedia _ _ _)⟩
  · rw [State.rollTaken, noteMedia_media, unrolled_media, keeps.at .orders]
  · rw [State.rollTaken, noteMedia_pending]
    exact raised_bit _ _

theorem marks_rollTaken (declared : s.media.roll.declared = true) : Marks true s s.rollTaken :=
  (marks_unrolled declared).then (keeps_noteMedia _ _ _)

/-! ### The party that has ended (R46) -/

/-- The engine link whose outstanding command no party waits for. -/
def EngineLink.orphaned (e : EngineLink) : EngineLink :=
  { e with outstanding := e.outstanding.map fun x =>
      if x.party ∈ [.attempt, .clearOut, .trim] then { x with party := .ended } else x }

theorem orphanCommand_eq (s : State) : s.orphanCommand = s.setEngine s.engine.orphaned := by
  unfold State.orphanCommand EngineLink.orphaned
  cases out : s.engine.outstanding with
  | none =>
    have same : { s.engine with outstanding := none } = s.engine := by rw [← out]
    rw [Option.map_none, same]
    rfl
  | some x =>
    by_cases uses : x.party = .attempt ∨ x.party = .clearOut ∨ x.party = .trim
    · simp [uses]
    · have same : { s.engine with outstanding := some x } = s.engine := by rw [← out]
      simp only [uses, if_false, Option.map_some, List.mem_cons, List.not_mem_nil, or_false, same]
      rfl

/-- Two order tables that every re-evaluation makes the same. -/
def SameEvaluated (b b' : OrderBlock) : Prop :=
  { b' with slots := b.slots } = b ∧ ∀ (t : State) (i : Fin 40), t.reevaluatedSlot b.slots[i] = t.reevaluatedSlot b'.slots[i]

theorem SameEvaluated.refl (b : OrderBlock) : SameEvaluated b b := ⟨rfl, fun _ _ => rfl⟩

theorem SameEvaluated.reevaluated {b b' : OrderBlock} (h : SameEvaluated b b') (t : State) :
    { b with slots := Vector.ofFn fun i => t.reevaluatedSlot b.slots[i] } =
      { b' with slots := Vector.ofFn fun i => t.reevaluatedSlot b'.slots[i] } := by
  obtain ⟨rest, slots⟩ := h
  simp only [slots]
  rw [← rest]

/-- What the end of the roll's user leaves, beside its postings and the order table before the re-evaluation (R46, R61). -/
structure RollUserEnded (s x y : State) : Prop where
  holder : y.holder = if s.holder.usesRoll then .idle else s.holder
  engine : y.engine = if s.holder.usesRoll then x.engine.orphaned else x.engine
  costs : y.costs = s.costsEnded true
  cost : CostNoted s y
  late : LateNoted s y
  uncut : y.uncut = (match s.holder with | .attempt _ => false | _ => s.uncut)
  orders : SameEvaluated y.orders (s.ordersEnded .failedMedia)
  ordered : y.orders = s.orders ∨ y.notices.pending &&& 1#8 = 1#8
  attempt : (∃ a, s.holder = .attempt a ∧ s.orders.slots[a.slot] ≠ none) → y.notices.pending &&& 1#8 = 1#8
  media : y.media = x.media
  keeps : Keeps [.media, .engine, .holder, .orders, .costs, .uncut, .store, .notices, .server] s y
  link : LinkKept x y
  marks : MayMark x y

/-- The order table with an outcome, over tables that hold the same but are evaluated apart. -/
theorem outcomeOrders_evaluated {i : Fin 40} {o₁ : Order} {outcome : AttemptOutcome}
    (table : w.orders = { s.orders with slots := s.orders.slots.set i (some o) }) :
    SameEvaluated (w.outcomeOrders i o₁ outcome) (s.outcomeOrders i o₁ outcome) := by
  unfold State.outcomeOrders
  cases Order.finalState _ outcome with
  | some final =>
    simp only [table, Vector.set_set]
    exact .refl _
  | none =>
    simp only [table, Vector.set_set]
    refine ⟨rfl, fun t j => ?_⟩
    have waits (z : State) : (z.evaluated (o₁.taking outcome)).state.waiting = true := by
      unfold State.evaluated
      simp only
      split <;> rfl
    by_cases here : i = j
    · subst here
      simp only [Fin.getElem_fin, Vector.getElem_set_self, State.reevaluatedSlot, waits, if_true]
      rfl
    · simp only [Fin.getElem_fin, Vector.getElem_set_ne _ _ (Fin.val_ne_of_ne here)]

/-- The end of an attempt whose roll is removed. -/
theorem rollUser_attempt (taken : Taken s x) (holds : s.holder = .attempt a) : RollUserEnded s x x.endRollUser := by
  have holder : x.holder = .attempt a := (taken.keeps.at .holder).trans holds
  have uses : s.holder.usesRoll = true := by rw [holds]; rfl
  have split : x.endRollUser = (x.setEngine x.engine.orphaned).endAtOnce a .failedMedia false := by
    unfold State.endRollUser
    rw [holder, ← orphanCommand_eq]
  have orders : x.orders = s.orders := taken.keeps.at .orders
  have costs : x.costs = s.costs := taken.keeps.at .costs
  obtain ⟨w, ends, spoiled, marks, keeps, media, uncut⟩ :=
    endAtOnce_spec (outcome := .failedMedia) (x.setEngine x.engine.orphaned) a (by simp) false
  rw [split, ends]
  have postings : (x.setEngine x.engine.orphaned).attemptPostings a .failedMedia = s.attemptPostings a .failedMedia := by
    have kind : (x.setEngine x.engine.orphaned).slotKind a.slot = s.slotKind a.slot := by
      simp only [State.slotKind]
      rw [show (x.setEngine x.engine.orphaned).orders = s.orders from orders]
    simp only [State.attemptPostings, State.wastePostings, kind]
    rw [show (x.setEngine x.engine.orphaned).costs = s.costs from costs]
  rw [postings] at spoiled
  have applies := keeps_applyOutcome w a.slot .failedMedia
  have link : LinkKept w (w.applyOutcome a.slot .failedMedia) := link_applyOutcome _ _ _
  have late : LateNoted s (w.applyOutcome a.slot .failedMedia) := (lateNoted_applyOutcome _ _ _).after fun j => by
    rw [spoiled.late j, show (x.setEngine x.engine.orphaned).orders = s.orders from orders]
  have before : LinkKept x w := (link_setEngine x _).trans spoiled.link
  have cost : CostNoted s w := spoiled.noted.after costs
  have whole : Keeps [.media, .engine, .holder, .orders, .costs, .uncut, .store, .notices, .server] s
      ((w.applyOutcome a.slot .failedMedia).setHolder .idle) :=
    (((taken.keeps.mono.then (keeps_setEngine x _)).trans keeps.mono).then applies).then (keeps_setHolder _ _)
  have slot := spoiled.slot
  have table : w.orders = _ := spoiled.orders
  rw [show (x.setEngine x.engine.orphaned).orders = s.orders from orders] at slot table
  have ended : SameEvaluated (w.applyOutcome a.slot .failedMedia).orders (s.ordersEnded .failedMedia) ∧
      ((w.applyOutcome a.slot .failedMedia).orders = s.orders ∨
        (w.applyOutcome a.slot .failedMedia).notices.pending &&& 1#8 = 1#8) ∧
      (s.orders.slots[a.slot] ≠ none → (w.applyOutcome a.slot .failedMedia).notices.pending &&& 1#8 = 1#8) := by
    cases held : s.orders.slots[a.slot] with
    | none =>
      rw [held] at slot table
      rw [applyOutcome_none slot, ordersEnded_absent holds held, table]
      exact ⟨.refl _, .inl rfl, fun h => absurd rfl h⟩
    | some o =>
      rw [held] at slot table
      rw [applyOutcome_orders slot, ordersEnded_attempt holds held rfl (by simp)]
      exact ⟨outcomeOrders_evaluated table, .inr (applyOutcome_order slot _), fun _ => applyOutcome_order slot _⟩
  obtain ⟨same, ordered, order⟩ := ended
  refine ⟨?_, ?_, ?_, cost.then (applies.mono.then (keeps_setHolder _ .idle) :
      Keeps [.orders, .notices, .server, .holder] w _) (link.trans (link_setHolder _ _)), ?_, ?_, same, ordered, ?_, ?_, whole, before.trans (link.trans (link_setHolder _ _)),
    ?_⟩
  · rw [uses]
    rfl
  · rw [uses]
    exact (applies.at .engine).trans (keeps.at .engine)
  · rw [State.costsEnded, endPostings_attempt (outcome := .failedMedia) holds true (by simp)]
    exact (applies.at .costs).trans (spoiled.costs.trans (by rw [show (x.setEngine x.engine.orphaned).costs = s.costs from costs]; rfl))
  · exact late.then rfl (link_setHolder _ _)
  · rw [holds]
    exact (applies.at .uncut).trans uncut
  · rintro ⟨b, held, some⟩
    obtain rfl : a = b := by rw [holds] at held; exact Holder.attempt.inj held
    exact order some
  · refine (applies.at .media).trans (media.trans ?_)
    rw [clearUncut_media, Bool.false_and, Bool.false_and, Bool.or_false]
    rfl
  · exact (((Marks.after (keeps_setEngine x _) marks).then applies).then (keeps_setHolder _ _)).mayMark

/-- A user of the roll that has no order, or no user. -/
theorem RollUserEnded.of_still (keeps : Keeps [.media, .engine, .holder, .costs, .store, .notices, .server] s y)
    (holder : y.holder = if s.holder.usesRoll then .idle else s.holder)
    (engine : y.engine = if s.holder.usesRoll then x.engine.orphaned else x.engine) (costs : y.costs = s.costsEnded true)
    (cost : CostNoted s y) (printing : ∀ a, s.holder ≠ .attempt a) (media : y.media = x.media) (link : LinkKept x y)
    (marks : MayMark x y) : RollUserEnded s x y where
  holder := holder
  engine := engine
  costs := costs
  cost := cost
  late := .of_orders (keeps.at .orders)
  uncut := (keeps.at .uncut).trans (by
    cases holds : s.holder with
    | attempt a => exact absurd holds (printing a)
    | _ => rfl)
  orders := by
    have still : s.ordersEnded .failedMedia = s.orders := by
      unfold State.ordersEnded
      cases holds : s.holder with
      | attempt a => exact absurd holds (printing a)
      | _ => rfl
    rw [still, keeps.at .orders]
    exact .refl _
  ordered := .inl (keeps.at .orders)
  attempt := fun ⟨a, holds, _⟩ => absurd holds (printing a)
  media := media
  keeps := keeps.mono
  link := link
  marks := marks

theorem rollUser_trim (taken : Taken s x) {k : Task} (holds : s.holder = .trim k) : RollUserEnded s x x.endRollUser := by
  have uses : s.holder.usesRoll = true := by rw [holds]; rfl
  have split : x.endRollUser = ((x.postFed k).setEngine x.engine.orphaned).setHolder .idle := by
    have engine : (x.postFed k).engine = x.engine := (keeps_postFed x k).at .engine
    unfold State.endRollUser
    rw [(taken.keeps.at .holder).trans holds]
    simp only
    rw [orphanCommand_eq, ← engine]
    rfl
  have costs : x.costs = s.costs := taken.keeps.at .costs
  have fed : x.fedPostings k = s.fedPostings k := by
    unfold State.fedPostings
    simp only [costs, taken.media]
  have post := keeps_postFed x k
  have after : Keeps [.engine, .holder] (x.postFed k) x.endRollUser :=
    split ▸ (keeps_setEngine _ _).mono.then (keeps_setHolder _ _)
  have link : LinkKept (x.postFed k) x.endRollUser := split ▸ (link_setEngine _ _).trans (link_setHolder _ _)
  refine .of_still ((taken.keeps.mono.trans post.mono).trans after.mono) ?_ ?_ ?_ ?_ (by simp [holds]) ?_
    ((link_postFed x k).trans link) ((marks_postFed x k).then after).mayMark
  · rw [uses, split]
    rfl
  · rw [uses, split]
    rfl
  · rw [after.at .costs, postFed_costs, fed, costs, State.costsEnded, fedPostings_trim holds]
    rfl
  · exact ((costNoted_postFed x k).after costs).then after link
  · exact (after.at .media).trans (post.at .media)

theorem rollUser_unposted (taken : Taken s x) (posts : s.endPostings true = []) (printing : ∀ a, s.holder ≠ .attempt a)
    (ends : x.endRollUser = if s.holder.usesRoll then (x.setEngine x.engine.orphaned).setHolder .idle else x) :
    RollUserEnded s x x.endRollUser := by
  have keeps : Keeps [.engine, .holder] x x.endRollUser := by
    rw [ends]
    exact keeps_ite _ ((keeps_setEngine _ _).mono.then (keeps_setHolder _ _)) (Keeps.refl _ _)
  have link : LinkKept x x.endRollUser := by
    rw [ends]
    exact link_ite _ ((link_setEngine _ _).trans (link_setHolder _ _)) (.refl _)
  have holder : x.holder = s.holder := taken.keeps.at .holder
  refine .of_still (taken.keeps.mono.then keeps) ?_ ?_ ?_ (.of_costs ((keeps.at .costs).trans (taken.keeps.at .costs)))
    printing (keeps.at .media) link (Marks.of_keeps keeps).mayMark
  · rw [ends]
    cases s.holder.usesRoll with
    | true => rfl
    | false => exact holder
  · rw [ends]
    cases s.holder.usesRoll <;> rfl
  · rw [keeps.at .costs, taken.keeps.at .costs, State.costsEnded, posts]
    rfl

/-- Whatever uses the roll, its end at the roll's removal. -/
theorem rollUserEnded (taken : Taken s x) : RollUserEnded s x x.endRollUser := by
  have holder : x.holder = s.holder := taken.keeps.at .holder
  cases holds : s.holder with
  | attempt a => exact rollUser_attempt taken holds
  | trim k => exact rollUser_trim taken holds
  | clearOut k =>
    refine rollUser_unposted taken (by rw [State.endPostings, holds]; rfl) (by simp [holds]) ?_
    rw [State.endRollUser, holder, holds, ← orphanCommand_eq]
    rfl
  | idle =>
    refine rollUser_unposted taken (by rw [State.endPostings, holds]) (by simp [holds]) ?_
    rw [State.endRollUser, holder, holds]
    rfl
  | cleaning levels =>
    refine rollUser_unposted taken (by rw [State.endPostings, holds]) (by simp [holds]) ?_
    rw [State.endRollUser, holder, holds]
    rfl
  | probing due =>
    refine rollUser_unposted taken (by rw [State.endPostings, holds]) (by simp [holds]) ?_
    rw [State.endRollUser, holder, holds]
    rfl

end

end Sys2Proof.Machine

/-! What a roll's removal leaves (O49; R16, R17, R30, R46). -/

namespace Sys2Proof.Machine

section
variable {s t u v w x y : State} {a : Attempt} {o : Order}

/-! ### Orders without a roll (R16) -/

theorem holdReasons_noRoll (undeclared : u.media.roll.declared = false) (o : Order) : u.holdReasons o =
    { noRoll := true, supply := (u.holdReasons o).supply, colourSuspended := (u.holdReasons o).colourSuspended } := by
  simp [State.holdReasons, undeclared]

/-- Without a declared roll every waiting order is held, with NO_ROLL. -/
theorem evaluated_noRoll (undeclared : u.media.roll.declared = false) (o : Order) :
    (u.evaluated o).state = .held ∧ (u.evaluated o).holds =
      { noRoll := true, supply := (u.evaluated o).holds.supply,
        colourSuspended := (u.evaluated o).holds.colourSuspended } := by
  have reasons := holdReasons_noRoll undeclared o
  have held : u.holdReasons o ≠ {} := by
    rw [reasons]
    simp
  exact ⟨if_neg held, reasons⟩

theorem reevaluated_noRoll (undeclared : u.media.roll.declared = false) {x : Option Order}
    (h : u.reevaluatedSlot x = some o) (waits : o.state.waiting = true) :
    o.state = .held ∧ o.holds = { noRoll := true, supply := o.holds.supply, colourSuspended := o.holds.colourSuspended } := by
  cases x with
  | none => cases h
  | some z =>
    unfold State.reevaluatedSlot at h
    simp only at h
    split at h
    · obtain rfl := Option.some.inj h
      exact evaluated_noRoll undeclared z
    · next idle =>
      obtain rfl := Option.some.inj h
      exact absurd waits idle

/-- A re-evaluation settles no late flag. -/
theorem reevaluatedSlot_late (s : State) (x : Option Order) : (s.reevaluatedSlot x).map (·.late) = x.map (·.late) := by
  cases x with
  | none => rfl
  | some o =>
    unfold State.reevaluatedSlot
    simp only
    split <;> rfl

/-- The order of an attempt whose roll is removed (R19, R61). -/
theorem removed_order (undeclared : u.media.roll.declared = false) (holds : s.holder = .attempt a)
    (slot : s.orders.slots[a.slot] = some o) :
    ∃ o', u.reevaluatedSlot (s.ordersEnded .failedMedia).slots[a.slot] = some o' ∧ o'.lastOutcome = some .failedMedia ∧
      (if o.cancelRequested then o'.state = .cancelled
       else if o.attemptsUsed < o.attemptsAllowed then o'.state = .held else o'.state = .failed) := by
  have base := ordersEnded_attempt (outcome := .failedMedia) holds slot rfl (by simp)
  generalize hp : (s.attemptPostings a .failedMedia).foldl Order.spoiled o = p at base
  have fields : p = { o with cost := p.cost } := by
    rw [← hp, foldl_spoiled]
  have cancel : p.cancelRequested = o.cancelRequested := by rw [fields]
  have used : p.attemptsUsed = o.attemptsUsed := by rw [fields]
  have allowed : p.attemptsAllowed = o.attemptsAllowed := by rw [fields]
  have final := finalState_fails (outcome := .failedMedia) (p.taking .failedMedia) rfl
  rw [show (p.taking .failedMedia).cancelRequested = p.cancelRequested from rfl,
    show (p.taking .failedMedia).attemptsUsed = p.attemptsUsed from rfl,
    show (p.taking .failedMedia).attemptsAllowed = p.attemptsAllowed from rfl, cancel, used, allowed] at final
  unfold State.outcomeOrders at base
  rw [final] at base
  by_cases cancelled : o.cancelRequested = true
  · simp only [if_pos cancelled] at base ⊢
    refine ⟨(p.taking .failedMedia).ended .cancelled s.orders.clock, ?_, rfl, rfl⟩
    rw [base]
    simp [State.reevaluatedSlot, Order.ended, OrderState.waiting]
  · simp only [if_neg cancelled] at base ⊢
    by_cases left : o.attemptsUsed < o.attemptsAllowed
    · simp only [if_pos left] at base ⊢
      have waits : (s.evaluated (p.taking .failedMedia)).state.waiting = true := by
        unfold State.evaluated
        simp only
        split <;> rfl
      refine ⟨u.evaluated (s.evaluated (p.taking .failedMedia)), ?_, rfl, (evaluated_noRoll undeclared _).1⟩
      rw [base]
      simp [State.reevaluatedSlot, waits]
    · simp only [if_neg left] at base ⊢
      refine ⟨(p.taking .failedMedia).ended .failed s.orders.clock, ?_, rfl, rfl⟩
      rw [base]
      simp [State.reevaluatedSlot, Order.ended, OrderState.waiting]

/-! ### The removal -/

/-- The state before the slot's turn, at an absent that removes the roll. -/
def State.rollRemoved (s : State) : State :=
  (s.rollTaken.endRollUser.reevaluate).setEngine (s.rollTaken.endRollUser.reevaluate.engine.noted true)

theorem takeRollEvent_removes (h : s.removes) : s.takeRollEvent 0 = s.rollRemoved.serveSlot := by
  have absent : s.rollAbsent = s.rollTaken.endRollUser.reevaluate := (rollAbsent_removes h).trans (removeRoll_eq s)
  show (s.rollAbsent.setEngine (s.rollAbsent.engine.noted true)).serveSlot = _
  rw [absent]
  rfl

/-- What the removal leaves before the slot's turn. -/
theorem rollRemoved_spec (s : State) :
    let u := s.rollRemoved
    u.media = { s.media with
      present := false, roll := { s.media.roll with declared := false, clearOutPending := false },
      condition := some { event := .rollRemoved, clock := s.orders.clock, order := s.attemptOrder } } ∧
    u.notices.pending &&& 16#8 = 16#8 ∧
    u.holder = (if s.holder.usesRoll then .idle else s.holder) ∧
    u.engine = (if s.holder.usesRoll then ({ s.engine with pendingTrim := none } : EngineLink).orphaned
      else { s.engine with pendingTrim := none } : EngineLink).noted true ∧
    u.costs = s.costsEnded true ∧ CostNoted s u ∧ LateNoted s u ∧
    u.uncut = (match s.holder with | .attempt _ => false | _ => s.uncut) ∧
    u.orders = { s.ordersEnded .failedMedia with
      slots := Vector.ofFn fun i => u.reevaluatedSlot (s.ordersEnded .failedMedia).slots[i] } ∧
    ((∃ a, s.holder = .attempt a ∧ s.orders.slots[a.slot] ≠ none) ∨
      (∃ i : Fin 40, u.movesSlot s.orders.slots[i] = true) → u.notices.pending &&& 1#8 = 1#8) ∧
    Keeps ([.media, .engine, .holder, .orders, .costs, .uncut] ++ linkBlocks) s u ∧
    (s.media.roll.declared = true → Marks true s u) := by
  have taken := rollTaken_taken s
  have ended := rollUserEnded taken
  intro u
  have split : u = (s.rollTaken.endRollUser.reevaluate).setEngine (s.rollTaken.endRollUser.reevaluate.engine.noted true) := rfl
  have marked : s.media.roll.declared = true → Marks true s s.rollTaken := marks_rollTaken
  generalize s.rollTaken = x at taken ended split marked
  generalize x.endRollUser = y at ended split
  obtain ⟨table, pending⟩ := reevaluated_reevaluate y
  have again := keeps_reevaluate y
  have link := link_reevaluate y
  generalize y.reevaluate = z at again link split table pending
  have last : Keeps [.engine] z u := split ▸ keeps_setEngine _ _
  have linkU : LinkKept y u := split ▸ link.trans (link_setEngine _ _)
  have after : Keeps [.orders, .notices, .server, .engine] y u := again.mono.then last
  have slots := reevaluatedSlot_still (s := z) (u := u) (.of_keeps last) (.of_keeps last)
  refine ⟨?_, ?_, ?_, ?_, ?_, ended.cost.then after linkU, ?_, ?_, ?_, ?_, ended.keeps.mono.trans after.mono, ?_⟩
  · exact (after.at .media).trans (ended.media.trans taken.media)
  · exact linkU.stays (ended.link.stays taken.noted)
  · exact (after.at .holder).trans ended.holder
  · rw [split]
    show z.engine.noted true = _
    rw [again.at .engine, ended.engine, taken.engine]
  · exact (after.at .costs).trans ended.costs
  · rintro ⟨i, clear, set⟩
    refine linkU.stays (ended.late ⟨i, clear, ?_⟩)
    rw [last.at .orders, table] at set
    simpa only [Fin.getElem_fin, Vector.getElem_ofFn, reevaluatedSlot_late] using set
  · exact (after.at .uncut).trans ended.uncut
  · rw [last.at .orders, table, ended.orders.reevaluated z]
    simp only [slots]
  · rintro (attempt | ⟨i, moves⟩)
    · exact linkU.stays (ended.attempt attempt)
    · obtain still | order := ended.ordered
      · rw [(slots _).2, ← still] at moves
        have order : z.notices.pending &&& 1#8 = 1#8 := by
          rw [pending, if_pos (List.any_eq_true.2 ⟨i, List.mem_finRange i, moves⟩)]
          exact raised_bit _ _
        rw [last.at .notices]
        exact order
      · exact linkU.stays order
  · intro declared
    exact (((ended.marks.trans (Marks.of_keeps again).mayMark).trans (Marks.of_keeps last).mayMark)).elim fun b hb =>
      ((marked declared).trans hb).congr (Bool.true_or b)

end

/-- Settles O49: the events that end nothing by their writes, the removal by `rollRemoved_spec`. -/
theorem rollAndCoverEvents : Obligations.RollAndCoverEvents := by
  unfold Obligations.RollAndCoverEvents
  intro noted s works
  have notes (e : EngineLink) (roll : Bool) : e.noted roll = noted e roll := noted_eq e roll
  refine ⟨?_, fun b hb => ?_, fun b zero one => unused_byte works zero one, fun kept => ?_, fun removal => ?_⟩
  · obtain ⟨t, ht, served⟩ := roll_marked works 1 true rfl
    exact ⟨t, ht, served.imp fun u ⟨media, engine, pending⟩ => ⟨media, engine.trans (notes _ _), pending⟩⟩
  · obtain ⟨t, ht, served⟩ := cover_set works b hb
    exact ⟨t, ht, served.imp fun u ⟨engine, pending⟩ => ⟨engine.trans (notes _ _), pending⟩⟩
  · have takes : s.takeRollEvent 0 =
        ((s.setMedia { s.media with present := false }).setEngine (s.engine.noted true)).serveSlot := by
      show (s.rollAbsent.setEngine (s.rollAbsent.engine.noted true)).serveSlot = _
      rw [rollAbsent_kept kept]
      rfl
    obtain ⟨t, ht, served⟩ := roll_marked works 0 false takes
    exact ⟨t, ht, served.imp fun u ⟨media, engine, pending⟩ => ⟨media, engine.trans (notes _ _), pending⟩⟩
  · intro order uses base
    obtain ⟨media, removed, holder, engine, costs, cost, late, uncut, orders, ordered, keeps, marks⟩ := rollRemoved_spec s
    obtain ⟨t, ht, served, marked⟩ := run_serves s works (fun _ => s.takeRollEvent 0) s.rollRemoved
      [.media, .engine, .holder, .orders, .costs, .uncut] (fun u => u = s.rollRemoved) (takeRollEvent_removes removal) rfl keeps
      (marks removal.1)
    refine ⟨t, (run_roll works 0).trans ht, marked.1 rfl, served.imp fun u hu => ?_⟩
    subst hu
    have undeclared : s.rollRemoved.media.roll.declared = false := by rw [media]
    refine ⟨media, removed, holder.trans (if_congr (usesRoll_iff _) rfl rfl), engine.trans ?_, costs, cost, late, uncut, orders,
      fun i o here waits => ?_, ordered, fun a o holds slot _ => ?_⟩
    · rw [notes]
      by_cases h : s.holder.usesRoll = true
      · rw [if_pos h, if_pos ((usesRoll_iff _).1 h)]
        rfl
      · rw [if_neg h, if_neg (mt (usesRoll_iff _).2 h)]
    · rw [orders] at here
      simp only [Fin.getElem_fin, Vector.getElem_ofFn] at here
      exact reevaluated_noRoll undeclared here waits
    · obtain ⟨o', here, outcome, state⟩ := removed_order undeclared holds slot
      refine ⟨o', ?_, outcome, state⟩
      rw [orders]
      simpa only [Fin.getElem_fin, Vector.getElem_ofFn] using here

end Sys2Proof.Machine

/-! What a draw marks in the store, and the slot's turn and the retained set (R79, R90, R94, R95, R212). -/

namespace Sys2Proof.Machine

section
variable {s t u v : State}

/-! ### The slot's turn and the ink supply (R79) -/

/-- At most the levels of a CLEAN have been taken from their channels. -/
def CleanedAtMost (s u : State) : Prop := u.ink = s.ink ∨ u.ink = s.ink.cleanTaken

theorem CleanedAtMost.of_keeps {l : List Block} (k : Keeps l s u) (ink : Block.ink ∉ l := by decide) : CleanedAtMost s u :=
  .inl (k.at .ink ink)

theorem cleaned_select (s : State) : CleanedAtMost s s.select := by
  cases chosen : s.reevaluate.orders.choose with
  | none =>
    rw [select_none chosen]
    exact .of_keeps (keeps_reevaluate s)
  | some n =>
    obtain ⟨i, o⟩ := n
    rw [select_some chosen]
    exact .of_keeps (((keeps_reevaluate s).mono.then (keeps_startAttempt _ i o)).then (keeps_serveAttempt _ _) :
      Keeps [.orders, .notices, .server, .holder, .engine] _ _)

theorem cleaned_offerWork (s : State) : CleanedAtMost s s.offerWork := by
  unfold State.offerWork
  split
  · exact .of_keeps ((keeps_setHolder s _).mono.then (keeps_issue _ _ _) : Keeps [.holder, .engine] _ _)
  · split
    · exact .inr rfl
    · split
      · exact .of_keeps (((keeps_setEngine s _).mono.then (keeps_setHolder _ _)).then (keeps_issue _ _ _) :
          Keeps [.holder, .engine] _ _)
      · split
        · exact cleaned_select s
        · exact .inl rfl

theorem cleaned_offer (s : State) : CleanedAtMost s s.offer := by
  unfold State.offer
  split
  · exact .of_keeps (keeps_issue s _ _)
  · split
    · exact .of_keeps ((keeps_issue s _ _).mono.then (keeps_setHolder _ _) : Keeps [.holder, .engine] _ _)
    · exact .inl rfl
  all_goals
    split
    · exact cleaned_offerWork s
    · exact .inl rfl

theorem cleaned_serveSlot (s : State) : CleanedAtMost s s.serveSlot := by
  unfold State.serveSlot
  split
  · exact .inl rfl
  · split
    · exact cleaned_offer s
    · exact .of_keeps (keeps_serveAttempt _ _)
    · exact .of_keeps (keeps_serveTask _ _ _)
    · exact .of_keeps (keeps_serveTask _ _ _)
    · exact .inl rfl
    · exact .of_keeps ((keeps_issue s _ _).mono.then (keeps_setHolder _ _) : Keeps [.holder, .engine] _ _)
    · exact .inl rfl

theorem serveSlot_bays (s : State) : s.serveSlot.ink.bays = s.ink.bays := by
  obtain same | cleaned := cleaned_serveSlot s
  · rw [same]
  · rw [cleaned]
    rfl

/-- Nothing of the retained set changes with the slot's turn. -/
theorem serveSlot_retained (s : State) : s.serveSlot.retained = s.retained := by
  have keeps := keeps_serveSlot s
  have recovery : s.serveSlot.engine.autoRecovery = s.engine.autoRecovery :=
    (congrArg EngineLink.autoRecovery (issued_serveSlot s).rest :)
  have ink : s.serveSlot.ink.bays = s.ink.bays ∧ s.serveSlot.ink.sizes = s.ink.sizes ∧
      ∀ c : Fin 12, s.serveSlot.ink.channels[c].retained = s.ink.channels[c].retained := by
    obtain same | cleaned := cleaned_serveSlot s
    · rw [same]
      exact ⟨rfl, rfl, fun _ => rfl⟩
    · rw [cleaned]
      refine ⟨rfl, rfl, fun c => ?_⟩
      simp only [InkUnit.cleanTaken, Fin.getElem_fin, Vector.getElem_ofFn]
      split <;> rfl
  obtain ⟨bays, sizes, channels⟩ := ink
  have media : s.serveSlot.media = s.media := keeps.at .media
  have colour : s.serveSlot.colour = s.colour := keeps.at .colour
  have editions : s.serveSlot.editions = s.editions := keeps.at .editions
  have costs : s.serveSlot.costs = s.costs := keeps.at .costs
  have uncut : s.serveSlot.uncut = s.uncut := keeps.at .uncut
  simp only [State.retained, media, colour, editions, costs, uncut, bays, sizes, channels, recovery]

theorem Served.retained {changed : List Block} {P : State → Prop} (h : Served changed s t fun u => u = v ∧ P u) :
    t.retained = v.retained := by
  obtain ⟨w, ⟨rfl, -⟩, -, turn, -⟩ := h
  exact (retained_of_keeps turn).trans (serveSlot_retained w)

/-! ### What a draw marks (R90, R91, R94) -/

/-- What the image holds of a channel and its two bays is as it was. -/
def ChannelKept (s u : State) (c : Fin 12) : Prop :=
  u.ink.channels[c].retained = s.ink.channels[c].retained ∧ ∀ side, u.ink.bays[bayOf c side] = s.ink.bays[bayOf c side]

theorem ChannelKept.refl (s : State) (c : Fin 12) : ChannelKept s s c := ⟨rfl, fun _ => rfl⟩

theorem ChannelKept.trans {c : Fin 12} (h : ChannelKept s t c) (k : ChannelKept t u c) : ChannelKept s u c :=
  ⟨k.1.trans h.1, fun side => (k.2 side).trans (h.2 side)⟩

theorem ChannelKept.symm {c : Fin 12} (h : ChannelKept s t c) : ChannelKept t s c := ⟨h.1.symm, fun side => (h.2 side).symm⟩

theorem bayOf_other_channel {c j : Fin 12} (h : j ≠ c) (side side' : BaySide) : bayOf j side ≠ bayOf c side' := by
  intro same
  refine h (Fin.ext ?_)
  have values := congrArg Fin.val same
  cases side <;> cases side' <;> simp [bayOf] at values <;> omega

theorem draw_kept_elsewhere (s : State) (c : Fin 12) (n : Nat) {j : Fin 12} (h : j ≠ c) : ChannelKept s (s.draw c n) j := by
  obtain rfl | some := Nat.eq_zero_or_pos n
  · exact .refl s j
  · exact ⟨by rw [draw_channel_elsewhere s c n some j h], fun side =>
      draw_bay_elsewhere s c n some _ (bayOf_other_channel h side _) (bayOf_other_channel h side _)⟩

/-- A record that the image tells from `y` by its supply state alone. -/
theorem retained_between_of {x y z : Channel} (supply : y.supply = x.supply)
    (rest : z.retained = { y.retained with supply := z.retained.supply }) :
    (y.retained ≠ x.retained ∨ z.retained ≠ y.retained) ↔ z.retained ≠ x.retained := by
  have unmoved (same : z.retained = x.retained) : y.retained = x.retained := by
    have held : y.retained.supply = x.retained.supply := by
      unfold Channel.retained
      rw [supply]
    have back : y.retained = { z.retained with supply := y.retained.supply } := by rw [rest]
    rw [back, held, same]
  refine ⟨?_, fun moved => ?_⟩
  · rintro (first | second) same
    · exact first (unmoved same)
    · exact second (same.trans (unmoved same).symm)
  · by_contra neither
    push Not at neither
    exact moved (neither.2.trans neither.1)

/-- The two bays and the channel record of the six steps, each marked when it moves. -/
theorem drawn_marks (s : State) (c : Fin 12) (n : Nat) :
    Marks (decide ((s.bay c (s.channel c).active).less (s.drawFirst c n) ≠ s.bay c (s.channel c).active) ||
      decide ((s.bay c (s.channel c).active.other).less (s.drawOther c n) ≠ s.bay c (s.channel c).active.other) ||
      decide ((s.drawnChannel c n).retained ≠ (s.channel c).retained)) s (s.drawn c n) := by
  have first := marks_setBay s (bayOf c (s.channel c).active) ((s.bay c (s.channel c).active).less (s.drawFirst c n))
  have bays := setBay_ink s (bayOf c (s.channel c).active) ((s.bay c (s.channel c).active).less (s.drawFirst c n))
  have split : s.drawn c n = (((s.setBay (bayOf c (s.channel c).active)
      ((s.bay c (s.channel c).active).less (s.drawFirst c n))).setBay (bayOf c (s.channel c).active.other)
      ((s.bay c (s.channel c).active.other).less (s.drawOther c n))).setChannel c (s.drawnChannel c n)) := rfl
  generalize s.setBay (bayOf c (s.channel c).active) ((s.bay c (s.channel c).active).less (s.drawFirst c n)) = x
    at first bays split
  have second := marks_setBay x (bayOf c (s.channel c).active.other)
    ((s.bay c (s.channel c).active.other).less (s.drawOther c n))
  have both := setBay_ink x (bayOf c (s.channel c).active.other)
    ((s.bay c (s.channel c).active.other).less (s.drawOther c n))
  generalize x.setBay (bayOf c (s.channel c).active.other) ((s.bay c (s.channel c).active.other).less (s.drawOther c n)) = y
    at second both split
  have third := marks_setChannel y c (s.drawnChannel c n)
  have other : x.ink.bays[bayOf c (s.channel c).active.other] = s.bay c (s.channel c).active.other := by
    rw [bays]
    exact Vector.getElem_set_ne (bayOf c (s.channel c).active).isLt (bayOf c (s.channel c).active.other).isLt
      (bayOf_other_ne c _).symm
  have channel : y.channel c = s.channel c := by
    unfold State.channel
    rw [both, bays]
  rw [other] at second
  rw [channel] at third
  rw [split]
  exact (first.trans second).trans third

theorem draw_kept_iff (s : State) (c : Fin 12) {n : Nat} (some : 0 < n) : ChannelKept s (s.draw c n) c ↔
    (s.bay c (s.channel c).active).less (s.drawFirst c n) = s.bay c (s.channel c).active ∧
      (s.bay c (s.channel c).active.other).less (s.drawOther c n) = s.bay c (s.channel c).active.other ∧
      ({ s.drawnChannel c n with supply := s.drawnSupply c n } : Channel).retained = (s.channel c).retained := by
  have sides := both_sides_iff (s.channel c).active fun side => (s.draw c n).bay c side = s.bay c side
  rw [draw_bay_active s c n some, draw_bay_other s c n some] at sides
  rw [← draw_channel_same s c n some, ← and_assoc, ← sides]
  constructor
  · rintro ⟨channel, bays⟩
    exact ⟨⟨bays .first, bays .second⟩, channel⟩
  · rintro ⟨⟨one, two⟩, channel⟩
    refine ⟨channel, fun side => ?_⟩
    cases side
    · exact one
    · exact two

theorem draw_marks (s : State) (c : Fin 12) (n : Nat) :
    ∃ b, Marks b s (s.draw c n) ∧ (b = true ↔ ¬ChannelKept s (s.draw c n) c) := by
  obtain rfl | some := Nat.eq_zero_or_pos n
  · have still : s.draw c 0 = s := rfl
    rw [still]
    exact ⟨false, Marks.of_store_eq rfl, by simpa using ChannelKept.refl s c⟩
  · have marks := (drawn_marks s c n).trans
      (marks_writeSupply (s.drawn c n) c { s.drawnChannel c n with supply := s.drawnSupply c n })
    rw [← draw_eq_writeSupply s c n some, drawn_channel] at marks
    refine ⟨_, marks, ?_⟩
    have between := retained_between_of (x := s.channel c) (y := s.drawnChannel c n)
      (z := { s.drawnChannel c n with supply := s.drawnSupply c n }) rfl rfl
    rw [draw_kept_iff s c some]
    simp only [Bool.or_eq_true, decide_eq_true_eq, or_assoc, not_and_or, ← between, ne_eq]

theorem draws_mark (s : State) (v : Vector Nat 12) (l : List (Fin 12)) (distinct : l.Nodup) :
    let u := l.foldl (fun s c => s.draw c v[c]) s
    ∃ b, Marks b s u ∧ (b = true ↔ ∃ c ∈ l, ¬ChannelKept s u c) ∧ ∀ c, c ∉ l → ChannelKept s u c := by
  induction l generalizing s with
  | nil => exact ⟨false, Marks.of_store_eq rfl, by simp, fun c _ => .refl s c⟩
  | cons c l ih =>
    obtain ⟨absent, distinct⟩ := List.nodup_cons.1 distinct
    obtain ⟨a, first, moved⟩ := draw_marks s c v[c]
    obtain ⟨b, rest, others, kept⟩ := ih (s.draw c v[c]) distinct
    refine ⟨a || b, first.trans rest, ?_, fun j out => ?_⟩
    · rw [Bool.or_eq_true, moved, others, List.exists_mem_cons_iff]
      refine or_congr (not_congr ⟨fun h => h.trans (kept c absent), fun h => h.trans (kept c absent).symm⟩)
        (exists_congr fun j => and_congr_right fun here => not_congr ?_)
      have before := draw_kept_elsewhere s c v[c] (j := j) fun same => absent (same ▸ here)
      exact ⟨before.trans, before.symm.trans⟩
    · rw [List.mem_cons, not_or] at out
      exact (draw_kept_elsewhere s c v[c] out.1).trans (kept j out.2)

end

end Sys2Proof.Machine

/-! Late reports and the reports of ended parties (O38; R17, R38, R46, R73, R94, R95, R174). -/

namespace Sys2Proof.Machine

section
variable {s t u v w x : State}

/-! ### The retained set after draws (R212) -/

theorem exists_bayOf (b : Fin 24) : ∃ c side, b = bayOf c side := by
  refine ⟨⟨b.val / 2, by omega⟩, if b.val % 2 = 0 then .first else .second, Fin.ext ?_⟩
  split <;> simp only [bayOf] <;> omega

/-- With the other blocks of the retained set kept, it moves with the channels and their bays. -/
theorem retained_eq_iff_kept (keeps : Keeps [.engine, .ink, .store, .orders, .notices, .server] s u)
    (recovery : u.engine.autoRecovery = s.engine.autoRecovery) (sizes : u.ink.sizes = s.ink.sizes) :
    u.retained = s.retained ↔ ∀ c, ChannelKept s u c := by
  have media : u.media = s.media := keeps.at .media
  have colour : u.colour = s.colour := keeps.at .colour
  have editions : u.editions = s.editions := keeps.at .editions
  have costs : u.costs = s.costs := keeps.at .costs
  have uncut : u.uncut = s.uncut := keeps.at .uncut
  unfold State.retained
  simp only [media, colour, editions, costs, uncut, recovery, sizes, Retained.mk.injEq, true_and, and_true]
  constructor
  · rintro ⟨bays, channels⟩ c
    refine ⟨?_, fun side => by rw [bays]⟩
    have here := congrArg (fun x : Vector RetainedChannel 12 => x[c]) channels
    simpa using here
  · intro kept
    have bays (b : Fin 24) : u.ink.bays[b] = s.ink.bays[b] := by
      obtain ⟨c, side, rfl⟩ := exists_bayOf b
      exact (kept c).2 side
    exact ⟨Vector.ext fun i hi => bays ⟨i, hi⟩, congrArg Vector.ofFn (funext fun c => (kept c).1)⟩

theorem draw_sizes (s : State) (c : Fin 12) (n : Nat) : (s.draw c n).ink.sizes = s.ink.sizes := by
  obtain rfl | some := Nat.eq_zero_or_pos n
  · rfl
  · rw [draw_ink s c n some, drawn_ink]

theorem drawAll_sizes (s : State) (volumes : Vector Nat 12) : (s.drawAll volumes).ink.sizes = s.ink.sizes := by
  unfold State.drawAll
  generalize List.finRange 12 = l
  induction l generalizing s with
  | nil => rfl
  | cons c l ih => exact (ih (s.draw c volumes[c])).trans (draw_sizes s c _)

/-! ### The report of an ended party (R46, R95) -/

theorem deliver_ended (v : State) (cmd : EngineCommand) (r : Report) : v.deliver cmd .ended r = v.orphanReport r := by
  unfold State.deliver
  rfl

/-- The draws of a report that has drops, after the error it forgives. -/
theorem orphanReport_spec (f : Forgives s v) (r : Report) :
    let u := v.orphanReport r
    Follows (fun _ => False) v.orders v u ∧ Keeps inkBlocks v u ∧
      u.ink = (match r.drops? with | some d => s.inkDrawn (s.volume d) | none => s.ink) ∧ u.ink.sizes = s.ink.sizes ∧
      ∃ b, Marks b v u ∧ (b = true ↔ ∃ c, ¬ChannelKept v u c) := by
  have ink : v.ink = s.ink := f.keeps.at .ink
  intro u
  have split : u = match r.drops? with | none => v | some d => v.drawAll (v.volumes d) := rfl
  cases drops : r.drops? with
  | none =>
    rw [drops] at split
    rw [split]
    exact ⟨.of_keeps (Keeps.refl [] v) (.refl v) (.of_pending rfl), Keeps.refl _ _, ink, by rw [ink], false,
      Marks.of_store_eq rfl, by simpa using fun c => ChannelKept.refl v c⟩
  | some d =>
    rw [drops] at split
    obtain ⟨b, marks, moved, -⟩ := draws_mark v (v.volumes d) (List.finRange 12) (List.nodup_finRange 12)
    rw [split]
    refine ⟨follows_drawAll _ _, keeps_drawAll _ _, ?_, by rw [drawAll_sizes, ink], b, marks, ?_⟩
    · exact (drawAll_ink v (volumes_getElem ink d)).trans (inkDrawn_congr ink _)
    · simpa [State.drawAll] using moved

/-- The categories of an ended party's report. -/
theorem ended_report {c : Instr} {tag : Byte} {r : Report} {cmd : EngineCommand} (hc : reportOf c = some (tag, r))
    (awaits : Awaits s cmd .ended tag) (answers : r.answers cmd = true) (counted : EngineCounted s) :
    ∃ t, exec c s = .next t ∧ MarkedIf (t.retained ≠ s.retained) s t ∧ Served [.engine, .ink, .orders] s t fun u =>
      Forgiven s u ∧ OrdersFollow s.orders s u ∧
        u.ink = (match r.drops? with
          | some d => s.inkDrawn (s.volume d)
          | none => s.ink) ∧
        OnlyRaised s u (FollowRaises (fun d => d = .engine ∧ u.engine.state ≠ s.engine.state) s u) := by
  have f := forgives_of_counted counted
  obtain ⟨follows, keeps, ink, sizes, b, marks, moved⟩ := orphanReport_spec f r
  have delivered := deliver_ended s.freeSlot.forgiveError cmd r
  generalize s.freeSlot.forgiveError.orphanReport r = u at follows keeps ink sizes marks moved delivered
  have whole : Keeps [.engine, .ink, .store, .orders, .notices, .server] s u := f.keeps.mono.trans keeps.mono
  have forgiven : Forgiven s u := f.stays keeps follows.link
  have all := f.follows follows
  have engine : u.engine = s.freeSlot.forgiveError.engine := keeps.at .engine
  obtain ⟨t, ht, served, marked⟩ := report_marks hc awaits answers delivered (changed := [.engine, .ink, .orders])
    (P := fun w => w = u ∧ True) ⟨rfl, trivial⟩ whole.mono (Marks.after f.keeps marks)
  refine ⟨t, ht, marked.congr ?_, served.imp fun w hw => ?_⟩
  · have recovery : u.engine.autoRecovery = s.engine.autoRecovery := by rw [forgiven.1]
    rw [served.retained, Ne, retained_eq_iff_kept whole recovery sizes, moved, not_forall]
    have same : s.freeSlot.forgiveError.ink = s.ink := f.keeps.at .ink
    unfold ChannelKept
    rw [same]
  · obtain ⟨rfl, -⟩ := hw
    refine ⟨forgiven, all.orders, ink, all.only.mono fun d raised => raised.imp fun d hd => ?_⟩
    rw [engine]
    exact hd.resolve_right id

/-! ### The ink of a late report (R73, R174) -/

/-- The late report is counted and its tag is no longer expected. -/
def State.lateCounted (s : State) : State := s.setEngine { s.engine with
  expiredTag := none, counters := { s.engine.counters with lateReports := min 65535 (s.engine.counters.lateReports + 1) } }

theorem lateReport_eq (s : State) (r : Report) : s.lateReport r = (s.lateCounted.lateInk r).latePulses r := rfl

/-- A late report has drops to post. -/
def State.latePosts (s : State) (r : Report) : Prop :=
  match r.drops? with | some d => ∃ k : Fin 12, (s.volumes d)[k] ≠ 0 | none => False

/-- The posting of late ink (R174). -/
def State.latePosting (s : State) (d : Vector Drops 12) : Posting :=
  { ink := inkFigure (s.volumes d) s.costs.prices.ink, inkSaturated := inkSaturates (s.volumes d) s.costs.prices.ink }

/-- The accounts after a late report. -/
def State.lateCosts (s : State) (r : Report) : CostUnit :=
  match r.drops? with
  | none => s.costs
  | some d => if ∃ k : Fin 12, (s.volumes d)[k] ≠ 0 then s.costs.posted (s.latePosting d) else s.costs

theorem drawAll_none (s : State) {volumes : Vector Nat 12} (none : ¬∃ k : Fin 12, volumes[k] ≠ 0) : s.drawAll volumes = s := by
  push Not at none
  unfold State.drawAll
  generalize List.finRange 12 = l
  induction l with
  | nil => rfl
  | cons c l ih =>
    rw [List.foldl_cons, none c]
    exact ih

theorem anyDrawn_iff (volumes : Vector Nat 12) :
    ((List.finRange 12).any fun c => volumes[c] != 0) = true ↔ ∃ k : Fin 12, volumes[k] ≠ 0 := by
  simp

/-- A posting raises COST with the flag of its account (R177). -/
theorem onlyRaised_post (s : State) (i : Fin 64) (p : Posting) : OnlyRaised s (s.post i p) fun c =>
    c = .cost ∧ (s.post i p).costs.accounts[i].saturated = true := by
  have posted : (s.post i p).costs.accounts[i] = s.costs.accounts[i].posted p := by
    rw [post_costs]
    exact Vector.getElem_set_self _
  rw [posted, Account.posted_saturated]
  refine (OnlyRaised.of_pending (u := s.setAccount i (s.costs.accounts[i].posted p)) ?_).trans
    ((onlyRaised_raiseIf _ _ _).mono fun c ⟨saturates, cost⟩ => ⟨cost, by rw [saturates, Bool.or_true]⟩)
  exact congrArg NoticeUnit.pending ((keeps_setAccount s i _).at .notices)

/-- What a late report's ink leaves, before its pulses. -/
structure LateInk (s w : State) (r : Report) : Prop where
  ink : w.ink = (match r.drops? with | some d => s.inkDrawn fun k => (s.volumes d)[k] | none => s.ink)
  costs : w.costs = s.lateCosts r
  noted : CostNoted s w
  follows : Follows (fun c => c = .cost ∧ s.latePosts r ∧ w.costs.accounts[(0 : Fin 64)].saturated = true) s.orders s w
  keeps : Keeps (.engine :: .costs :: inkBlocks) s w
  marks : ∃ b, Marks b s w ∧ (b = true ↔ s.latePosts r)

theorem lateInk_spec (s : State) (r : Report) : LateInk s (s.lateInk r) r := by
  unfold State.lateInk
  cases drops : r.drops? with
  | none =>
    exact ⟨by rw [drops], by rw [State.lateCosts, drops], .of_costs rfl, .of_keeps (Keeps.refl [] s) (.refl s) (.of_pending rfl),
      Keeps.refl _ _, false, Marks.of_store_eq rfl, by simp [State.latePosts, drops]⟩
  | some d =>
    have posts : s.latePosts r ↔ ∃ k : Fin 12, (s.volumes d)[k] ≠ 0 := by simp [State.latePosts, drops]
    have draws := drawAll_ink s (v := s.volumes d) fun _ => rfl
    have follows := follows_drawAll (other := fun c => c = .cost ∧ s.latePosts r ∧
      ((s.drawAll (s.volumes d)).postLateInk (s.volumes d)).costs.accounts[(0 : Fin 64)].saturated = true) s (s.volumes d)
    have keeps := keeps_drawAll s (s.volumes d)
    have costs : (s.drawAll (s.volumes d)).costs = s.costs := keeps.at .costs
    obtain ⟨b, marks⟩ := mayMark_drawAll s (s.volumes d)
    have unmoved := drawAll_none s (volumes := s.volumes d)
    have split : (s.drawAll (s.volumes d)).postLateInk (s.volumes d) =
        if ∃ k : Fin 12, (s.volumes d)[k] ≠ 0 then (s.drawAll (s.volumes d)).post 0 (s.latePosting d)
        else s.drawAll (s.volumes d) := by
      unfold State.postLateInk State.latePosting
      simp only [anyDrawn_iff, costs]
    show LateInk s ((s.drawAll (s.volumes d)).postLateInk (s.volumes d)) r
    rw [split] at follows ⊢
    generalize s.drawAll (s.volumes d) = v at follows keeps costs draws marks unmoved ⊢
    by_cases drawn : ∃ k : Fin 12, (s.volumes d)[k] ≠ 0
    · rw [if_pos drawn] at follows ⊢
      have posting := keeps_post v 0 (s.latePosting d)
      refine ⟨?_, ?_, (costNoted_post v 0 _).after costs, ?_, keeps.mono.trans posting.mono, true,
        (marks.trans (marks_post v 0 _)).congr (Bool.or_true b), by simpa [posts] using drawn⟩
      · rw [drops, posting.at .ink, draws]
      · rw [post_costs, costs, State.lateCosts, drops]
        exact (if_pos drawn).symm
      · refine follows.congr (.of_keeps posting (link_post v 0 _) ?_) (.of_keeps posting)
        exact (onlyRaised_post v 0 _).mono fun c ⟨cost, set⟩ => ⟨cost, posts.2 drawn, set⟩
    · rw [if_neg drawn] at follows ⊢
      obtain rfl := unmoved drawn
      exact ⟨by rw [drops, draws], by
        rw [State.lateCosts, drops]
        exact (if_neg drawn).symm, .of_costs rfl, follows, keeps.mono, false,
        Marks.of_store_eq rfl, by simpa [posts] using drawn⟩

/-! ### The pulses of a late report (R38, R73) -/

theorem marks_advancePosition (s : State) (q : Nat) (order : Option Word32) :
    Marks (decide ((s.advancePosition q order).media.roll ≠ s.media.roll)) s (s.advancePosition q order) := by
  have same (x : State) (n : Bool) : Marks n s x → Marks n s x.reevaluate := fun h => h.then (keeps_reevaluate x)
  rw [advancePosition_eq]
  split
  · next moves =>
    have media := rolled_media s q order moves.1
    have again : (s.rolled q order).reevaluate.media = (s.rolled q order).media := (keeps_reevaluate _).at .media
    have roll : (s.rolled q order).reevaluate.media.roll =
        { s.media.roll with position := min (s.media.roll.length * 40) (s.media.roll.position + q) } := by
      rw [again, media]
      exact if_pos moves.1
    rw [roll]
    refine Marks.then ?_ (keeps_reevaluate _)
    have record := marks_setRoll s
      { s.media.roll with position := min (s.media.roll.length * 40) (s.media.roll.position + q) }
    unfold State.rolled
    split
    · exact record.then (keeps_noteMedia _ _ _)
    · exact record
  · exact (Marks.of_store_eq rfl).congr (decide_eq_false (not_not_intro rfl)).symm

theorem latePulses_spec (w : State) (r : Report) :
    let u := w.latePulses r
    Keeps [.media, .store, .orders, .notices, .server] w u ∧
      (match r.pulses? with
        | some p => PaperMoved w u false 0 p ((w.attempt?).map (·.reference))
        | none => u.media = w.media) ∧
      Follows (fun c => w.reachesEnd (r.pulses?.getD 0) = true ∧ c = .media) w.orders w u ∧
      Marks (decide (u.media.roll ≠ w.media.roll)) w u := by
  unfold State.latePulses
  cases r.pulses? with
  | none =>
    exact ⟨(Keeps.refl [] w).mono, rfl, .of_keeps (Keeps.refl [] w) (.refl w) (.of_pending rfl),
      (Marks.of_store_eq rfl).congr (decide_eq_false (not_not_intro rfl)).symm⟩
  | some p =>
    obtain ⟨paper, follows⟩ := paper_advancePosition w p ((w.attempt?).map (·.reference))
    exact ⟨keeps_advancePosition w p _, paper, follows, marks_advancePosition w p _⟩

/-! ### A late report (R73) -/

theorem exec_late {c : Instr} {tag : Byte} {r : Report} (hc : reportOf c = some (tag, r)) (works : Works s)
    (wrong : ∀ o, s.engine.outstanding = some o → o.tag = tag → r.answers o.command = false)
    (late : s.engine.expiredTag = some tag) : exec c s = s.run fun _ => (s.lateReport r).serveSlot := by
  obtain ⟨held, quiet⟩ := works
  rw [exec_report c tag r s hc]
  simp [State.run, held, State.takeReport, State.working, quiet, answered_none wrong, late]

/-- The categories of a late report beside those of the orders and supply states. -/
def LateRaises (s u : State) (r : Report) (c : Category) : Prop :=
  (c = .cost ∧ s.latePosts r ∧ u.costs.accounts[(0 : Fin 64)].saturated = true) ∨
    (s.reachesEnd (r.pulses?.getD 0) = true ∧ c = .media)

/-- What a late report leaves, before the slot's turn. -/
structure Late (s u : State) (r : Report) : Prop where
  keeps : Keeps ([.engine, .ink, .costs, .media, .orders] ++ linkBlocks) s u
  engine : u.engine = { s.engine with
    expiredTag := none, counters := { s.engine.counters with lateReports := min 65535 (s.engine.counters.lateReports + 1) } }
  ink : u.ink = (match r.drops? with | some d => s.inkDrawn fun k => (s.volumes d)[k] | none => s.ink)
  costs : u.costs = s.lateCosts r
  noted : CostNoted s u
  paper : match r.pulses? with
    | some p => PaperMoved s u false 0 p ((s.attempt?).map (·.reference))
    | none => u.media = s.media
  follows : Follows (LateRaises s u r) s.orders s u
  marks : ∃ b, Marks b s u ∧ (b = true ↔ s.latePosts r ∨ u.media.roll ≠ s.media.roll)

/-- The ink and the posting of a late report do not read the engine link. -/
theorem LateInk.counted {r : Report} (counts : Keeps [.engine] s v) (link : LinkKept s v) (h : LateInk v w r) : LateInk s w r := by
  obtain ⟨ink, costs, noted, follows, keeps, a, marks, posts⟩ := h
  have sameInk : v.ink = s.ink := counts.at .ink
  have sameCosts : v.costs = s.costs := counts.at .costs
  have volumes (d : Vector Drops 12) : v.volumes d = s.volumes d := by
    unfold State.volumes
    rw [sameInk]
  have posting (d : Vector Drops 12) : v.latePosting d = s.latePosting d := by
    unfold State.latePosting
    rw [volumes, sameCosts]
  have posts' : v.latePosts r = s.latePosts r := by simp only [State.latePosts, volumes]
  have still : Still s v := .of_keeps counts
  have none : Follows (fun c => c = .cost ∧ s.latePosts r ∧ w.costs.accounts[(0 : Fin 64)].saturated = true) s.orders s v :=
    .of_keeps counts link (.of_pending (congrArg NoticeUnit.pending (counts.at .notices)))
  refine ⟨?_, ?_, noted.after sameCosts, ?_, counts.mono.trans keeps.mono, a, Marks.after counts marks, posts' ▸ posts⟩
  · rw [ink]
    cases r.drops? with
    | none => exact sameInk
    | some d => simp only [inkDrawn_congr sameInk, volumes]
  · rw [costs]
    unfold State.lateCosts
    simp only [volumes, posting, sameCosts]
  · exact none.trans (follows.mono fun c ⟨cost, posted, set⟩ => ⟨cost, posts' ▸ posted, set⟩) (.of_still_left still)

theorem late_lateReport (s : State) (r : Report) : Late s (s.lateReport r) r := by
  have counts : Keeps [.engine] s s.lateCounted := keeps_setEngine s _
  obtain ⟨ink, costs, noted, follows, before, a, marks, posts⟩ := (lateInk_spec s.lateCounted r).counted counts (link_setEngine s _)
  have engine : (s.lateCounted.lateInk r).engine = { s.engine with
      expiredTag := none, counters := { s.engine.counters with lateReports := min 65535 (s.engine.counters.lateReports + 1) } } :=
    ((keeps_lateInk s.lateCounted r).at .engine).trans (State.setEngine_engine s _)
  rw [lateReport_eq]
  generalize s.lateCounted.lateInk r = w at ink costs noted follows before marks engine
  obtain ⟨moves, paper, moved, stored⟩ := latePulses_spec w r
  have link : LinkKept w (w.latePulses r) := moved.link
  generalize w.latePulses r = u at moves paper moved stored link
  have media : w.media = s.media := before.at .media
  have holder : w.holder = s.holder := before.at .holder
  have spent : u.costs = w.costs := moves.at .costs
  refine ⟨before.mono.trans moves.mono, (moves.at .engine).trans engine,
    (moves.at .ink).trans ink, spent.trans costs, noted.then moves link, ?_, ?_,
    _, marks.trans stored, ?_⟩
  · cases pulses : r.pulses? with
    | none =>
      rw [pulses] at paper
      exact paper.trans media
    | some p =>
      rw [pulses] at paper
      obtain ⟨record, noted⟩ := paper
      have clock : w.orders.clock = s.orders.clock := follows.orders.clock
      have reached : w.reachesEnd p = s.reachesEnd p := by rw [State.reachesEnd, State.reachesEnd, media]
      have attempt : w.attempt? = s.attempt? := by rw [State.attempt?, State.attempt?, holder]
      refine ⟨record.trans ?_, fun ends => noted (reached ▸ ends)⟩
      simp only [State.mediaMoved, media, clock, reached, attempt, Bool.false_and]
  · have same : s.reachesEnd (r.pulses?.getD 0) = w.reachesEnd (r.pulses?.getD 0) := by
      rw [State.reachesEnd, State.reachesEnd, media]
    have inked : Follows (LateRaises s u r) s.orders s w :=
      follows.mono fun c ⟨cost, posted, set⟩ => .inl ⟨cost, posted, by rw [spent]; exact set⟩
    refine inked.trans
      (moved.mono fun c ⟨ends, category⟩ => .inr ⟨same.trans ends, category⟩) ⟨?_, fun c => ?_, fun g => ?_⟩
    · exact .inl (by rw [media])
    · exact .inr (by rw [show u.ink = w.ink from moves.at .ink])
    · exact .inr (by rw [show u.colour = w.colour from moves.at .colour])
  · rw [Bool.or_eq_true, posts, decide_eq_true_eq, media]

/-- Settles O38: the draws of an ended party's report by `orphanReport_spec`, a late report by `late_lateReport`. -/
theorem lateReportsAreApplied : Obligations.LateReportsAreApplied := by
  refine ⟨?_, ?_⟩
  · intro c tag r s cmd hc awaits answers counted v
    obtain ⟨t, ht, marked, served⟩ := ended_report hc awaits answers counted
    refine ⟨t, ht, marked, served.imp ?_⟩
    rintro u ⟨forgiven, orders, ink, raised⟩
    refine ⟨forgiven, orders, ink, raised.mono fun d hd => ?_⟩
    obtain ⟨rfl, moved⟩ | ⟨rfl, moved⟩ | ⟨rfl, moved⟩ := hd <;> exact moved
  · intro c tag r s hc works wrong expired ink posts
    obtain ⟨keeps, engine, inked, costs, noted, paper, follows, b, marks, marked⟩ := late_lateReport s r
    have step := exec_late hc works wrong expired
    generalize s.lateReport r = u at keeps engine inked costs noted paper follows marks marked step
    obtain ⟨t, ht, served, stored⟩ := run_serves s works (fun _ => u.serveSlot) u
      [.engine, .ink, .costs, .media, .orders] (fun w => w = u ∧ True) rfl ⟨rfl, trivial⟩ keeps marks
    obtain ⟨w, ⟨rfl, -⟩, -, turn, -⟩ := id served
    have slot := keeps_serveSlot w
    have issued := (issued_serveSlot w).rest
    have link : t.engine = w.serveSlot.engine := turn.at .engine
    have media : t.media = w.media := (turn.at .media).trans (slot.at .media)
    have spent : t.costs = w.costs := (turn.at .costs).trans (slot.at .costs)
    have supply : t.ink = w.serveSlot.ink := turn.at .ink
    have drawn : w.ink = (ink s).ink := by
      rw [inked]
      show _ = (match r.drops? with | some d => s.drawAll (s.volumes d) | none => s).ink
      cases r.drops? with
      | none => rfl
      | some d => exact (drawAll_ink s fun _ => rfl).symm
    refine ⟨t, step.trans ht, ?_, ?_, ?_, ?_, ?_, ?_, ?_, ?_, ?_, fun busy => ?_, ?_, served.imp ?_, ?_⟩
    · rw [link, (congrArg EngineLink.expiredTag issued :), engine]
    · rw [link, (congrArg EngineLink.errorCount issued :), engine]
    · rw [link, (congrArg EngineLink.state issued :), engine]
    · rw [link, (congrArg EngineLink.counters issued :), engine]
    · rw [media]
      cases pulses : r.pulses? with
      | none =>
        rw [pulses] at paper
        rw [paper]
        cases s.media.roll.declared <;> rfl
      | some p =>
        rw [pulses] at paper
        rw [paper.1]
        unfold State.mediaMoved
        cases s.media.roll.declared <;> rfl
    · rw [supply, serveSlot_bays, drawn]
    · exact (turn.at .uncut).trans ((slot.at .uncut).trans (keeps.at .uncut))
    · exact (turn.at .colour).trans ((slot.at .colour).trans (keeps.at .colour))
    · exact (turn.at .editions).trans ((slot.at .editions).trans (keeps.at .editions))
    · have idle : w.serveSlot = w := serveSlot_outstanding w (by rw [engine]; exact busy)
      exact ⟨by rw [supply, idle, drawn], (turn.at .holder).trans ((congrArg State.holder idle).trans (keeps.at .holder))⟩
    · rw [media]
      exact stored.congr marked
    · rintro v ⟨rfl, -⟩
      refine ⟨engine, inked, spent.symm, noted, follows.orders, paper, follows.only.mono fun d hd => ?_⟩
      obtain ⟨rfl, moved⟩ | ⟨rfl, moved⟩ | ⟨rfl, posted⟩ | ⟨ends, rfl⟩ := hd
      · exact moved
      · exact moved
      · exact posted
      · exact .inr ends
    · exact spent.trans costs

end

end Sys2Proof.Machine

/-! Cartridges that come and go (O51; R96, R98, R102 to R105, R225). -/

namespace Sys2Proof.Machine

section
variable {s t u v : State}

/-! ### The bay sum and the state it gives (R91, R96) -/

/-- What a bay counts for in the bay sum. -/
def Bay.held (b : Bay) : Nat := if b.usable then b.remaining else 0

theorem Bay.supplying_eq (b : Bay) : b.supplying = decide (0 < b.held) := by
  unfold Bay.supplying Bay.held
  cases b.usable <;> simp

/-- The three cases of R96 for a bay sum. -/
def Channel.suppliedBy (c : Channel) (sum : Nat) : SupplyState :=
  if 0 < sum then (if sum < c.lowThreshold then .low else .supplied) else if 0 < c.reserve then .reserve else .dry

theorem suppliedState_sides (s : State) (k : Fin 12) :
    s.suppliedState k = (s.channel k).suppliedBy ((s.bay k .first).held + (s.bay k .second).held) := by
  have any : s.anySupplying k = decide (0 < (s.bay k .first).held + (s.bay k .second).held) := by
    simp [State.anySupplying, Bay.supplying_eq]
  unfold State.suppliedState Channel.suppliedBy State.baySum
  simp only [any, decide_eq_true_eq]
  rfl

theorem suppliedState_eq (s : State) (k : Fin 12) (side : BaySide) :
    s.suppliedState k = (s.channel k).suppliedBy ((s.bay k side).held + (s.bay k side.other).held) := by
  rw [suppliedState_sides]
  cases side
  · rfl
  · exact congrArg _ (Nat.add_comm _ _)

/-! ### A supply state written, and what goes pending (R98) -/

/-- ORDER goes pending with a new supply state when an order moves. -/
theorem onlyRaised_writeSupply (s : State) (k : Fin 12) (x : Channel) : OnlyRaised s (s.writeSupply k x) fun d =>
    x.supply ≠ (s.channel k).supply ∧
      (d = .supply ∨ d = .order ∧ ∃ i : Fin 40, (s.writeSupply k x).movesSlot s.orders.slots[i] = true) := by
  by_cases same : x.supply = (s.channel k).supply
  · exact .of_pending (congrArg NoticeUnit.pending (writeSupply_same s k x same).2)
  · obtain ⟨-, pending⟩ := writeSupply_changed s k x same
    intro d
    rw [pending]
    split
    · next moves =>
      obtain ⟨i, -, moves⟩ := List.any_eq_true.1 moves
      show _ ∧ (d.isIn ((s.notices.pending ||| Category.supply.mask) ||| Category.order.mask) = true → _)
      simp only [isIn_or, isIn_mask, Bool.or_eq_true, decide_eq_true_eq]
      refine ⟨fun h => .inl (.inl h), ?_⟩
      rintro ((held | supply) | order)
      · exact .inl held
      · exact .inr ⟨same, .inl supply⟩
      · exact .inr ⟨same, .inr ⟨order, i, moves⟩⟩
    · show _ ∧ (d.isIn (s.notices.pending ||| Category.supply.mask) = true → _)
      simp only [isIn_or, isIn_mask, Bool.or_eq_true, decide_eq_true_eq]
      exact ⟨.inl, Or.imp_right fun supply => ⟨same, .inl supply⟩⟩

/-! ### A bay written, before the evaluation of its channel -/

/-- The bay `b` stands as `held`, the record of its channel `k` as `y`, and SUPPLY went pending when a fill was clamped. -/
structure BayHeld (s v : State) (b : Fin 24) (k : Fin 12) (held : Bay) (y : Channel) (clamped : Prop) : Prop where
  keeps : Keeps inkBlocks s v
  orders : v.orders = s.orders
  ink : v.ink = { s.ink with bays := s.ink.bays.set b held, channels := s.ink.channels.set k y }
  supply : y.supply = (s.channel k).supply
  link : LinkKept s v
  marks : ∃ m, Marks m s v ∧ (m = true ↔ held ≠ s.ink.bays[b] ∨ y.retained ≠ (s.channel k).retained)
  only : OnlyRaised s v fun d => d = .supply ∧ clamped
  noted : clamped → v.notices.pending &&& 4#8 = 4#8

theorem set_self_channel (s : State) (k : Fin 12) : s.ink.channels.set k (s.channel k) = s.ink.channels := by
  simp [State.channel]

theorem bayHeld_setBay (s : State) (b : Fin 24) (k : Fin 12) (held : Bay) :
    BayHeld s (s.setBay b held) b k held (s.channel k) False := by
  have keeps := keeps_setBay s b held
  refine ⟨keeps.mono, keeps.at .orders, ?_, rfl, link_setBay s b held, ⟨_, marks_setBay s b held, by simp⟩,
    .of_pending (congrArg NoticeUnit.pending (keeps.at .notices)), False.elim⟩
  rw [setBay_ink, set_self_channel]

theorem BayHeld.raiseIf {b : Fin 24} {k : Fin 12} {held : Bay} {y : Channel} (h : BayHeld s v b k held y False) (p : Bool) :
    BayHeld s (v.raiseIf p .supply) b k held y (p = true) := by
  obtain ⟨keeps, orders, ink, supply, link, ⟨m, marks, marked⟩, raised, -⟩ := h
  have raises := keeps_raiseIf v p .supply
  refine ⟨keeps.mono.then raises, (raises.at .orders).trans orders, (raises.at .ink).trans ink, supply,
    link.trans (link_raiseIf v p .supply), ⟨m, marks.then raises, marked⟩,
    (raised.mono fun d hd => hd.2.elim).trans ((onlyRaised_raiseIf v p .supply).mono fun d hd => hd.symm), fun set => ?_⟩
  rw [raiseIf_pending, if_pos set, supply_mask]
  exact raised_bit _ _

/-- The active bay of the channel written with it. -/
theorem BayHeld.setActive {b : Fin 24} {k : Fin 12} {held : Bay} {clamped : Prop}
    (h : BayHeld s v b k held (s.channel k) clamped) (side : BaySide) :
    BayHeld s (v.setChannel k { s.channel k with active := side }) b k held { s.channel k with active := side } clamped := by
  obtain ⟨keeps, orders, ink, -, link, ⟨m, marks, marked⟩, raised, noted⟩ := h
  have writes := keeps_setChannel v k { s.channel k with active := side }
  have pending : (v.setChannel k { s.channel k with active := side }).notices = v.notices := writes.at .notices
  have channel : v.channel k = s.channel k := by
    unfold State.channel
    rw [ink]
    exact Vector.getElem_set_self _
  have stored := marks_setChannel v k { s.channel k with active := side }
  rw [channel] at stored
  refine ⟨keeps.mono.then writes, (writes.at .orders).trans orders, ?_, rfl, link.trans (link_setChannel v k _),
    ⟨_, marks.trans stored, ?_⟩, raised.trans (.of_pending (congrArg NoticeUnit.pending pending)), fun c => ?_⟩
  · rw [setChannel_ink, ink, set_self_channel]
  · rw [Bool.or_eq_true, marked, decide_eq_true_eq]
    exact or_congr_left (or_iff_left fun moved => moved rfl)
  · rw [pending]
    exact noted c

section
variable {b : Fin 24} {k : Fin 12} {held : Bay} {y x : Channel} {clamped : Prop}

theorem BayHeld.channel (h : BayHeld s v b k held y clamped) : v.channel k = y := by
  unfold State.channel
  rw [h.ink]
  exact Vector.getElem_set_self _

theorem BayHeld.bay {side : BaySide} (h : BayHeld s v (bayOf k side) k held y clamped) : v.bay k side = held := by
  unfold State.bay
  rw [h.ink]
  exact Vector.getElem_set_self _

theorem BayHeld.bay_other {side : BaySide} (h : BayHeld s v (bayOf k side) k held y clamped) :
    v.bay k side.other = s.bay k side.other := by
  unfold State.bay
  rw [h.ink]
  exact Vector.getElem_set_ne (bayOf k side).isLt (bayOf k side.other).isLt (bayOf_other_ne k side).symm

/-- The categories of a BAY_EVENT. -/
def BayRaises (s u : State) (k : Fin 12) (x : Channel) (clamped : Prop) (d : Category) : Prop :=
  (d = .supply ∧ (clamped ∨ x.supply ≠ (s.channel k).supply)) ∨
    (d = .order ∧ x.supply ≠ (s.channel k).supply ∧ ∃ i : Fin 40, u.movesSlot s.orders.slots[i] = true)

/-- What the channel record written last leaves, before the slot's turn. -/
theorem BayHeld.follows (h : BayHeld s v b k held y clamped) : let u := v.writeSupply k x
    Keeps inkBlocks s u ∧ u.ink = { s.ink with bays := s.ink.bays.set b held, channels := s.ink.channels.set k x } ∧
      OrdersFollow s.orders s u ∧ (clamped → u.notices.pending &&& 4#8 = 4#8) ∧
      OnlyRaised s u (BayRaises s u k x clamped) := by
  obtain ⟨keeps, orders, ink, supply, link, ⟨m, marks, marked⟩, raised, noted⟩ := id h
  have follows := follows_writeSupply (other := fun _ => True) v k x
  have still : Still s v := by
    refine .of_ink keeps fun c => ?_
    rw [ink]
    show (s.ink.channels.set k y)[c].supply = _
    rw [supply_set]
    split
    · next here => exact here ▸ supply
    · rfl
  have before : Follows (fun _ => True) s.orders s v :=
    .of_still (.of_keeps keeps) still orders link (raised.mono fun _ _ => trivial)
  refine ⟨keeps.mono.trans (keeps_writeSupply v k x).mono, ?_, (before.trans follows (.of_still_left still)).orders,
    fun c => follows.link.stays (noted c), ?_⟩
  · rw [writeSupply_ink, ink, Vector.set_set]
  · have written := onlyRaised_writeSupply v k x
    rw [h.channel, supply, orders] at written
    refine (raised.mono fun d ⟨supply, c⟩ => .inl ⟨supply, .inl c⟩).trans (written.mono fun d => ?_)
    rintro ⟨moved, rfl | ⟨rfl, moves⟩⟩
    · exact .inl ⟨rfl, .inr moved⟩
    · exact .inr ⟨rfl, moved, moves⟩

theorem exec_bayEvent {bay present : Byte} {serial : Vector Byte 12} {lot : Vector Byte 8} {fill : Word32} (works : Works s) :
    exec (.bayEvent bay present serial lot fill) s =
      s.run fun _ => (s.takeBayEvent bay present serial lot fill.toNat).serveSlot := by
  obtain ⟨free, quiet⟩ := works
  show s.run (fun s => s.whenWorking fun s => (s.takeBayEvent bay present serial lot fill.toNat).serveSlot) = _
  simp [State.run, free, State.whenWorking, State.working, quiet]

/-- A BAY_EVENT that ends with a channel record written. -/
theorem BayHeld.served {bay present : Byte} {serial : Vector Byte 12} {lot : Vector Byte 8} {fill : Word32}
    (works : Works s) (h : BayHeld s v b k held y clamped)
    (taken : s.takeBayEvent bay present serial lot fill.toNat = v.writeSupply k x)
    (between : (y.retained ≠ (s.channel k).retained ∨ x.retained ≠ y.retained) ↔ x.retained ≠ (s.channel k).retained) :
    ∃ t, exec (.bayEvent bay present serial lot fill) s = .next t ∧
      MarkedIf (held ≠ s.ink.bays[b] ∨ x.retained ≠ (s.channel k).retained) s t ∧ Served [.ink, .orders] s t fun u =>
        u.ink = { s.ink with bays := s.ink.bays.set b held, channels := s.ink.channels.set k x } ∧
          OrdersFollow s.orders s u ∧ (clamped → u.notices.pending &&& 4#8 = 4#8) ∧
          OnlyRaised s u (BayRaises s u k x clamped) := by
  obtain ⟨m, marks, marked⟩ := h.marks
  obtain ⟨keeps, after⟩ := h.follows (x := x)
  have stored := marks_writeSupply v k x
  rw [h.channel] at stored
  obtain ⟨t, ht, served, stored⟩ := run_serves s works
    (fun _ => (s.takeBayEvent bay present serial lot fill.toNat).serveSlot) _ [.ink, .orders]
    (fun u => u.ink = { s.ink with bays := s.ink.bays.set b held, channels := s.ink.channels.set k x } ∧
      OrdersFollow s.orders s u ∧ (clamped → u.notices.pending &&& 4#8 = 4#8) ∧
      OnlyRaised s u (BayRaises s u k x clamped)) (by rw [taken]) after
    keeps.mono (marks.trans stored)
  refine ⟨t, (exec_bayEvent works).trans ht, stored.congr ?_, served⟩
  rw [Bool.or_eq_true, marked, decide_eq_true_eq, or_assoc, between]

end

/-! ### A bay reported present (R102, R103) -/

theorem bayChannel_bayOf (k : Fin 12) (side : BaySide) : bayChannel (bayOf k side) = k := by
  refine Fin.ext ?_
  cases side <;> simp only [bayChannel, bayOf] <;> omega

theorem baySide_bayOf (k : Fin 12) (side : BaySide) : baySide (bayOf k side) = side := by
  cases side <;> simp [baySide, bayOf]

/-- The channel's record after its bay on `side` has been reported present. -/
def State.presentRecord (s : State) (k : Fin 12) (side : BaySide) : Channel :=
  let c := s.channel k
  if c.supply ∈ [.supplied, .low] then
    { c with supply := c.suppliedBy ((s.bay k side).held + (s.bay k side.other).held) }
  else if c.supply ∈ [.reserve, .dry] ∧ 0 < (s.bay k side).held then
    { c with supply := .refilling, refillBay := some side, active := side, refillElapsed := 0, fullRun := 0,
             lowRun := 0, emptyRun := 0 }
  else c

theorem afterPresent_eq (s : State) (k : Fin 12) (side : BaySide) :
    s.afterPresent (bayOf k side) = s.writeSupply k (s.presentRecord k side) := by
  have supplying : (s.ink.bays[bayOf k side]).supplying = decide (0 < (s.bay k side).held) := Bay.supplying_eq _
  unfold State.afterPresent State.presentRecord
  simp only [bayChannel_bayOf, baySide_bayOf, supplying, ← suppliedState_eq, decide_eq_true_eq]
  cases supply : (s.channel k).supply with
  | supplied => simp [State.evaluateSupply, supply]
  | low => simp [State.evaluateSupply, supply]
  | reserve =>
    by_cases ink : 0 < (s.bay k side).held
    · simp [ink, State.enterRefill]
    · simp [ink, writeSupply_self]
  | dry =>
    by_cases ink : 0 < (s.bay k side).held
    · simp [ink, State.enterRefill]
    · simp [ink, writeSupply_self]
  | refilling => simp [writeSupply_self]
  | fault => simp [writeSupply_self]

/-! ### A bay reported absent (R104) -/

/-- The channel's record after its bay on `side` has gone, its active bay having switched. -/
def State.absentRecord (s : State) (k : Fin 12) (side : BaySide) : Channel :=
  let c := s.channel k
  if c.supply ∈ [.supplied, .low] then
    { c with supply := c.suppliedBy ((s.bay k side).held + (s.bay k side.other).held) }
  else if c.supply = .refilling ∧ c.refillBay = some side then
    (if 0 < (s.bay k side.other).held then { c with refillBay := some side.other, active := side.other }
      else { c with supply := .fault, refillBay := none })
  else c

/-- The bay gone and the active bay switched. -/
def State.bayGone (s : State) (k : Fin 12) (side : BaySide) : State :=
  (s.setBay (bayOf k side) { s.bay k side with present := false }).setChannel k
    { s.channel k with active := if (s.channel k).active = side then side.other else (s.channel k).active }

theorem bayAbsent_eq (s : State) (k : Fin 12) (side : BaySide) (here : (s.bay k side).present = true) :
    s.bayAbsent (bayOf k side) = (s.bayGone k side).writeSupply k ((s.bayGone k side).absentRecord k side) := by
  have gone (w : State) (hw : w = s.setBay (bayOf k side) { s.bay k side with present := false }) :
      (if (w.channel k).active = side then w.setChannel k { w.channel k with active := side.other } else w) =
        s.bayGone k side := by
    have channel : w.channel k = s.channel k := hw ▸ setBay_channel s _ _ k
    unfold State.bayGone
    rw [← hw, ← channel]
    split
    · rfl
    · exact (setChannel_self w k).symm
  have split : s.bayAbsent (bayOf k side) = match ((s.bayGone k side).channel k).supply with
      | .supplied => (s.bayGone k side).evaluateSupply k
      | .low => (s.bayGone k side).evaluateSupply k
      | .refilling => if ((s.bayGone k side).channel k).refillBay = some side then
          (s.bayGone k side).refillBayRemoved k side else s.bayGone k side
      | .reserve => s.bayGone k side
      | .dry => s.bayGone k side
      | .fault => s.bayGone k side := by
    rw [← gone _ rfl]
    unfold State.bayAbsent
    rw [if_neg (by rw [show (s.ink.bays[bayOf k side]).present = true from here]; simp)]
    simp only [bayChannel_bayOf, baySide_bayOf]
    rfl
  rw [split]
  generalize s.bayGone k side = w
  have supplying : (w.bay k side.other).supplying = decide (0 < (w.bay k side.other).held) := Bay.supplying_eq _
  unfold State.absentRecord
  simp only [← suppliedState_eq]
  cases supply : (w.channel k).supply with
  | supplied => simp [State.evaluateSupply, supply]
  | low => simp [State.evaluateSupply, supply]
  | reserve => simp [writeSupply_self]
  | dry => simp [writeSupply_self]
  | fault => simp [writeSupply_self]
  | refilling =>
    by_cases refills : (w.channel k).refillBay = some side
    · unfold State.refillBayRemoved
      by_cases other : 0 < (w.bay k side.other).held
      · simp [refills, supplying, other, State.writeSupply, supply]
      · simp [refills, supplying, other]
    · simp [refills, writeSupply_self]

/-- The switch of the active bay is the last word on it: nothing later in the removal moves it again. -/
theorem absentRecord_retained {k : Fin 12} {side : BaySide} (switched : (s.channel k).active ≠ side) :
    (s.absentRecord k side).retained =
      { (s.channel k).retained with supply := (s.absentRecord k side).retained.supply } := by
  have active : side.other = (s.channel k).active := by
    cases side <;> cases h : (s.channel k).active <;> simp_all [BaySide.other]
  unfold State.absentRecord
  dsimp only
  split
  · rfl
  · split
    · split
      · simp only [Channel.retained, active]
      · rfl
    · rfl

theorem switched_ne (side active : BaySide) : (if active = side then side.other else active) ≠ side := by
  cases side <;> cases active <;> decide

theorem takeBayEvent_unused {bay present : Byte} {serial : Vector Byte 12} {lot : Vector Byte 8} {fill : Nat}
    (unused : 23 < bay.toNat ∨ 1 < present.toNat) : s.takeBayEvent bay present serial lot fill = s := by
  unfold State.takeBayEvent
  split
  · next inRange =>
    have large : 1 < present.toNat := unused.resolve_left (by omega)
    rw [if_neg (by rintro rfl; exact absurd large (by decide)), if_neg (by rintro rfl; exact absurd large (by decide))]
  · rfl

theorem takeBayEvent_bay {bay present : Byte} {serial : Vector Byte 12} {lot : Vector Byte 8} {fill : Nat} {b : Fin 24}
    (same : bay.toNat = b.val) : s.takeBayEvent bay present serial lot fill =
      if present = 0 then s.bayAbsent b
      else if present = 1 then
        (if serial = (s.ink.bays[b]).serial then s.knownCartridge b else s.newCartridge b serial lot fill)
      else s := by
  have inRange : bay.toNat < 24 := by omega
  have here : (⟨bay.toNat, inRange⟩ : Fin 24) = b := Fin.ext same
  unfold State.takeBayEvent
  rw [dif_pos inRange]
  simp only [here]

/-- An event that changes nothing. -/
theorem bayEvent_unused {bay present : Byte} {serial : Vector Byte 12} {lot : Vector Byte 8} {fill : Word32}
    (works : Works s) (still : s.takeBayEvent bay present serial lot fill.toNat = s) :
    ∃ t, exec (.bayEvent bay present serial lot fill) s = .next t ∧
      Served [] s t fun u => u.notices.pending = s.notices.pending := by
  obtain ⟨t, ht, served, -⟩ := run_served s works
    (fun _ => (s.takeBayEvent bay present serial lot fill.toNat).serveSlot) s []
    (fun u => u.notices.pending = s.notices.pending) (by rw [still]) rfl (Keeps.refl _ s)
  exact ⟨t, (exec_bayEvent works).trans ht, served⟩

/-- Settles O51: the bay's record written (`BayHeld`), then its channel's as `presentRecord` or `absentRecord` gives. -/
theorem bayEvents : Obligations.BayEvents := by
  intro s bay present serial lot fill works
  refine ⟨fun unused => bayEvent_unused works (takeBayEvent_unused unused), fun b k side same here => ?_⟩
  subst here
  intro old c holds other state follows
  have follows_of {v : State} {held : Bay} {y x : Channel} {clamped : Prop}
      (h : BayHeld s v (bayOf k side) k held y clamped)
      (taken : s.takeBayEvent bay present serial lot fill.toNat = v.writeSupply k x)
      (between : (y.retained ≠ (s.channel k).retained ∨ x.retained ≠ y.retained) ↔
        x.retained ≠ (s.channel k).retained) :
      ∃ t, exec (.bayEvent bay present serial lot fill) s = .next t ∧ follows held x clamped t := by
    obtain ⟨t, ht, marked, served⟩ := h.served works taken between
    refine ⟨t, ht, marked, served.imp ?_⟩
    rintro u ⟨ink, orders, noted, raised⟩
    refine ⟨ink, orders, noted, raised.mono fun d hd => ?_⟩
    obtain ⟨rfl, supply⟩ | ⟨rfl, moves⟩ := hd
    · exact supply
    · exact moves
  refine ⟨fun isPresent => ?_, fun isAbsent was => ?_, fun isAbsent was => ?_⟩
  · intro nl held x
    have taken := takeBayEvent_bay (s := s) (present := present) (serial := serial) (lot := lot) (fill := fill.toNat) same
    rw [isPresent, if_neg (by decide), if_pos rfl] at taken
    have presents {v : State} {clamped : Prop} (h : BayHeld s v (bayOf k side) k held (s.channel k) clamped)
        (after : s.takeBayEvent bay 1 serial lot fill.toNat = v.afterPresent (bayOf k side)) :
        ∃ t, exec (.bayEvent bay present serial lot fill) s = .next t ∧ follows held x clamped t := by
      have record : v.presentRecord k side = x := by
        unfold State.presentRecord
        rw [h.channel, h.bay, h.bay_other]
        rfl
      rw [afterPresent_eq, record, ← isPresent] at after
      exact follows_of h after (by simp)
    by_cases known : serial = old.serial
    · have written := bayHeld_setBay s (bayOf k side) k held
      have none : (serial ≠ old.serial ∧ nl ≠ fill.toNat) = False := by simp [known]
      rw [none]
      refine presents written (taken.trans ?_)
      rw [if_pos known]
      show (s.setBay _ { old with present := true }).afterPresent _ = (s.setBay _ held).afterPresent _
      rw [show held = { old with present := true } from if_pos known]
    · have written := (bayHeld_setBay s (bayOf k side) k held).raiseIf (decide (nl ≠ fill.toNat))
      have clamped : (decide (nl ≠ fill.toNat) = true) = (serial ≠ old.serial ∧ nl ≠ fill.toNat) := by simp [known]
      rw [clamped] at written
      refine presents written (taken.trans ?_)
      rw [if_neg known]
      show ((s.setBay _ _).raiseIf _ _).afterPresent _ = ((s.setBay _ held).raiseIf _ _).afterPresent _
      rw [show held = _ from if_neg known]
      rfl
  · intro active x
    have taken := takeBayEvent_bay (s := s) (present := present) (serial := serial) (lot := lot) (fill := fill.toNat) same
    rw [isAbsent, if_pos rfl, bayAbsent_eq s k side was, ← isAbsent] at taken
    have gone : BayHeld s (s.bayGone k side) (bayOf k side) k { old with present := false } { c with active := active } False :=
      (bayHeld_setBay s (bayOf k side) k { old with present := false }).setActive active
    generalize s.bayGone k side = v at taken gone
    have record : v.absentRecord k side = x := by
      unfold State.absentRecord
      rw [gone.channel, gone.bay, gone.bay_other]
      have nothing : Bay.held { old with present := false } = 0 := by simp [Bay.held, Bay.usable]
      rw [nothing]
      rfl
    have between := absentRecord_retained (s := v) (k := k) (side := side)
      (by rw [gone.channel]; exact switched_ne side c.active)
    rw [record, gone.channel] at between
    rw [record] at taken
    exact follows_of gone taken (retained_between_of rfl between)
  · refine bayEvent_unused works ?_
    rw [takeBayEvent_bay same, if_pos isAbsent]
    exact if_pos (by rw [was]; rfl)

end

end Sys2Proof.Machine

/-! LEVELS samples (O50; R99 to R101, R107). -/

namespace Sys2Proof.Machine

section
variable {s t u v w : State}

/-! ### A channel with its two bays -/

/-- The record of channel `c` and its two bays are as they were. -/
structure SameCell (s u : State) (c : Fin 12) : Prop where
  channel : u.channel c = s.channel c
  bays (side : BaySide) : u.bay c side = s.bay c side

section
variable {c : Fin 12}

theorem SameCell.refl (s : State) (c : Fin 12) : SameCell s s c := ⟨rfl, fun _ => rfl⟩

theorem SameCell.trans (h : SameCell s t c) (k : SameCell t u c) : SameCell s u c :=
  ⟨k.channel.trans h.channel, fun side => (k.bays side).trans (h.bays side)⟩

theorem SameCell.of_ink (h : u.ink = s.ink) : SameCell s u c := by
  constructor <;> simp [State.channel, State.bay, h]

theorem sameCell_setChannel (s : State) {c j : Fin 12} (x : Channel) (h : j ≠ c) : SameCell s (s.setChannel c x) j := by
  refine ⟨?_, fun side => ?_⟩
  · simp [State.channel, setChannel_ink, Vector.getElem_set_ne, Fin.val_ne_of_ne h.symm]
  · simp [State.bay, setChannel_ink]

theorem sameCell_writeSupply (s : State) {c j : Fin 12} (x : Channel) (h : j ≠ c) : SameCell s (s.writeSupply c x) j := by
  refine (sameCell_setChannel s x h).trans (.of_ink ?_)
  rw [writeSupply_ink, setChannel_ink]

theorem sameCell_setBay (s : State) {c j : Fin 12} (side : BaySide) (x : Bay) (h : j ≠ c) :
    SameCell s (s.setBay (bayOf c side) x) j := by
  refine ⟨?_, fun side' => ?_⟩
  · simp [State.channel, setBay_ink]
  · have apart := Fin.val_ne_of_ne (bayOf_other_channel h side' side).symm
    simp [State.bay, setBay_ink, Vector.getElem_set_ne, apart]

theorem setBay_bay (s : State) (c : Fin 12) (side : BaySide) (x : Bay) : (s.setBay (bayOf c side) x).bay c side = x := by
  simp [State.bay, setBay_ink]

theorem setBay_bay_other (s : State) (c : Fin 12) (side : BaySide) (x : Bay) :
    (s.setBay (bayOf c side) x).bay c side.other = s.bay c side.other := by
  have apart := (bayOf_other_ne c side).symm
  simp [State.bay, setBay_ink, Vector.getElem_set_ne, apart]

theorem setChannel_bay (s : State) (c : Fin 12) (x : Channel) (side : BaySide) :
    (s.setChannel c x).bay c side = s.bay c side := by
  simp [State.bay, setChannel_ink]

theorem writeSupply_bay (s : State) (c : Fin 12) (x : Channel) (side : BaySide) :
    (s.writeSupply c x).bay c side = s.bay c side := by
  simp [State.bay, writeSupply_ink]

theorem writeSupply_channel (s : State) (c : Fin 12) (x : Channel) : (s.writeSupply c x).channel c = x := by
  simp [State.channel, writeSupply_ink]

/-- The bay sum of a channel. -/
def State.cellSum (s : State) (c : Fin 12) : Nat := (s.bay c .first).held + (s.bay c .second).held

theorem SameCell.cellSum (h : SameCell s u c) : u.cellSum c = s.cellSum c := by
  unfold State.cellSum
  rw [h.bays, h.bays]

/-! ### What a sample leads to -/

/-- The active bay is declared empty by its float (R100). -/
def State.sampleEmpties (s : State) (c : Fin 12) (l : Level) : Prop :=
  l = .low ∧ (s.channel c).lowRun = 8 ∧ (s.channel c).supply ∈ [.supplied, .low] ∧
    (s.bay c (s.channel c).active).present = true ∧ 0 < (s.bay c (s.channel c).active).remaining

/-- The channel becomes DRY by its float (R101). -/
def State.sampleDries (s : State) (c : Fin 12) (l : Level) : Prop :=
  l = .empty ∧ (s.channel c).emptyRun = 8 ∧ (s.channel c).supply ∈ [.supplied, .low, .reserve]

/-- The refill completes (R107). -/
def State.sampleFills (s : State) (c : Fin 12) (l : Level) : Prop :=
  l = .full ∧ (s.channel c).fullRun = 32 ∧ (s.channel c).supply = .refilling

def State.sampleActs (s : State) (c : Fin 12) (l : Level) : Prop :=
  s.sampleEmpties c l ∨ s.sampleDries c l ∨ s.sampleFills c l

variable {l : Level}

theorem SameCell.acts (h : SameCell s u c) : u.sampleActs c l ↔ s.sampleActs c l := by
  simp only [State.sampleActs, State.sampleEmpties, State.sampleDries, State.sampleFills, h.channel, h.bays]

theorem actOnSample_empties (h : s.sampleEmpties c l) : s.actOnSample c l = s.declareEmpty c := by
  obtain ⟨rfl, run, supply, present, ink⟩ := h
  exact if_pos ⟨run, by simpa using supply, present, ink⟩

theorem actOnSample_dries (h : s.sampleDries c l) :
    s.actOnSample c l = s.writeSupply c { s.channel c with supply := .dry, reserve := 0, emptyRun := 0 } := by
  obtain ⟨rfl, run, supply⟩ := h
  exact if_pos ⟨run, by simpa using supply⟩

theorem actOnSample_fills (h : s.sampleFills c l) : s.actOnSample c l = s.completeRefill c := by
  obtain ⟨rfl, run, supply⟩ := h
  exact if_pos ⟨run, supply⟩

theorem actOnSample_idle (h : ¬s.sampleActs c l) : s.actOnSample c l = s := by
  unfold State.sampleActs State.sampleEmpties State.sampleDries State.sampleFills at h
  simp only [not_or] at h
  obtain ⟨empties, dries, fills⟩ := h
  cases l with
  | full => exact if_neg fun ⟨run, supply⟩ => fills ⟨rfl, run, supply⟩
  | normal => rfl
  | low => exact if_neg fun ⟨run, supply, present, ink⟩ => empties ⟨rfl, run, by simpa using supply, present, ink⟩
  | empty => exact if_neg fun ⟨run, supply⟩ => dries ⟨rfl, run, by simpa using supply⟩

/-- What an act on one channel leaves of the rest, and what it notes. -/
structure SampleActed (s u : State) (c : Fin 12) : Prop where
  follows : Follows (fun _ => True) s.orders s u
  elsewhere (j : Fin 12) : j ≠ c → SameCell s u j
  sizes : u.ink.sizes = s.ink.sizes
  marks : Marks true s u
  noted : u.notices.pending &&& 4#8 = 4#8

/-! ### The active bay declared empty (R100) -/

/-- The bay and the channel record of a float that finds the bay empty, before the evaluation. -/
def State.declared (s : State) (c : Fin 12) : State :=
  (s.setBay (bayOf c (s.channel c).active)
    { s.bay c (s.channel c).active with
      unaccounted := (s.bay c (s.channel c).active).remaining, remaining := 0, declaredEmpty := true }).setChannel c
    { s.channel c with active := (s.channel c).active.other, lowRun := 0 }

theorem declareEmpty_eq (s : State) (c : Fin 12) : s.declareEmpty c = ((s.declared c).raise .supply).evaluateSupply c := rfl

/-- The channel writes that keep its supply state, then a category raised: nothing that eligibility reads has moved. -/
theorem follows_quietly {l : List Block} (keeps : Keeps l s u) (supply : ∀ j : Fin 12, (u.channel j).supply = (s.channel j).supply)
    (link : LinkKept s u) (media : Block.media ∉ l := by decide) (colour : Block.colour ∉ l := by decide)
    (editions : Block.editions ∉ l := by decide) (orders : Block.orders ∉ l := by decide) :
    Follows (fun _ => True) s.orders s u :=
  .of_still (.of_keeps keeps media editions) (.of_ink keeps supply media colour) (keeps.at .orders orders) link
    link.onlyRaised

theorem setBay_channels (s : State) (b : Fin 24) (x : Bay) : (s.setBay b x).ink.channels = s.ink.channels := by
  rw [setBay_ink]

theorem declared_channel (s : State) (c : Fin 12) :
    (s.declared c).channel c = { s.channel c with active := (s.channel c).active.other, lowRun := 0 } :=
  setChannel_channel _ _ _

theorem declared_elsewhere (s : State) {c j : Fin 12} (h : j ≠ c) : SameCell s (s.declared c) j :=
  (sameCell_setBay s _ _ h).trans (sameCell_setChannel _ _ h)

theorem declareEmpty_acted (h : s.sampleEmpties c l) : SampleActed s (s.declareEmpty c) c := by
  obtain ⟨-, -, -, -, ink⟩ := h
  have keeps : Keeps [.ink, .store, .notices, .server] s ((s.declared c).raise .supply) :=
    ((keeps_setBay s _ _).mono.trans (keeps_setChannel _ _ _).mono).trans (keeps_raise _ _).mono
  have raised : ((s.declared c).raise .supply).ink = (s.declared c).ink := (keeps_raise _ _).at .ink
  have elsewhere (j : Fin 12) (h : j ≠ c) : SameCell s ((s.declared c).raise .supply) j :=
    (declared_elsewhere s h).trans (.of_ink raised)
  have channel : ((s.declared c).raise .supply).channel c =
      { s.channel c with active := (s.channel c).active.other, lowRun := 0 } := by
    rw [State.channel, raised]
    exact declared_channel s c
  have link : LinkKept s ((s.declared c).raise .supply) :=
    ((link_setBay s _ _).trans (link_setChannel _ _ _)).trans (link_raise _ _)
  have marks : Marks true s ((s.declared c).raise .supply) := by
    refine Marks.then ((Marks.trans (marks_setBay s _ _) (marks_setChannel _ _ _)).congr ?_) (keeps_raise _ _)
    refine Bool.or_eq_true_iff.2 (.inl (decide_eq_true fun same => ?_))
    have empty : 0 = (s.bay c (s.channel c).active).remaining := congrArg Bay.remaining same
    omega
  have noted : ((s.declared c).raise .supply).notices.pending &&& 4#8 = 4#8 := by
    rw [raise_pending, supply_mask]
    exact raised_bit _ _
  have sizes : ((s.declared c).raise .supply).ink.sizes = s.ink.sizes := by
    rw [raised, State.declared, setChannel_ink, setBay_ink]
  rw [declareEmpty_eq, evaluateSupply_eq_writeSupply]
  generalize (s.declared c).raise .supply = w at keeps elsewhere channel link marks noted sizes
  have supply (j : Fin 12) : (w.channel j).supply = (s.channel j).supply := by
    by_cases same : j = c
    · subst same
      rw [channel]
    · rw [(elsewhere j same).channel]
  have quietly := follows_quietly keeps supply link
  have written := follows_writeSupply (other := fun _ => True) w c { w.channel c with supply := w.evaluatedSupply c }
  refine ⟨quietly.trans written (.of_still_left (.of_ink keeps supply)), fun j h => (elsewhere j h).trans
    (sameCell_writeSupply w _ h), ?_, (marks.trans (marks_writeSupply w c _)).congr (Bool.true_or _), written.link.stays noted⟩
  rw [writeSupply_ink]
  exact sizes

/-- The channel and its bays after its active bay has been declared empty. -/
theorem declareEmpty_cell (h : s.sampleEmpties c l) : let u := s.declareEmpty c
    u.bay c (s.channel c).active =
        { s.bay c (s.channel c).active with
          unaccounted := (s.bay c (s.channel c).active).remaining, remaining := 0, declaredEmpty := true } ∧
      u.bay c (s.channel c).active.other = s.bay c (s.channel c).active.other ∧
      u.channel c = { s.channel c with
        active := (s.channel c).active.other, lowRun := 0, supply := (s.channel c).suppliedBy (u.cellSum c) } := by
  obtain ⟨-, -, supply, -, -⟩ := h
  have raised : ((s.declared c).raise .supply).ink = (s.declared c).ink := (keeps_raise _ _).at .ink
  have same : SameCell (s.declared c) ((s.declared c).raise .supply) c := .of_ink raised
  have channel := same.channel.trans (declared_channel s c)
  have active : ((s.declared c).raise .supply).bay c (s.channel c).active = _ :=
    ((same.bays _).trans (setChannel_bay _ _ _ _)).trans (setBay_bay s c (s.channel c).active _)
  have other : ((s.declared c).raise .supply).bay c (s.channel c).active.other = _ :=
    ((same.bays _).trans (setChannel_bay _ _ _ _)).trans (setBay_bay_other s c (s.channel c).active _)
  intro u
  have eq : u = ((s.declared c).raise .supply).writeSupply c
    { ((s.declared c).raise .supply).channel c with supply := ((s.declared c).raise .supply).evaluatedSupply c } :=
    evaluateSupply_eq_writeSupply _ _
  generalize (s.declared c).raise .supply = w at channel active other eq
  have sum : u.cellSum c = w.cellSum c := by simp only [eq, State.cellSum, writeSupply_bay]
  have evaluated : w.evaluatedSupply c = (s.channel c).suppliedBy (u.cellSum c) := by
    unfold State.evaluatedSupply
    rw [if_pos (by simpa [channel] using supply), suppliedState_sides, sum, channel]
    rfl
  refine ⟨?_, ?_, ?_⟩
  · rw [eq, writeSupply_bay, active]
  · rw [eq, writeSupply_bay, other]
  · exact (congrArg (State.channel · c) eq).trans ((writeSupply_channel _ _ _).trans (by rw [evaluated, channel]))

/-! ### DRY by the float (R101) -/

theorem sampleDries_acted (h : s.sampleDries c l) :
    SampleActed s (s.writeSupply c { s.channel c with supply := .dry, reserve := 0, emptyRun := 0 }) c := by
  obtain ⟨-, -, supply⟩ := h
  have wet : (s.channel c).supply ≠ .dry ∧ (s.channel c).supply ≠ .refilling := by
    constructor <;> intro is <;> simp [is] at supply
  refine ⟨follows_writeSupply s c _, fun j h => sameCell_writeSupply s _ h, by rw [writeSupply_ink],
    (marks_writeSupply s c _).congr (decide_eq_true fun same => ?_), ?_⟩
  · have state := congrArg RetainedChannel.supply same
    simp [Channel.retained, wet.2] at state
    exact wet.1 state.symm
  · rw [← supply_mask]
    exact writeSupply_pending s c _ wet.1.symm

/-! ### A refill completes (R107) -/

/-- The record of a channel whose refill completes, before the evaluation. -/
def Channel.filled (c : Channel) : Channel :=
  { c with reserve := reserveFull, refillElapsed := 0, refillBay := none, fullRun := 0 }

/-- The channel filled and its top-up taken, before the evaluation. -/
def State.filled (s : State) (c : Fin 12) : State := (s.topUp c).setChannel c (s.channel c).filled

theorem topUp_channels (s : State) (c : Fin 12) : (s.topUp c).ink.channels = s.ink.channels := by
  unfold State.topUp
  split
  · rfl
  · exact setBay_channels _ _ _

theorem topUp_bay (s : State) (c : Fin 12) (side : BaySide) : (s.topUp c).bay c side =
    (s.bay c side).less (if (s.channel c).refillBay = some side then 25000000 - (s.channel c).reserve else 0) := by
  unfold State.topUp
  split
  · next refills => simp [refills, Bay.less]
  · next from' refills =>
    rw [refills]
    by_cases same : from' = side
    · subst same
      rw [setBay_bay, if_pos rfl]
      rfl
    · have other : side = from'.other := by cases from' <;> cases side <;> simp_all [BaySide.other]
      subst other
      rw [setBay_bay_other, if_neg (by simpa using same)]
      rfl

theorem completeRefill_eq (s : State) (c : Fin 12) : s.completeRefill c =
    ((s.filled c).writeSupply c { (s.channel c).filled with supply := (s.filled c).suppliedState c }).requestCleaning c 1 := by
  have channel : (s.topUp c).channel c = s.channel c := by rw [State.channel, topUp_channels]; rfl
  unfold State.completeRefill
  simp only [channel]
  rfl

theorem keeps_filled (s : State) (c : Fin 12) : Keeps [.ink, .store] s (s.filled c) :=
  (keeps_topUp s c).mono.trans (keeps_setChannel _ _ _).mono

theorem filled_channel (s : State) (c : Fin 12) : (s.filled c).channel c = (s.channel c).filled := setChannel_channel _ _ _

theorem filled_elsewhere (s : State) {c j : Fin 12} (h : j ≠ c) : SameCell s (s.filled c) j := by
  refine SameCell.trans ?_ (sameCell_setChannel _ _ h)
  unfold State.topUp
  split
  · exact .refl s j
  · exact sameCell_setBay s _ _ h

/-- A full reserve supplies the channel or stands in for its bays. -/
theorem filled_supplied (s : State) (c : Fin 12) : (s.filled c).suppliedState c ∈ [SupplyState.supplied, .low, .reserve] := by
  rw [suppliedState_sides, filled_channel]
  unfold Channel.suppliedBy
  split
  · split <;> simp
  · have full : 0 < (s.channel c).filled.reserve := (by decide : 0 < reserveFull)
    rw [if_pos full]
    simp

theorem completeRefill_acted (h : s.sampleFills c l) : SampleActed s (s.completeRefill c) c := by
  obtain ⟨-, -, refilling⟩ := h
  have keeps := keeps_filled s c
  have elsewhere (j : Fin 12) (h : j ≠ c) := filled_elsewhere s h
  have channel := filled_channel s c
  have supplied := filled_supplied s c
  have link : LinkKept s (s.filled c) := (link_topUp s c).trans (link_setChannel _ _ _)
  obtain ⟨b, marks⟩ : MayMark s (s.filled c) := by
    refine MayMark.trans ?_ (marks_setChannel _ _ _).mayMark
    unfold State.topUp
    split
    · exact (Marks.of_store_eq rfl).mayMark
    · exact (marks_setBay _ _ _).mayMark
  have sizes : (s.filled c).ink.sizes = s.ink.sizes := by
    rw [State.filled, setChannel_ink]
    unfold State.topUp
    split
    · rfl
    · rw [setBay_ink]
  rw [completeRefill_eq]
  generalize s.filled c = w at *
  have supply (j : Fin 12) : (w.channel j).supply = (s.channel j).supply := by
    by_cases same : j = c
    · subst same
      rw [channel]
      rfl
    · rw [(elsewhere j same).channel]
  have changes : ({ (s.channel c).filled with supply := w.suppliedState c } : Channel).supply ≠ (w.channel c).supply := by
    rw [supply, refilling]
    intro same
    have same' : w.suppliedState c = .refilling := same
    simp [same'] at supplied
  have quietly := follows_quietly keeps supply link
  have written := follows_writeSupply (other := fun _ => True) w c { (s.channel c).filled with supply := w.suppliedState c }
  have pending := writeSupply_pending w c _ changes
  have stored := marks_writeSupply w c { (s.channel c).filled with supply := w.suppliedState c }
  have ink := writeSupply_ink w c { (s.channel c).filled with supply := w.suppliedState c }
  have same (j : Fin 12) (h : j ≠ c) := sameCell_writeSupply w { (s.channel c).filled with supply := w.suppliedState c } h
  rw [decide_eq_true] at stored
  · generalize w.writeSupply c { (s.channel c).filled with supply := w.suppliedState c } = u at *
    have cleans := follows_setChannel (other := fun _ => True) u (c := c)
      (x := { u.channel c with cleaning := max (u.channel c).cleaning 1 }) rfl
    have still := still_setChannel u (c := c) (x := { u.channel c with cleaning := max (u.channel c).cleaning 1 }) rfl
    refine ⟨(quietly.trans written (.of_still_left (.of_ink keeps supply))).congr cleans still, fun j h => ?_, ?_, ?_,
      cleans.link.stays (supply_mask ▸ pending)⟩
    · exact ((elsewhere j h).trans (same j h)).trans (sameCell_setChannel u _ h)
    · unfold State.requestCleaning
      rw [setChannel_ink, ink]
      exact sizes
    · exact ((marks.trans stored).trans (marks_setChannel u c _)).congr (by simp)
  · intro same
    have state := congrArg RetainedChannel.supply same
    rw [channel] at state
    simp only [Channel.retained, Channel.filled, refilling] at state
    have dry : w.suppliedState c = .dry := by simpa [suppliedState_ne_refilling] using state
    simp [dry] at supplied

/-- The channel and its bays after a refill has completed. -/
theorem completeRefill_cell (s : State) (c : Fin 12) : let u := s.completeRefill c
    (∀ side, u.bay c side =
        (s.bay c side).less (if (s.channel c).refillBay = some side then 25000000 - (s.channel c).reserve else 0)) ∧
      u.channel c = { (s.channel c).filled with
        supply := (s.channel c).filled.suppliedBy (u.cellSum c), cleaning := max (s.channel c).cleaning 1 } := by
  have bays (side : BaySide) : (s.filled c).bay c side = _ := (setChannel_bay _ _ _ _).trans (topUp_bay s c side)
  have channel := filled_channel s c
  intro u
  have eq : u = _ := completeRefill_eq s c
  have bay (side : BaySide) : u.bay c side = (s.filled c).bay c side := by
    rw [eq]
    exact (setChannel_bay _ _ _ _).trans (writeSupply_bay _ _ _ _)
  have sum : u.cellSum c = (s.filled c).cellSum c := by simp only [State.cellSum, bay]
  refine ⟨fun side => (bay side).trans (bays side), ?_⟩
  rw [sum, eq]
  unfold State.requestCleaning
  rw [setChannel_channel, writeSupply_channel, suppliedState_sides, channel]
  rfl

/-! ### The twelve samples of an event (R99) -/

theorem actOnSample_acted (h : s.sampleActs c l) : SampleActed s (s.actOnSample c l) c := by
  obtain empties | dries | fills := h
  · rw [actOnSample_empties empties]
    exact declareEmpty_acted empties
  · rw [actOnSample_dries dries]
    exact sampleDries_acted dries
  · rw [actOnSample_fills fills]
    exact completeRefill_acted fills

theorem actOnSample_elsewhere (s : State) (c : Fin 12) (l : Level) {j : Fin 12} (h : j ≠ c) :
    SameCell s (s.actOnSample c l) j := by
  by_cases acts : s.sampleActs c l
  · exact (actOnSample_acted acts).elsewhere j h
  · rw [actOnSample_idle acts]
    exact .refl s j

theorem actOnSample_follows (s : State) (c : Fin 12) (l : Level) :
    Follows (fun _ => True) s.orders s (s.actOnSample c l) ∧ (s.actOnSample c l).ink.sizes = s.ink.sizes := by
  by_cases acts : s.sampleActs c l
  · exact ⟨(actOnSample_acted acts).follows, (actOnSample_acted acts).sizes⟩
  · rw [actOnSample_idle acts]
    exact ⟨.of_keeps (Keeps.refl [] s) (.refl s) (.of_pending rfl), rfl⟩

/-- Channel by channel: each as its own sample leaves it, and no other. -/
theorem samples_cell (levels : Fin 12 → Level) (l : List (Fin 12)) (distinct : l.Nodup) (s : State) :
    let u := l.foldl (fun s c => s.actOnSample c (levels c)) s
    (∀ c, c ∉ l → SameCell s u c) ∧
      ∀ c, c ∈ l → ∃ w, SameCell s w c ∧ SameCell (w.actOnSample c (levels c)) u c := by
  induction l generalizing s with
  | nil => exact ⟨fun c _ => .refl s c, fun c h => by simp at h⟩
  | cons c l ih =>
    obtain ⟨absent, distinct⟩ := List.nodup_cons.1 distinct
    obtain ⟨out, inside⟩ := ih distinct (s.actOnSample c (levels c))
    refine ⟨fun j h => ?_, fun j h => ?_⟩
    · rw [List.mem_cons, not_or] at h
      exact (actOnSample_elsewhere s c _ h.1).trans (out j h.2)
    · obtain rfl | later := List.mem_cons.1 h
      · exact ⟨s, .refl s j, out j absent⟩
      · obtain ⟨w, same, after⟩ := inside j later
        have other : j ≠ c := fun here => absent (here ▸ later)
        exact ⟨w, (actOnSample_elsewhere s c _ other).trans same, after⟩

/-- What the acts note, mark and re-evaluate. -/
theorem samples_act (levels : Fin 12 → Level) (l : List (Fin 12)) (distinct : l.Nodup) (s : State) :
    let u := l.foldl (fun s c => s.actOnSample c (levels c)) s
    Follows (fun _ => True) s.orders s u ∧ u.ink.sizes = s.ink.sizes ∧
      ((∃ c ∈ l, s.sampleActs c (levels c)) → Marks true s u ∧ u.notices.pending &&& 4#8 = 4#8) ∧
      ((¬∃ c ∈ l, s.sampleActs c (levels c)) → u = s) := by
  induction l generalizing s with
  | nil =>
    exact ⟨.of_keeps (Keeps.refl [] s) (.refl s) (.of_pending rfl), rfl, fun ⟨_, h, _⟩ => by simp at h, fun _ => rfl⟩
  | cons c l ih =>
    obtain ⟨absent, distinct'⟩ := List.nodup_cons.1 distinct
    have cells := (samples_cell levels l distinct' (s.actOnSample c (levels c))).1
    obtain ⟨rest, sizes, noted, idle⟩ := ih distinct' (s.actOnSample c (levels c))
    obtain ⟨first, sizes'⟩ := actOnSample_follows s c (levels c)
    have later : (∃ j ∈ l, (s.actOnSample c (levels c)).sampleActs j (levels j)) ↔ ∃ j ∈ l, s.sampleActs j (levels j) := by
      refine exists_congr fun j => and_congr_right fun here => ?_
      exact (actOnSample_elsewhere s c _ fun same => absent (same ▸ here)).acts
    rw [later] at noted idle
    have apart : Apart s (s.actOnSample c (levels c))
        (l.foldl (fun s c => s.actOnSample c (levels c)) (s.actOnSample c (levels c))) := by
      refine .of_ink (keeps_actOnSample s c _) fun j => ?_
      by_cases here : j = c
      · exact .inr (congrArg Channel.supply (cells j (here ▸ absent)).channel)
      · exact .inl (congrArg Channel.supply (actOnSample_elsewhere s c _ here).channel)
    refine ⟨first.trans rest apart, sizes.trans sizes', fun acts => ?_, fun none => ?_⟩
    · by_cases now : s.sampleActs c (levels c)
      · have acted := actOnSample_acted now
        by_cases more : ∃ j ∈ l, s.sampleActs j (levels j)
        · exact ⟨(acted.marks.trans (noted more).1).congr rfl, rest.link.stays acted.noted⟩
        · rw [List.foldl_cons, idle more]
          exact ⟨acted.marks, acted.noted⟩
      · have more := (List.exists_mem_cons_iff _ _ _).1 acts |>.resolve_left now
        rw [actOnSample_idle now] at noted
        rw [List.foldl_cons, actOnSample_idle now]
        exact noted more
    · rw [List.exists_mem_cons_iff, not_or] at none
      rw [List.foldl_cons, idle none.2, actOnSample_idle none.1]

/-! ### The event (R99, R225) -/

/-- The level of a sample byte, as the table of R225 has it. -/
theorem ofByte_eq {b : Byte} (h : b.toNat ≤ 3) : Level.ofByte b =
    some (if b = 0 then .full else if b = 1 then .normal else if b = 2 then .low else .empty) := by
  have small : b = 0 ∨ b = 1 ∨ b = 2 ∨ b = 3 := by
    simp only [← BitVec.toNat_inj]
    simp
    omega
  obtain rfl | rfl | rfl | rfl := small <;> rfl

theorem ofByte_none {b : Byte} (h : 3 < b.toNat) : Level.ofByte b = none := by
  unfold Level.ofByte
  split
  · omega
  · omega
  · omega
  · omega
  · rfl

theorem takeLevels_unused {x : Vector Byte 12} (h : ∃ c : Fin 12, 3 < x[c].toNat) : s.takeLevels x = s := by
  obtain ⟨c, large⟩ := h
  have none : sampleLevels x = none := by
    refine if_neg fun all => ?_
    have good := List.all_eq_true.1 all c (List.mem_finRange c)
    rw [ofByte_none large] at good
    exact absurd good (by simp)
  unfold State.takeLevels
  rw [none]

/-- The channels with their runs moved. -/
def State.sampledWith (s : State) (levels : Fin 12 → Level) : State := s.setInk (s.ink.sampled (Vector.ofFn levels))

theorem takeLevels_eq {x : Vector Byte 12} {levels : Fin 12 → Level} (h : ∀ c : Fin 12, Level.ofByte x[c] = some (levels c)) :
    s.takeLevels x = (List.finRange 12).foldl (fun s c => s.actOnSample c (levels c)) (s.sampledWith levels) := by
  have some : sampleLevels x = some (Vector.ofFn levels) := by
    unfold sampleLevels
    rw [if_pos (List.all_eq_true.2 fun c _ => by rw [h]; rfl)]
    simp only [h, Option.getD_some]
  unfold State.takeLevels State.sampledWith
  rw [some]
  simp only [Fin.getElem_fin, Vector.getElem_ofFn]

theorem exec_levels {x : Vector Byte 12} (works : Works s) :
    exec (.levels x) s = s.run fun _ => (s.takeLevels x).serveSlot := by
  obtain ⟨free, quiet⟩ := works
  show s.run (fun s => s.whenWorking fun s => (s.takeLevels x).serveSlot) = _
  simp [State.run, free, State.whenWorking, State.working, quiet]

theorem sampledWith_channel (s : State) (levels : Fin 12 → Level) (c : Fin 12) :
    (s.sampledWith levels).channel c = (s.channel c).sampled (levels c) := by
  simp [State.sampledWith, State.channel, State.setInk, InkUnit.sampled]

/-- Settles O50: the runs by `Channel.sampled`, the acts channel by channel by `samples_cell`. -/
theorem levelSamples : Obligations.LevelSamples := by
  intro s x works
  refine ⟨fun large => ?_, fun small => ?_⟩
  · obtain ⟨t, ht, served, -⟩ := run_served s works (fun _ => (s.takeLevels x).serveSlot) s []
      (fun u => u.notices.pending = s.notices.pending) (by rw [takeLevels_unused large]) rfl (Keeps.refl _ s)
    exact ⟨t, (exec_levels works).trans ht, served⟩
  · intro level run y active empties dries fills acts held state
    have taken : s.takeLevels x = _ := takeLevels_eq fun c => ofByte_eq (small c)
    have channel (c : Fin 12) : (s.sampledWith level).channel c = y c := by
      rw [sampledWith_channel]
      unfold Channel.sampled
      simp only [y, run, beq_iff_eq]
      rfl
    have still : Keeps [.ink] s (s.sampledWith level) := keeps_setInk s _
    have link : LinkKept s (s.sampledWith level) := link_setInk s _
    have bay (c : Fin 12) (side : BaySide) : (s.sampledWith level).bay c side = s.ink.bays[bayOf c side] := rfl
    have sizes : (s.sampledWith level).ink.sizes = s.ink.sizes := rfl
    have supply (c : Fin 12) : ((s.sampledWith level).channel c).supply = (s.channel c).supply := by
      rw [sampledWith_channel]
      rfl
    have keeps : Keeps inkBlocks (s.sampledWith level) (s.takeLevels x) :=
      taken ▸ Keeps.foldl _ (fun s c => keeps_actOnSample s c _) _ _
    have cells := (samples_cell level _ (List.nodup_finRange 12) (s.sampledWith level)).2
    obtain ⟨follows, sizes', noted, idle⟩ := samples_act level _ (List.nodup_finRange 12) (s.sampledWith level)
    have acts_iff : (∃ c ∈ List.finRange 12, (s.sampledWith level).sampleActs c (level c)) ↔ acts := by
      simp only [List.mem_finRange, true_and, State.sampleActs, State.sampleEmpties, State.sampleDries, State.sampleFills,
        channel]
      rfl
    rw [acts_iff] at noted idle
    replace taken : s.takeLevels x = (List.finRange 12).foldl (fun s c => s.actOnSample c (level c)) (s.sampledWith level) :=
      taken
    rw [← taken] at cells follows sizes' noted idle
    have step := exec_levels (x := x) works
    generalize s.sampledWith level = v at *
    generalize s.takeLevels x = u at *
    have whole : Keeps inkBlocks s u := still.mono.trans keeps
    have marks : Marks (decide acts) s u := by
      by_cases some : acts
      · exact (Marks.after still (noted some).1).congr (decide_eq_true some).symm
      · rw [idle some]
        exact (Marks.of_keeps still).congr (decide_eq_false some).symm
    have quietly : Follows (fun _ => True) s.orders s v := follows_quietly still supply link
    have pending : v.notices = s.notices := still.at .notices
    obtain ⟨t, ht, served, stored⟩ := run_serves s works (fun _ => u.serveSlot) u [.ink, .orders] (fun w => w = u ∧ True)
      rfl ⟨rfl, trivial⟩ whole.mono marks
    refine ⟨t, step.trans ht, stored.congr decide_eq_true_iff, served.imp ?_⟩
    rintro _ ⟨rfl, -⟩
    refine ⟨sizes'.trans sizes, (quietly.trans (still.at .orders ▸ follows) (.of_still_left (.of_ink still supply))).orders,
      fun some => (noted some).2, fun none => ?_, fun c => ?_⟩
    · rw [idle none, pending]
    · intro same
      obtain ⟨w, before, after⟩ := cells c (List.mem_finRange c)
      have record : w.channel c = y c := before.channel.trans (channel c)
      have bays (side : BaySide) : w.bay c side = s.ink.bays[bayOf c side] := (before.bays side).trans (bay c side)
      have empties_iff : w.sampleEmpties c (level c) ↔ empties c := by
        unfold State.sampleEmpties
        rewrite [record, bays]
        exact Iff.rfl
      have dries_iff : w.sampleDries c (level c) ↔ dries c := by
        unfold State.sampleDries
        rewrite [record]
        exact Iff.rfl
      have fills_iff : w.sampleFills c (level c) ↔ fills c := by
        unfold State.sampleFills
        rewrite [record]
        exact Iff.rfl
      refine ⟨fun h => ?_, fun h => ?_, fun h => ?_, fun h h' h'' => ?_⟩
      · rw [actOnSample_empties (empties_iff.2 h)] at after
        obtain ⟨one, two, channel'⟩ := declareEmpty_cell (empties_iff.2 h)
        rw [← after.bays, record, bays] at one
        rw [← after.bays, record, bays] at two
        rw [← after.channel, ← after.cellSum, record] at channel'
        exact ⟨one, two, channel'⟩
      · rw [actOnSample_dries (dries_iff.2 h)] at after
        have channel' := after.channel.trans (writeSupply_channel _ _ _)
        rw [record] at channel'
        have bay' (side : BaySide) := ((after.bays side).trans (writeSupply_bay _ _ _ side)).trans (bays side)
        exact ⟨bay' .first, bay' .second, channel'⟩
      · rw [actOnSample_fills (fills_iff.2 h)] at after
        obtain ⟨bays', channel'⟩ := completeRefill_cell w c
        rw [← after.channel, ← after.cellSum, record] at channel'
        refine ⟨fun side => ?_, channel'⟩
        have bay' := (after.bays side).trans (bays' side)
        rw [record, bays] at bay'
        exact bay'
      · have none : ¬w.sampleActs c (level c) := by
          rintro (empty | dry | full)
          · exact h (empties_iff.1 empty)
          · exact h' (dries_iff.1 dry)
          · exact h'' (fills_iff.1 full)
        rw [actOnSample_idle none] at after
        exact ⟨(after.bays .first).trans (bays .first), (after.bays .second).trans (bays .second),
          after.channel.trans record⟩

end

end

end Sys2Proof.Machine

/-! The link receivers, byte by byte (O11; R185 to R190, R72, R225). -/

namespace Sys2Proof.Machine

section
variable {s : State} {link : Link} {b : Byte}

/-! ### The step of a byte, and of a frame dropped -/

theorem run_powered (f : State → State) (powered : s.held = false) : s.run f = .next (f s).closeStep := by
  simp [State.run, powered]

theorem setReceiver_held (s : State) (link : Link) (r : Receiver) : (s.setReceiver link r).held = s.held := by
  cases link <;> rfl

theorem setReceiver_receiver (s : State) (link : Link) (r : Receiver) : (s.setReceiver link r).receiver link = r := by
  cases link <;> rfl

theorem setReceiver_setReceiver (s : State) (link : Link) (r r' : Receiver) :
    (s.setReceiver link r).setReceiver link r' = s.setReceiver link r' := by
  cases link <;> rfl

theorem setReceiver_self (s : State) (link : Link) : s.setReceiver link (s.receiver link) = s := by
  cases link <;> rfl

theorem receiveByte_hunting (hunts : (s.receiver link).phase = .hunting) :
    s.receiveByte link b = if b = 0x5A then s.setReceiver link { phase := .length, bytes := [] } else s := by
  unfold State.receiveByte
  exact if_pos hunts

theorem receiveByte_within (within : (s.receiver link).phase ≠ .hunting) : s.receiveByte link b =
    let bytes := (s.receiver link).bytes ++ [b]
    if bytes.length = 2 ∧ 512 < u16At bytes 0 then s.discard link
    else if Receiver.phaseOf bytes = .hunting then (s.setReceiver link Receiver.idle).judge link bytes
    else s.setReceiver link { phase := Receiver.phaseOf bytes, bytes := bytes } := by
  unfold State.receiveByte
  exact if_neg within

theorem receiveByte_overlong (long : (s.receiver link).overlong b = true) : s.receiveByte link b = s.discard link := by
  simp only [Receiver.overlong, Bool.and_eq_true, decide_eq_true_eq] at long
  obtain ⟨⟨phase, one⟩, large⟩ := long
  rw [receiveByte_within (by rw [phase]; simp)]
  exact if_pos ⟨by simp [one], large⟩

/-- The frame in progress is not yet over with `bytes`, and its length is not above 512. -/
def GoesOn (bytes : List Byte) : Prop := bytes.length = 1 ∨ (bytes.length < 6 + u16At bytes 0 ∧ u16At bytes 0 ≤ 512)

theorem phaseOf_goesOn {bytes : List Byte} (h : GoesOn bytes) : Receiver.phaseOf bytes =
    if bytes.length < 2 then .length else if bytes.length = 2 then .kind
      else if bytes.length = 3 then .tag else if bytes.length < 4 + u16At bytes 0 then .payload else .crc := by
  unfold Receiver.phaseOf Receiver.payloadLength
  obtain one | ⟨short, -⟩ := h
  · simp [one]
  · simp only [if_pos short]

theorem phaseOf_ne_hunting {bytes : List Byte} (h : GoesOn bytes) : Receiver.phaseOf bytes ≠ .hunting := by
  rw [phaseOf_goesOn h]
  split_ifs <;> simp

theorem receiveByte_goesOn (within : (s.receiver link).phase ≠ .hunting) (h : GoesOn ((s.receiver link).bytes ++ [b])) :
    s.receiveByte link b = s.setReceiver link
      { phase := Receiver.phaseOf ((s.receiver link).bytes ++ [b]), bytes := (s.receiver link).bytes ++ [b] } := by
  have inRange : ¬(((s.receiver link).bytes ++ [b]).length = 2 ∧ 512 < u16At ((s.receiver link).bytes ++ [b]) 0) := by
    rintro ⟨two, large⟩
    obtain one | ⟨-, small⟩ := h
    · omega
    · omega
  rw [receiveByte_within within]
  exact (if_neg inRange).trans (if_neg (phaseOf_ne_hunting h))

/-! ### A frame whose last byte is in (R185, R186, R190) -/

/-- The two CRC bytes are those of a sum when they make it up, most significant first. -/
theorem crcBytes_iff (hi lo : Byte) (c : BitVec 16) : [hi, lo] = [(c >>> 8).setWidth 8, c.setWidth 8] ↔ hi ++ lo = c := by
  have high := c.isLt
  have low := lo.isLt
  have joined : (hi ++ lo).toNat = hi.toNat * 256 + lo.toNat := by
    rw [BitVec.toNat_append, ← Nat.shiftLeft_add_eq_or_of_lt low, Nat.shiftLeft_eq]
  simp only [List.cons.injEq, and_true, ← BitVec.toNat_inj, joined, BitVec.toNat_setWidth, BitVec.toNat_ushiftRight,
    Nat.shiftRight_eq_div_pow]
  omega

theorem u16_eq (n : Nat) : u16 n = [BitVec.ofNat 8 n, BitVec.ofNat 8 (n / 256)] := rfl

theorem covered_eq (kind tag : Byte) (p : List Byte) : covered kind tag p =
    BitVec.ofNat 8 p.length :: BitVec.ofNat 8 (p.length / 256) :: kind :: tag :: p := rfl

theorem u16At_cons (x y : Byte) (l : List Byte) : u16At (x :: y :: l) 0 = x.toNat + 256 * y.toNat := by
  simp [u16At, uintAt, byteAt]

/-- The length field of a frame. -/
theorem u16At_length {n : Nat} (h : n ≤ 512) (l : List Byte) :
    u16At (BitVec.ofNat 8 n :: BitVec.ofNat 8 (n / 256) :: l) 0 = n := by
  rw [u16At_cons, BitVec.toNat_ofNat, BitVec.toNat_ofNat]
  omega

section
variable {kind tag hi lo : Byte} {p : List Byte}

theorem covered_length (kind tag : Byte) (p : List Byte) : (covered kind tag p).length = 4 + p.length := by
  rw [covered_eq]
  simp only [List.length_cons]
  omega

theorem crcGood_covered (kind tag hi lo : Byte) (p : List Byte) :
    crcGood (covered kind tag p ++ [hi, lo]) = decide (hi ++ lo = crc16 (covered kind tag p)) := by
  unfold crcGood
  have last : (covered kind tag p ++ [hi, lo]).length - 2 = (covered kind tag p).length := by simp
  simp only [last, List.take_left, List.drop_left, crcBytes_iff]

theorem frameOf_covered (kind tag hi lo : Byte) (p : List Byte) :
    frameOf (covered kind tag p ++ [hi, lo]) = { kind := kind, tag := tag, payload := p } := by
  unfold frameOf
  have payload : (covered kind tag p ++ [hi, lo]).length - 6 = p.length := by
    simp [covered_length]
  rw [payload, covered_eq]
  simp

theorem phaseOf_whole (small : p.length ≤ 512) : Receiver.phaseOf (covered kind tag p ++ [hi, lo]) = .hunting := by
  have length : (covered kind tag p ++ [hi, lo]).length = 6 + p.length := by
    simp [covered_length]
    omega
  have field : Receiver.payloadLength (covered kind tag p ++ [hi, lo]) = p.length := u16At_length small _
  unfold Receiver.phaseOf
  rw [length, field, if_neg (by omega), if_neg (by omega), if_neg (by omega), if_neg (by omega), if_neg (by omega)]

/-- The last byte of a frame: the receiver hunts again, and the frame is judged. -/
theorem receiveByte_last (small : p.length ≤ 512) (due : s.receiver link = { phase := .crc, bytes := covered kind tag p ++ [hi] }) :
    s.receiveByte link lo = (s.setReceiver link Receiver.idle).judge link (covered kind tag p ++ [hi, lo]) := by
  have bytes : (s.receiver link).bytes ++ [lo] = covered kind tag p ++ [hi, lo] := by
    rw [due]
    simp
  have long : ¬((covered kind tag p ++ [hi, lo]).length = 2 ∧ 512 < u16At (covered kind tag p ++ [hi, lo]) 0) := by
    simp [covered_length]
  rw [receiveByte_within (by rw [due]; simp), bytes]
  exact (if_neg long).trans (if_pos (phaseOf_whole small))

theorem lastByteDue (small : p.length ≤ 512) (due : s.receiver link = { phase := .crc, bytes := covered kind tag p ++ [hi] }) :
    (s.receiver link).lastByteDue lo = true := by
  have bytes : (s.receiver link).bytes ++ [lo] = covered kind tag p ++ [hi, lo] := by
    rw [due]
    simp
  unfold Receiver.lastByteDue
  rw [bytes, phaseOf_whole small, due]
  rfl

/-! ### What a frame does (R72, R190 to R192, R225) -/

theorem judge_server (s : State) (kind tag hi lo : Byte) (p : List Byte) : s.judge .server (covered kind tag p ++ [hi, lo]) =
    if hi ++ lo = crc16 (covered kind tag p) then
      s.receiveFrame ruleOf { kind := kind, tag := tag, payload := p } (ruleOf kind)
    else s.countServerCrc := by
  unfold State.judge
  simp only [crcGood_covered, frameOf_covered, decide_eq_true_eq]

theorem judge_engine (s : State) (kind tag hi lo : Byte) (p : List Byte) : s.judge .engine (covered kind tag p ++ [hi, lo]) =
    if hi ++ lo = crc16 (covered kind tag p) then s.engineFrame { kind := kind, tag := tag, payload := p }
    else s.badFrame := by
  unfold State.judge
  simp only [crcGood_covered, frameOf_covered, decide_eq_true_eq]

theorem word32At_toNat (p : List Byte) (i : Nat) : (word32At p i).toNat = u32At p i := by
  unfold word32At
  rw [BitVec.toNat_ofNat]
  exact Nat.mod_eq_of_lt (uintAt_lt p 4 i)

/-- A frame whose kind and length are those of no report or event is a bad frame. -/
theorem engineFrame_of_none {kind tag : Byte} {p : List Byte} (h : engineCommandOf kind tag p = none) (s : State) :
    s.engineFrame { kind := kind, tag := tag, payload := p } = s.badFrame := by
  unfold State.engineFrame
  dsimp only
  split
  case h_14 => rfl
  all_goals
    rename_i named sized
    unfold engineCommandOf at h
    rewrite [named, sized] at h
    cases h

/-- A frame of a report's or event's kind and length does what its command does. -/
theorem engineFrame_of_some {kind tag : Byte} {p : List Byte} {c : Instr} (h : engineCommandOf kind tag p = some c)
    (s : State) : s.run (fun s => s.engineFrame { kind := kind, tag := tag, payload := p }) = exec c s := by
  unfold engineCommandOf at h
  split at h
  case h_14 => cases h
  all_goals
    rename_i named sized
    cases h
    unfold State.engineFrame
    simp only [← word32At_toNat]
    rewrite [named, sized]
    rfl

/-- A good frame of the engine link does what the report or event of its kind and length does, or a bad frame. -/
theorem engineFrame_exec (s : State) (kind tag : Byte) (p : List Byte) :
    s.run (fun s => s.engineFrame { kind := kind, tag := tag, payload := p }) =
      exec ((engineCommandOf kind tag p).getD .engineBadFrame) s := by
  cases h : engineCommandOf kind tag p with
  | none =>
    simp only [engineFrame_of_none h]
    rfl
  | some c => exact engineFrame_of_some h s

end

/-! ### The three ways a frame is dropped (R187 to R189) -/

theorem dropFrame_within (within : (s.receiver link).phase ≠ .hunting) : s.dropFrame link = s.discard link := if_neg within

theorem exec_framingError (link : Link) (s : State) : exec (.framingError link) s = s.run fun s => s.dropFrame link := rfl

theorem exec_lengthDiscard (link : Link) (b : Byte) (s : State) : exec (.lengthDiscard link b) s =
    s.run fun s => if (s.receiver link).overlong b then s.receiveByte link b else s := rfl

theorem exec_byteReceived (link : Link) (b : Byte) (s : State) :
    exec (.byteReceived link b) s = s.run fun s => s.receiveByte link b := rfl

theorem exec_serverFrameReceived (b : Byte) (s : State) : exec (.serverFrameReceived b) s =
    s.run fun s => if (s.receiver .server).lastByteDue b then s.receiveByte .server b else s := rfl

theorem exec_engineBadFrame (s : State) : exec .engineBadFrame s = s.run State.badFrame := rfl

theorem exec_gapTimeout (works : Works s) (link : Link) :
    exec (.interByteGapTimeout link) s = .next (s.dropFrame link).closeStep := by
  obtain ⟨powered, quiet⟩ := works
  show s.run (fun s => s.whenWorking fun s => s.dropFrame link) = _
  rw [run_powered _ powered]
  simp [State.whenWorking, State.working, quiet]

/-- A framing error, a gap and a length above 512 drop the frame in progress alike. -/
theorem exec_drops (works : Works s) (within : (s.receiver link).phase ≠ .hunting) (b : Byte) :
    exec (.framingError link) s = .next (s.discard link).closeStep ∧
      exec (.interByteGapTimeout link) s = .next (s.discard link).closeStep ∧
        ((s.receiver link).overlong b = true → exec (.lengthDiscard link b) s = .next (s.discard link).closeStep) := by
  have powered := works.1
  refine ⟨?_, ?_, fun long => ?_⟩
  · rw [exec_framingError, run_powered _ powered, dropFrame_within within]
  · rw [exec_gapTimeout works, dropFrame_within within]
  · rw [exec_lengthDiscard, run_powered _ powered, if_pos long, receiveByte_overlong long]

/-! ### O11 -/

/-- The last byte of an engine frame (R72, R190). -/
theorem exec_engineFrame {kind tag hi lo : Byte} {p : List Byte} (powered : s.held = false) (small : p.length ≤ 512)
    (due : s.receiver .engine = { phase := .crc, bytes := covered kind tag p ++ [hi] }) :
    exec (.byteReceived .engine lo) s =
      exec (if hi ++ lo = crc16 (covered kind tag p) then (engineCommandOf kind tag p).getD .engineBadFrame
          else .engineBadFrame) (s.setReceiver .engine Receiver.idle) := by
  have idle : (s.setReceiver .engine Receiver.idle).held = false := powered
  rw [exec_byteReceived, run_powered _ powered, receiveByte_last small due, judge_engine]
  split
  · rw [← engineFrame_exec, run_powered _ idle]
  · rw [exec_engineBadFrame, run_powered _ idle]

/-- The last byte of a server frame whose CRC is good (R190 to R192). -/
theorem exec_serverFrame {kind tag hi lo : Byte} {p : List Byte} (powered : s.held = false) (small : p.length ≤ 512)
    (due : s.receiver .server = { phase := .crc, bytes := covered kind tag p ++ [hi] })
    (good : hi ++ lo = crc16 (covered kind tag p)) : exec (.serverFrameReceived lo) s =
      (s.setReceiver .server Receiver.idle).runRequest kind tag p (ruleOf kind) := by
  have idle : (s.setReceiver .server Receiver.idle).held = false := powered
  unfold State.runRequest
  rw [exec_serverFrameReceived, run_powered _ powered, if_pos (lastByteDue small due), receiveByte_last small due,
    judge_server, if_pos good, run_powered _ idle]

theorem exec_serverLastByte {kind tag hi lo : Byte} {p : List Byte} (powered : s.held = false) (small : p.length ≤ 512)
    (due : s.receiver .server = { phase := .crc, bytes := covered kind tag p ++ [hi] }) :
    exec (.byteReceived .server lo) s = exec (.serverFrameReceived lo) s := by
  rw [exec_byteReceived, exec_serverFrameReceived, run_powered _ powered, run_powered _ powered,
    if_pos (lastByteDue small due)]

/-- Settles O11: the byte's step by the receiver's phase, a whole frame by `frameOf_covered` and `crcGood_covered`. -/
theorem bytesBuildJudgeOrDropFrames : Obligations.BytesBuildJudgeOrDropFrames := by
  refine ⟨⟨fun s b works => ⟨fun within => ?_, fun within => ?_⟩, fun s link b powered => ⟨fun hunts other => ?_,
    fun hunts => ?_, fun hunts start => ?_, ?_⟩⟩, fun s kind tag p hi lo powered small due => ⟨?_, fun _ good => ?_,
    fun c length request good => ?_, fun bad => ?_⟩, fun s kind tag p hi lo powered small due => ?_⟩
  · exact exec_drops (link := .server) works within b
  · intro u
    have drops := exec_drops (link := .engine) works within b
    have bad : exec .engineBadFrame u = .next (s.discard .engine).closeStep := run_powered _ works.1
    rw [bad]
    exact drops
  · rw [exec_byteReceived, run_powered _ powered, receiveByte_hunting hunts, if_neg other]
  · rw [exec_framingError, run_powered _ powered]
    exact congrArg (fun v : State => Host.Outcome.next v.closeStep) (if_pos hunts)
  · rw [exec_byteReceived, run_powered _ powered, receiveByte_hunting hunts, if_pos start]
  · intro bytes within goesOn phase
    rw [exec_byteReceived, run_powered _ powered, receiveByte_goesOn within goesOn, phaseOf_goesOn goesOn]
  · exact exec_serverLastByte powered small due
  · exact exec_serverFrame powered small due good
  · rw [exec_request c _ _ request]
    exact exec_serverFrame powered small due good
  · rw [exec_serverFrameReceived, run_powered _ powered, if_pos (lastByteDue (link := .server) small due),
      receiveByte_last (link := .server) small due, judge_server, if_neg bad]
    rfl
  · exact exec_engineFrame powered small due

end

end Sys2Proof.Machine

/-! A frame received byte by byte (O10; R185 to R192, R72, R225). -/

namespace Sys2Proof.Machine

section
variable {s : State} {link : Link}

/-! ### The receiver beside the closing of a step (R196, R213) -/

/-- What stands in the receiver of a link does not matter to the transmitter. -/
theorem startFrom_setReceiver (s : State) (link : Link) (r : Receiver) (tx : List TxFrame) :
    (s.setReceiver link r).startFrom tx = (s.startFrom tx).setReceiver link r := by
  induction tx generalizing s with
  | nil => cases link <;> rfl
  | cons f rest ih =>
    cases f with
    | reply tag kind status fields => cases link <;> rfl
    | notice =>
      have notices : (s.setReceiver link r).notices = s.notices := by cases link <;> rfl
      have again : (s.setReceiver link r).setNotices { s.notices with place := .none } =
          (s.setNotices { s.notices with place := .none }).setReceiver link r := by cases link <;> rfl
      unfold State.startFrom
      rw [notices, again, ih]
      split
      · rfl
      · cases link <;> rfl

theorem kick_setReceiver (s : State) (link : Link) (r : Receiver) :
    (s.setReceiver link r).kick = s.kick.setReceiver link r := by
  have busy : ((s.setReceiver link r).silent || (s.setReceiver link r).server.sending.isSome) =
      (s.silent || s.server.sending.isSome) := by cases link <;> rfl
  have tx : (s.setReceiver link r).server.tx = s.server.tx := by cases link <;> rfl
  unfold State.kick
  rw [busy, tx, startFrom_setReceiver]
  split <;> rfl

theorem beginWrite_setReceiver (s : State) (link : Link) (r : Receiver) :
    (s.setReceiver link r).beginWrite = s.beginWrite.setReceiver link r := by
  have due : ((s.setReceiver link r).store.dirty && (s.setReceiver link r).store.writing.isNone &&
      (s.setReceiver link r).mayWrite) = (s.store.dirty && s.store.writing.isNone && s.mayWrite) := by cases link <;> rfl
  unfold State.beginWrite
  rw [due]
  split
  · cases link <;> rfl
  · rfl

theorem settled_setReceiver (settled : Settled s) (link : Link) (r : Receiver) : Settled (s.setReceiver link r) := by
  unfold Settled State.closeStep at *
  rw [kick_setReceiver, beginWrite_setReceiver, settled]

/-! ### A frame's bytes, up to the last one (R187) -/

/-- The receiver that holds `bytes` of a frame in progress. -/
def Receiver.holding (bytes : List Byte) : Receiver := { phase := Receiver.phaseOf bytes, bytes := bytes }

theorem afterBytes_cons {b : Byte} {bytes : List Byte} {u : State} (h : exec (.byteReceived link b) s = .next u) :
    afterBytes link (b :: bytes) s = afterBytes link bytes u := by
  show List.foldl _ (exec (.byteReceived link b) s) bytes = _
  rw [h]
  rfl

/-- The start byte (R187). -/
theorem exec_start (powered : s.held = false) (settled : Settled s) (hunts : (s.receiver link).phase = .hunting) :
    exec (.byteReceived link 0x5A) s = .next (s.setReceiver link (Receiver.holding [])) := by
  rw [exec_byteReceived, run_powered _ powered, receiveByte_hunting hunts, if_pos rfl]
  exact congrArg Host.Outcome.next (settled_setReceiver settled link _)

/-- Bytes that neither complete the frame nor make it too long are held. -/
theorem afterBytes_goesOn (powered : s.held = false) (settled : Settled s) (rest more : List Byte) :
    ∀ bytes, Receiver.phaseOf bytes ≠ .hunting → (∀ n, 0 < n → n ≤ rest.length → GoesOn (bytes ++ rest.take n)) →
      afterBytes link (rest ++ more) (s.setReceiver link (Receiver.holding bytes)) =
        afterBytes link more (s.setReceiver link (Receiver.holding (bytes ++ rest))) := by
  induction rest with
  | nil =>
    intro bytes _ _
    rw [List.nil_append, List.append_nil]
  | cons b rest ih =>
    intro bytes within goesOn
    have next : GoesOn (bytes ++ [b]) := goesOn 1 (by omega) (by simp)
    have byte : exec (.byteReceived link b) (s.setReceiver link (Receiver.holding bytes)) =
        .next (s.setReceiver link (Receiver.holding (bytes ++ [b]))) := by
      have here := setReceiver_receiver s link (Receiver.holding bytes)
      rw [exec_byteReceived, run_powered _ ((setReceiver_held _ _ _).trans powered),
        receiveByte_goesOn (by rw [here]; exact within) (by rw [here]; exact next), here, setReceiver_setReceiver]
      exact congrArg Host.Outcome.next (settled_setReceiver settled link _)
    rw [List.cons_append, afterBytes_cons byte, ih (bytes ++ [b]) (phaseOf_ne_hunting next) fun n some enough => ?_,
      List.append_assoc, List.singleton_append]
    have later := goesOn (n + 1) (by omega) (by simpa using enough)
    rwa [List.take_succ_cons, ← List.singleton_append, ← List.append_assoc] at later

/-- Every proper part of a frame goes on. -/
theorem goesOn_covered (kind tag hi : Byte) {p : List Byte} (small : p.length ≤ 512) {n : Nat} (some : 0 < n)
    (enough : n ≤ (covered kind tag p ++ [hi]).length) : GoesOn ((covered kind tag p ++ [hi]).take n) := by
  have length : ((covered kind tag p ++ [hi]).take n).length = n := List.length_take_of_le enough
  have whole : (covered kind tag p ++ [hi]).length = 5 + p.length := by
    rw [List.length_append, covered_length]
    simp
    omega
  by_cases one : n = 1
  · exact .inl (length.trans one)
  · obtain ⟨m, rfl⟩ : ∃ m, n = m + 2 := ⟨n - 2, by omega⟩
    have field : u16At ((covered kind tag p ++ [hi]).take (m + 2)) 0 = p.length := u16At_length small _
    refine .inr ⟨?_, by rw [field]; exact small⟩
    rw [length, field]
    omega

/-- The frame up to its last byte. -/
theorem afterBytes_frame (powered : s.held = false) (settled : Settled s) (hunts : (s.receiver link).phase = .hunting)
    (kind tag hi lo : Byte) {p : List Byte} (small : p.length ≤ 512) :
    afterBytes link (0x5A :: (covered kind tag p ++ [hi, lo])) s =
      exec (.byteReceived link lo) (s.setReceiver link { phase := .crc, bytes := covered kind tag p ++ [hi] }) := by
  have split : covered kind tag p ++ [hi, lo] = (covered kind tag p ++ [hi]) ++ [lo] := by simp
  have length : (covered kind tag p ++ [hi]).length = 5 + p.length := by
    rw [List.length_append, covered_length]
    simp
    omega
  have goesOn : GoesOn (covered kind tag p ++ [hi]) := by
    have all := goesOn_covered kind tag hi small (n := (covered kind tag p ++ [hi]).length) (by omega) (Nat.le_refl _)
    rwa [List.take_length] at all
  have phase : Receiver.phaseOf (covered kind tag p ++ [hi]) = .crc := by
    have field : u16At (covered kind tag p ++ [hi]) 0 = p.length := u16At_length small _
    rw [phaseOf_goesOn goesOn, length, field, if_neg (by omega), if_neg (by omega), if_neg (by omega), if_neg (by omega)]
  rw [afterBytes_cons (exec_start powered settled hunts), split,
    afterBytes_goesOn powered settled _ _ [] (by simp [Receiver.phaseOf]) fun n some enough =>
      goesOn_covered kind tag hi small some enough, List.nil_append, Receiver.holding, phase]
  unfold afterBytes
  rw [List.foldl_cons, List.foldl_nil]

/-! ### O10 -/

/-- The CRC bytes of a frame (R185). -/
theorem frameBytes_eq (kind tag : Byte) (p : List Byte) : ∃ hi lo : Byte, hi ++ lo = crc16 (covered kind tag p) ∧
    frameBytes kind tag p = 0x5A :: (covered kind tag p ++ [hi, lo]) :=
  ⟨_, _, (crcBytes_iff _ _ _).1 rfl, rfl⟩

/-- A request's frame, or that of an unknown kind. -/
theorem afterBytes_server (powered : s.held = false) (settled : Settled s)
    (hunts : s.server.receiver = { phase := .hunting, bytes := [] }) (kind tag : Byte) {p : List Byte} (small : p.length ≤ 512) :
    afterBytes .server (frameBytes kind tag p) s = s.runRequest kind tag p (ruleOf kind) := by
  obtain ⟨hi, lo, good, frame⟩ := frameBytes_eq kind tag p
  have idle : s.setReceiver .server Receiver.idle = s := by
    rw [Receiver.idle, ← hunts]
    exact setReceiver_self s .server
  have powered' : (s.setReceiver .server { phase := .crc, bytes := covered kind tag p ++ [hi] }).held = false := powered
  have due := setReceiver_receiver s .server { phase := .crc, bytes := covered kind tag p ++ [hi] }
  rw [frame, afterBytes_frame (link := .server) powered settled (congrArg Receiver.phase hunts) kind tag hi lo small,
    exec_serverLastByte powered' small due, exec_serverFrame powered' small due good, setReceiver_setReceiver, idle]

theorem afterBytes_engine (powered : s.held = false) (settled : Settled s)
    (hunts : s.engine.receiver = { phase := .hunting, bytes := [] }) (kind tag : Byte) {p : List Byte} (small : p.length ≤ 512) :
    afterBytes .engine (frameBytes kind tag p) s = exec ((engineCommandOf kind tag p).getD .engineBadFrame) s := by
  obtain ⟨hi, lo, good, frame⟩ := frameBytes_eq kind tag p
  have idle : s.setReceiver .engine Receiver.idle = s := by
    rw [Receiver.idle, ← hunts]
    exact setReceiver_self s .engine
  have powered' : (s.setReceiver .engine { phase := .crc, bytes := covered kind tag p ++ [hi] }).held = false := powered
  have due := setReceiver_receiver s .engine { phase := .crc, bytes := covered kind tag p ++ [hi] }
  rw [frame, afterBytes_frame (link := .engine) powered settled (congrArg Receiver.phase hunts) kind tag hi lo small,
    exec_engineFrame powered' small due, if_pos good, setReceiver_setReceiver, idle]

/-- Settles O10: every part of a frame but the whole is held (`afterBytes_goesOn`), and its last byte runs the command. -/
theorem frameBytesAreTheRequest : Obligations.FrameBytesAreTheRequest := by
  refine ⟨fun c r s request small powered hunts settled => ?_, fun kind tag p s _ small powered hunts settled => ?_,
    fun kind tag p s small powered hunts settled => ?_⟩
  · rw [exec_request c r s request]
    exact afterBytes_server powered settled hunts r.kind r.tag small
  · rw [exec_unknownKind]
    exact afterBytes_server powered settled hunts kind tag small
  · exact afterBytes_engine powered settled hunts kind tag small

end

end Sys2Proof.Machine

/-! The judging of a strip (R117, R122 to R125). -/

namespace Sys2Proof.Machine

/-! ### The readings (R117) -/

theorem readingsOf_eq (raw : Vector RawReading 16) : readingsOf raw = clampedReadings raw := by
  unfold readingsOf clampedReadings
  refine congrArg Vector.ofFn (funext fun p => ?_)
  have inRange : clampL (raw[p].L.toNat : Int) = min 10000 (raw[p].L.toNat : Int) :=
    max_eq_right (le_min (by decide) (Int.natCast_nonneg _))
  simp only [RawReading.reading, Lab.clamped, clampAB, inRange]

/-! ### The figures of a strip (R123, R124) -/

theorem patchDelta_eq_stripDelta (patches : BitVec 16) (readings : Vector Reading 16) (reference : Vector Lab 16) :
    patchDelta patches readings reference = stripDelta patches readings reference := by
  funext p
  rfl

section
variable (f : Fin 16 → Option Nat)

/-- The patches with a ΔE, each with it. -/
def withDelta : List (Fin 16 × Nat) := (List.finRange 16).filterMap fun p => (f p).map fun d => (p, d)

theorem withDelta_snd : (withDelta f).map (·.2) = (List.finRange 16).filterMap f := by
  unfold withDelta
  rw [List.map_filterMap]
  simp

theorem withDelta_find (top : Nat) : (((withDelta f).find? fun x => x.2 == top).map (·.1.val)).getD 0 =
    (((List.finRange 16).find? fun p => decide (f p = some top)).map (·.val)).getD 0 := by
  unfold withDelta
  rw [List.find?_filterMap]
  have same (p : Fin 16) : (Option.any (fun x : Fin 16 × Nat => x.2 == top) ((f p).map fun d => (p, d))) =
      decide (f p = some top) := by
    cases f p with
    | none => simp
    | some d => simp [Bool.beq_eq_decide_eq]
  simp only [same]
  cases found : (List.finRange 16).find? fun p => decide (f p = some top) with
  | none => rfl
  | some p =>
    have here : f p = some top := by simpa using List.find?_some found
    simp [here]

/-- Mean, maximum and worst patch over the ΔE of the patches that have one. -/
theorem stripFigures_withDelta : stripFigures (withDelta f) =
    let d := (List.finRange 16).filterMap f
    if d = [] then none
    else some
      { mean := d.sum / d.length, max := d.foldl max 0,
        worst := (((List.finRange 16).find? fun p => decide (f p = some (d.foldl max 0))).map (·.val)).getD 0 } := by
  have find := withDelta_find f (((List.finRange 16).filterMap f).foldl max 0)
  have snd := withDelta_snd f
  have length : (withDelta f).length = ((List.finRange 16).filterMap f).length := by rw [← snd, List.length_map]
  generalize withDelta f = l at find snd length
  cases l with
  | nil =>
    rewrite [← snd]
    rfl
  | cons x l =>
    have some : (List.finRange 16).filterMap f ≠ [] := by
      rw [← snd]
      simp
    dsimp only
    rw [if_neg some, ← find, ← snd]
    unfold stripFigures
    simp only [List.length_map]

end

/-! ### The judgement (R122, R125) -/

/-- The figures of a judged strip. -/
def Judgement.figures (j : Judgement) : StripFigures := { mean := j.mean, max := j.max, worst := j.worst }

section
variable {s v : State} {o : Order} {readings : Vector Reading 16} {j : Judgement}

theorem judgement_unset (h : s.colour.settings[o.mediaKind] = none) : s.judgement o readings = none := by
  unfold State.judgement
  rw [h]

/-- The reference that an order's strips are compared against, with its kind's settings at hand (R122). -/
def State.chosen (s : State) (o : Order) (settings : VerdictSettings) : Option (Vector Lab 16) :=
  match (o.edition.bind s.findEdition).bind fun i => s.editions[i] with
  | some e => if e.state = .fixed then e.readings else settings.reference
  | none => settings.reference

theorem chosenReference_eq {settings : VerdictSettings} (h : s.colour.settings[o.mediaKind] = some settings) :
    s.chosenReference o.edition o.mediaKind = s.chosen o settings := by
  unfold State.chosenReference State.chosen
  rw [h]
  cases o.edition.bind s.findEdition with
  | none => rfl
  | some i =>
    dsimp only [Option.bind_some]
    cases s.editions[i] <;> rfl

/-- The judging against a reference, where there is one. -/
def judgedBy (settings : VerdictSettings) (readings : Vector Reading 16) : Option (Vector Lab 16) → Option Judgement
  | none => none
  | some reference =>
    let d := (List.finRange 16).filterMap (stripDelta settings.patches readings reference)
    let top := d.foldl max 0
    let worst := (List.finRange 16).find? fun p => decide (stripDelta settings.patches readings reference p = some top)
    if d = [] then none
    else some
      { settings := settings, reference := reference, mean := d.sum / d.length, max := top,
        worst := (worst.map (·.val)).getD 0,
        passed := decide (top ≤ settings.maxTolerance) && decide (d.sum / d.length ≤ settings.meanTolerance) }

theorem judgement_chosen {settings : VerdictSettings} (h : s.colour.settings[o.mediaKind] = some settings) :
    s.judgement o readings = judgedBy settings readings (s.chosen o settings) := by
  unfold State.judgement State.chosen
  rw [h]
  cases o.edition with
  | none => rfl
  | some ref =>
    dsimp only [Option.bind_some]
    cases s.findEdition ref with
    | none => rfl
    | some i =>
      dsimp only [Option.bind_some]
      cases s.editions[i] <;> rfl

theorem judgedBy_some (settings : VerdictSettings) (readings : Vector Reading 16) (reference : Vector Lab 16) :
    judgedBy settings readings (some reference) =
      (stripFigures (patchDeltas settings.patches readings reference)).map fun f =>
        { settings := settings, reference := reference, mean := f.mean, max := f.max, worst := f.worst,
          passed := f.passes settings } := by
  have figures := stripFigures_withDelta (stripDelta settings.patches readings reference)
  have deltas : patchDeltas settings.patches readings reference =
    withDelta (stripDelta settings.patches readings reference) := rfl
  rw [deltas, figures]
  unfold judgedBy
  dsimp only
  split <;> rfl

/-- A judged strip passes by its own settings. -/
theorem judgement_passes (h : s.judgement o readings = some j) : j.figures.passes j.settings = j.passed := by
  cases settings : s.colour.settings[o.mediaKind] with
  | none =>
    rw [judgement_unset settings] at h
    cases h
  | some v =>
    rw [judgement_chosen settings] at h
    cases chosen : s.chosen o v with
    | none =>
      rw [chosen] at h
      cases h
    | some reference =>
      rw [chosen, judgedBy_some] at h
      obtain ⟨f, -, rfl⟩ := Option.map_eq_some_iff.1 h
      rfl

/-- The judgement reads the verdict settings and the editions. -/
theorem judgement_congr (colour : v.colour = s.colour) (editions : v.editions = s.editions) (o : Order)
    (readings : Vector Reading 16) : v.judgement o readings = s.judgement o readings := by
  simp only [State.judgement, State.findEdition, colour, editions]

/-- What the colour check unit does with a judged strip; an UNVERIFIED one leaves the part as it is. -/
def State.handedOn (s : State) (a : Attempt) (readings : Vector Reading 16) : Option Judgement → State
  | none => s
  | some j => s.handOnStrip a j.settings readings j.reference j.figures

/-- The verdict of a judgement. -/
def verdictOf : Option Judgement → Verdict
  | none => .unverified
  | some j => if j.passed then .pass else .fail

theorem judgeStrip_eq {a : Attempt} (h : s.orders.slots[a.slot] = some o) : s.judgeStrip a readings =
    (s.handedOn a readings (s.judgement o readings), verdictOf (s.judgement o readings)) := by
  unfold State.judgeStrip
  rw [h]
  dsimp only
  cases settings : s.colour.settings[o.mediaKind] with
  | none =>
    rw [judgement_unset settings]
    rfl
  | some v =>
    rw [judgement_chosen settings, chosenReference_eq settings]
    cases s.chosen o v with
    | none => rfl
    | some reference =>
      rw [judgedBy_some]
      dsimp only
      cases stripFigures (patchDeltas v.patches readings reference) with
      | none => rfl
      | some f => rfl

end

end Sys2Proof.Machine

/-! What the colour check unit does with a judged strip (R126 to R134, R140 to R142). -/

namespace Sys2Proof.Machine

/-! ### The density correction (R141) -/

section
variable (x : GainSet) (patches : BitVec 16) (readings : Vector Reading 16) (reference : Vector Lab 16) (c : Fin 12)

/-- The patch of a channel's solid. -/
def solidPatch : Fin 16 := ⟨c.val, by omega⟩

/-- The lightness error of a channel's solid. -/
def solidError : Int := readings[solidPatch c].lab.L - reference[solidPatch c].L

/-- The correction moves the gain of a channel. -/
def GainSet.moves : Bool := x.correction && (patches[c.val] && readings[solidPatch c].valid) &&
  decide ((x.deadband : Int) < |solidError readings reference c|)

/-- The gain it moves to, before the clamp. -/
def GainSet.movedTo : Int := x.gains[c] +
  max (-(x.maxStep : Int)) (min (x.maxStep : Int) (Int.tdiv (solidError readings reference c * x.rate) 100))

/-- The clamp bites. -/
def GainSet.bites : Bool := x.moves patches readings reference c &&
  decide (x.movedTo readings reference c < 850 ∨ 1150 < x.movedTo readings reference c)

theorem correctionSum_eq (corrects : x.correction = true) : x.correctionSum patches readings reference c =
    if x.moves patches readings reference c then some (x.movedTo readings reference c) else none := by
  unfold GainSet.correctionSum GainSet.moves
  have error : decide (x.deadband < (solidError readings reference c).natAbs) =
      decide ((x.deadband : Int) < |solidError readings reference c|) := by
    rw [← Int.natCast_natAbs]
    exact decide_eq_decide.2 Int.ofNat_lt.symm
  rw [corrects, Bool.true_and, ← error]
  rfl

theorem ofFnLE_getLsbD (b : BitVec 12) : (BitVec.ofFnLE fun c : Fin 12 => b[c.val]) = b := by
  ext i hi
  simp [BitVec.getElem_ofFnLE]

theorem corrected_eq : x.corrected patches readings reference =
    { x with
      gains := Vector.ofFn fun c => if x.moves patches readings reference c then
        (max 850 (min 1150 (x.movedTo readings reference c))).toNat else x.gains[c],
      limitFlags := BitVec.ofFnLE fun c : Fin 12 => if x.moves patches readings reference c then
        x.bites patches readings reference c else x.limitFlags[c.val] } := by
  unfold GainSet.corrected
  by_cases corrects : x.correction = true
  · rw [if_pos corrects]
    have gains (c : Fin 12) : (match x.correctionSum patches readings reference c with
        | none => x.gains[c]
        | some sum => clampGain sum) = if x.moves patches readings reference c then
          (max 850 (min 1150 (x.movedTo readings reference c))).toNat else x.gains[c] := by
      rw [correctionSum_eq x patches readings reference c corrects]
      cases x.moves patches readings reference c <;> rfl
    have flags (c : Fin 12) : (match x.correctionSum patches readings reference c with
        | none => x.limitFlags.getLsbD c.val
        | some sum => clampBites sum) = if x.moves patches readings reference c then
          x.bites patches readings reference c else x.limitFlags[c.val] := by
      rw [correctionSum_eq x patches readings reference c corrects]
      unfold GainSet.bites
      cases x.moves patches readings reference c with
      | false => rfl
      | true => simp [clampBites]
    exact congrArg₂ (fun g f => ({ x with gains := Vector.ofFn g, limitFlags := BitVec.ofFnLE f } : GainSet)) (funext gains)
      (funext flags)
  · rw [if_neg corrects]
    have gains : (Vector.ofFn fun c : Fin 12 => x.gains[c]) = x.gains := Vector.ext fun i hi => by simp
    have still (c : Fin 12) : x.moves patches readings reference c = false := by simp [GainSet.moves, corrects]
    simp only [still, Bool.false_eq_true, if_false, ofFnLE_getLsbD, gains]

theorem correctionBites_iff : x.correctionBites patches readings reference = true ↔
    ∃ c, x.bites patches readings reference c = true := by
  unfold GainSet.correctionBites
  cases corrects : x.correction with
  | true =>
    simp only [Bool.true_and, List.any_eq_true, List.mem_finRange, true_and]
    refine exists_congr fun c => ?_
    rw [correctionSum_eq x patches readings reference c corrects]
    unfold GainSet.bites
    cases x.moves patches readings reference c with
    | false => simp
    | true => simp [clampBites]
  | false =>
    have still (c : Fin 12) : x.bites patches readings reference c = false := by simp [GainSet.bites, GainSet.moves, corrects]
    simp [still]

theorem corrected_suspended : (x.corrected patches readings reference).suspended = x.suspended := by
  rw [corrected_eq]

theorem corrected_captureMode : (x.corrected patches readings reference).captureMode = x.captureMode := by
  rw [corrected_eq]

end

/-! ### History, drift and fail run (R127, R128, R131, R132) -/

section
variable (k : CheckState) (mode : CaptureMode) (e : HistoryEntry)

/-- The entry is taken into the ring. -/
def CheckState.takes : Bool := decide (k.status = .recording) ||
  (decide (mode = .startOnFail) && decide (k.status = .waiting) && !e.passed)

/-- The ring after a strip. -/
def CheckState.ringAfter : List HistoryEntry :=
  if k.takes mode e then (if k.ring.length < 8 then k.ring else k.ring.drop 1) ++ [e] else k.ring

/-- The capture status after a strip. -/
def CheckState.statusAfter : CaptureStatus :=
  if !k.takes mode e then k.status
  else if mode = .stopOnFail then (if e.passed then .recording else .frozen)
  else if mode = .startOnFail ∧ k.status = .recording ∧ (k.ringAfter mode e).length = 8 then .frozen
  else .recording

theorem recordEntry_eq (ring : List HistoryEntry) : recordEntry ring e =
    (if ring.length < 8 then ring else ring.drop 1) ++ [e] := by
  unfold recordEntry
  split <;> rfl

theorem offered_eq : k.offered mode e = { k with ring := k.ringAfter mode e, status := k.statusAfter mode e } := by
  have taken (h : k.takes mode e = true) : k.ringAfter mode e = recordEntry k.ring e := by
    rw [CheckState.ringAfter, if_pos h, recordEntry_eq]
  have left (h : k.takes mode e = false) : k.ringAfter mode e = k.ring := by
    rw [CheckState.ringAfter, h, if_neg Bool.false_ne_true]
  unfold CheckState.statusAfter CheckState.offered
  cases status : k.status with
  | recording =>
    have takes : k.takes mode e = true := by simp [CheckState.takes, status]
    rw [taken takes, takes]
    cases mode with
    | continuous => simp
    | stopOnFail => simp
    | startOnFail => simp
  | waiting =>
    cases mode with
    | startOnFail =>
      cases passed : e.passed with
      | false =>
        have takes : k.takes .startOnFail e = true := by simp [CheckState.takes, status, passed]
        rw [taken takes, takes]
        simp
      | true =>
        have skips : k.takes .startOnFail e = false := by simp [CheckState.takes, status, passed]
        rw [left skips, skips]
        simp [← status]
    | continuous =>
      have skips : k.takes .continuous e = false := by simp [CheckState.takes, status]
      rw [left skips, skips]
      simp [← status]
    | stopOnFail =>
      have skips : k.takes .stopOnFail e = false := by simp [CheckState.takes, status]
      rw [left skips, skips]
      simp [← status]
  | frozen =>
    have skips : k.takes mode e = false := by simp [CheckState.takes, status]
    rw [left skips, skips]
    cases mode <;> simp [← status]

/-- The check state of a gain set after a judged strip. -/
def CheckState.judged (level : Nat) : CheckState :=
  { ring := k.ringAfter mode e, status := k.statusAfter mode e,
    failRun := if e.passed then 0 else min 255 (k.failRun + 1),
    driftRun := if decide (level < e.mean) then min 255 (k.driftRun + 1) else 0,
    driftFlag := decide (level < e.mean) && (k.driftFlag || decide (k.driftRun + 1 = 5)) }

theorem judged_eq (level : Nat) : ((k.offered mode e).drifted e.mean level).failed e.passed = k.judged mode e level := by
  rw [offered_eq]
  unfold CheckState.drifted CheckState.failed CheckState.judged
  by_cases drifts : level < e.mean <;> simp [drifts]

theorem offered_raisesDrift (mean level : Nat) : (k.offered mode e).raisesDrift mean level = k.raisesDrift mean level := by
  rw [offered_eq]
  rfl

end

end Sys2Proof.Machine

/-! The steps of a judged strip: correction, history, fail run, suspension (R126, R133, R134, R140, R142). -/

namespace Sys2Proof.Machine

theorem colour_mask : Category.colour.mask = 8#8 := by decide

section
variable {s : State} {g : Fin 24} {x : GainSet} {patches : BitVec 16} {readings : Vector Reading 16}
  {reference : Vector Lab 16}

/-! ### The correction (R140, R142) -/

theorem correctGains_some (h : s.colour.gainSets[g] = some x) : s.correctGains g patches readings reference =
    (s.setGainSet g (x.corrected patches readings reference)).raiseIf
      (x.correctionBites patches readings reference) .colour := by
  unfold State.correctGains
  rw [h]

theorem correctGains_colour (h : s.colour.gainSets[g] = some x) : (s.correctGains g patches readings reference).colour =
    { s.colour with gainSets := s.colour.gainSets.set g (some (x.corrected patches readings reference)) } := by
  rw [correctGains_some h, ← setGainSet_colour]
  exact (keeps_raiseIf _ _ _).at .colour

theorem correctGains_marks (h : s.colour.gainSets[g] = some x) :
    Marks (decide (x.corrected patches readings reference ≠ x)) s (s.correctGains g patches readings reference) := by
  rw [correctGains_some h]
  exact (marks_setGainSet h _).then (keeps_raiseIf _ _ _)

theorem raiseIf_noted {b : Bool} (h : b = true) (s : State) (c : Category) :
    (s.raiseIf b c).notices.pending &&& c.mask = c.mask := by
  rw [raiseIf_pending, if_pos h]
  exact raised_bit _ _

theorem correctGains_noted (h : s.colour.gainSets[g] = some x) (bites : ∃ c, x.bites patches readings reference c = true) :
    (s.correctGains g patches readings reference).notices.pending &&& 8#8 = 8#8 := by
  rw [correctGains_some h, ← colour_mask]
  exact raiseIf_noted ((correctionBites_iff x patches readings reference).2 bites) _ _

/-! ### History and drift (R127, R128, R131) -/

theorem setCheck_colour (s : State) (g : Fin 24) (k : CheckState) :
    (s.setCheck g k).colour = { s.colour with checks := s.colour.checks.set g k } := rfl

theorem recordStrip_colour (s : State) (g : Fin 24) (e : HistoryEntry) (level : Nat) : (s.recordStrip g e level).colour =
    { s.colour with
      checks := s.colour.checks.set g (((s.colour.checks[g]).offered (s.captureMode g) e).drifted e.mean level) } :=
  (keeps_raiseIf _ _ _).at .colour

theorem recordStrip_noted {e : HistoryEntry} {level : Nat} (drifts : (s.colour.checks[g]).raisesDrift e.mean level = true) :
    (s.recordStrip g e level).notices.pending &&& 8#8 = 8#8 := by
  rw [← colour_mask]
  exact raiseIf_noted drifts _ _

/-! ### The fail run (R132 to R134) -/

/-- The gain set is suspended with this fail run. -/
def GainSet.suspendsAt (x : GainSet) (run : Nat) : Bool := decide (2 ≤ run) && !x.suspended

theorem suspendIfDue_some (h : s.colour.gainSets[g] = some x) : s.suspendIfDue g =
    if x.suspendsAt (s.colour.checks[g]).failRun then
      ((s.setGainSet g { x with suspended := true }).raise .colour).reevaluate
    else s := by
  unfold State.suspendIfDue GainSet.suspendsAt
  rw [h]
  exact if_congr (by simp) rfl rfl

theorem set_self_gainSet (h : s.colour.gainSets[g] = some x) : s.colour.gainSets.set g (some x) = s.colour.gainSets := by
  rw [← h]
  simp

theorem suspendIfDue_colour (h : s.colour.gainSets[g] = some x) : (s.suspendIfDue g).colour =
    { s.colour with gainSets := s.colour.gainSets.set g (some
        { x with suspended := x.suspended || x.suspendsAt (s.colour.checks[g]).failRun }) } := by
  rw [suspendIfDue_some h]
  split
  · next suspends =>
    rw [suspends, Bool.or_true, ← setGainSet_colour]
    exact ((keeps_reevaluate _).at .colour).trans ((keeps_raise _ _).at .colour)
  · next runs =>
    rw [Bool.not_eq_true] at runs
    rw [runs, Bool.or_false]
    have same : s.colour.gainSets.set g (some { x with suspended := x.suspended }) = s.colour.gainSets := set_self_gainSet h
    rw [same]

theorem suspendIfDue_marks (h : s.colour.gainSets[g] = some x) :
    Marks (x.suspendsAt (s.colour.checks[g]).failRun) s (s.suspendIfDue g) := by
  rw [suspendIfDue_some h]
  split
  · next suspends =>
    have runs : x.suspended = false := by
      simp only [GainSet.suspendsAt, Bool.and_eq_true, Bool.not_eq_true'] at suspends
      exact suspends.2
    refine (((marks_setGainSet h _).then (keeps_raise _ _)).then (keeps_reevaluate _)).congr ?_
    rw [suspends]
    exact decide_eq_true fun same => by
      have flag := congrArg GainSet.suspended same
      rw [runs] at flag
      cases flag
  · next runs =>
    rw [Bool.not_eq_true] at runs
    rw [runs]
    exact Marks.of_store_eq rfl

theorem suspendIfDue_noted (h : s.colour.gainSets[g] = some x) (suspends : x.suspendsAt (s.colour.checks[g]).failRun = true) :
    (s.suspendIfDue g).notices.pending &&& 8#8 = 8#8 := by
  rw [suspendIfDue_some h, if_pos suspends, ← colour_mask]
  refine (link_reevaluate _).stays ?_
  rw [raise_pending]
  exact raised_bit _ _

/-- The channels after a strip has asked for cleaning (R110, R133). -/
def InkUnit.requested (ink : InkUnit) (levels : Vector Nat 12) : InkUnit :=
  { ink with channels := Vector.ofFn fun c =>
      { ink.channels[c] with cleaning := max ink.channels[c].cleaning levels[c] } }

/-- The fail run counted, before the suspension. -/
def State.runCounted (s : State) (g : Fin 24) (v : VerdictSettings) (readings : Vector Reading 16)
    (reference : Vector Lab 16) (passed : Bool) : State :=
  let u := s.setCheck g ((s.colour.checks[g]).failed passed)
  if passed then u
  else u.requestCleanings (failCleanings v readings reference ((s.colour.checks[g]).failed passed).failRun)

variable {v : VerdictSettings} {passed : Bool}

theorem runCounted_check (s : State) (g : Fin 24) (k : CheckState) : (s.setCheck g k).colour.checks[g] = k :=
  Vector.getElem_set_self _

/-- A PASS has no fail run to suspend a set on. -/
theorem countFailure_eq (s : State) (g : Fin 24) (v : VerdictSettings) (readings : Vector Reading 16)
    (reference : Vector Lab 16) (passed : Bool) : s.countFailure g v readings reference passed =
    if passed then s.runCounted g v readings reference passed else
      (s.runCounted g v readings reference passed).suspendIfDue g := by
  unfold State.countFailure State.runCounted
  cases passed with
  | true => rfl
  | false =>
    simp only [runCounted_check, Bool.false_eq_true, if_false]

theorem runCounted_colour : (s.runCounted g v readings reference passed).colour =
    { s.colour with checks := s.colour.checks.set g ((s.colour.checks[g]).failed passed) } := by
  unfold State.runCounted
  cases passed <;> rfl

theorem keeps_runCounted : Keeps [.colour, .ink] s (s.runCounted g v readings reference passed) :=
  keeps_ite _ (keeps_setCheck _ _ _).mono ((keeps_setCheck _ _ _).mono.then (keeps_requestCleanings _ _))

theorem runCounted_ink : (s.runCounted g v readings reference passed).ink =
    if passed then s.ink
    else s.ink.requested (failCleanings v readings reference ((s.colour.checks[g]).failed passed).failRun) := by
  unfold State.runCounted
  cases passed <;> rfl

/-- What the fail run of a strip leaves. -/
theorem countFailure_some (h : s.colour.gainSets[g] = some x) : let u := s.countFailure g v readings reference passed
    let run := ((s.colour.checks[g]).failed passed).failRun
    u.colour = { s.colour with
        gainSets := s.colour.gainSets.set g (some { x with suspended := x.suspended || x.suspendsAt run }),
        checks := s.colour.checks.set g ((s.colour.checks[g]).failed passed) } ∧
      Marks (x.suspendsAt run) s u ∧ (x.suspendsAt run = true → u.notices.pending &&& 8#8 = 8#8) := by
  have keeps : Keeps [.colour, .ink] s (s.runCounted g v readings reference passed) := keeps_runCounted
  have colour := runCounted_colour (s := s) (g := g) (v := v) (readings := readings) (reference := reference)
    (passed := passed)
  have inUse : (s.runCounted g v readings reference passed).colour.gainSets[g] = some x := by
    rw [colour]
    exact h
  have check : (s.runCounted g v readings reference passed).colour.checks[g] = (s.colour.checks[g]).failed passed := by
    rw [colour]
    exact Vector.getElem_set_self _
  rw [countFailure_eq]
  generalize s.runCounted g v readings reference passed = w at keeps colour inUse check
  cases passed with
  | true =>
    have runs : x.suspendsAt ((s.colour.checks[g]).failed true).failRun = false := by
      simp [GainSet.suspendsAt, CheckState.failed]
    dsimp only
    rw [if_pos rfl, runs]
    refine ⟨?_, Marks.of_keeps keeps, fun h => by cases h⟩
    rw [colour, Bool.or_false]
    have same : s.colour.gainSets.set g (some { x with suspended := x.suspended }) = s.colour.gainSets := set_self_gainSet h
    rw [same]
  | false =>
    have colour' := suspendIfDue_colour inUse
    have marks := suspendIfDue_marks inUse
    have noted := suspendIfDue_noted inUse
    rw [check] at colour' marks noted
    dsimp only
    rw [if_neg Bool.false_ne_true]
    refine ⟨?_, Marks.after keeps marks, noted⟩
    rw [colour', colour]

end

end Sys2Proof.Machine

/-! A judged strip as a whole: the orders that follow it and what it leaves (R17, R126). -/

namespace Sys2Proof.Machine

section
variable {s t u v w x : State} {a : Attempt}

/-! ### The orders behind a judged strip (R17, R134) -/

/-- An operation on the colour check unit, or on cleaning levels, that suspends nothing. -/
theorem follows_unsuspended {l : List Block} (keeps : Keeps l s u) (still : Still s u) (link : LinkKept s u)
    (media : Block.media ∉ l := by decide) (editions : Block.editions ∉ l := by decide)
    (orders : Block.orders ∉ l := by decide) : Follows (fun _ => True) s.orders s u :=
  .of_still (.of_keeps keeps media editions) still (keeps.at .orders orders) link link.onlyRaised

theorem still_of_gainSets {l : List Block} (keeps : Keeps l s u)
    (supply : ∀ c : Fin 12, u.ink.channels[c].supply = s.ink.channels[c].supply)
    (suspended : ∀ g : Fin 24, u.colour.gainSets[g].map (·.suspended) = s.colour.gainSets[g].map (·.suspended))
    (media : Block.media ∉ l := by decide) : Still s u :=
  ⟨congrArg (·.roll.position) (keeps.at .media media), supply, suspended⟩

/-- A gain set written over one that is suspended alike. -/
theorem set_suspended {sets : Vector (Option GainSet) 24} {g : Fin 24} {x y : GainSet} (h : sets[g] = some x)
    (same : y.suspended = x.suspended) (i : Fin 24) : (sets.set g (some y))[i].map (·.suspended) = sets[i].map (·.suspended) := by
  by_cases here : i = g
  · subst here
    simp only [Fin.getElem_fin, Vector.getElem_set_self] at h ⊢
    rw [h]
    exact congrArg some same
  · have apart := Fin.val_ne_of_ne (Ne.symm here)
    simp [Vector.getElem_set_ne, apart]

theorem still_correctGains (s : State) (g : Fin 24) (patches : BitVec 16) (readings : Vector Reading 16)
    (reference : Vector Lab 16) : Still s (s.correctGains g patches readings reference) := by
  have keeps := keeps_correctGains s g patches readings reference
  refine still_of_gainSets keeps (fun c => by rw [keeps.at .ink]) fun i => ?_
  cases h : s.colour.gainSets[g] with
  | none =>
    have same : s.correctGains g patches readings reference = s := by
      unfold State.correctGains
      rw [h]
    rw [same]
  | some x =>
    rw [correctGains_colour h]
    exact set_suspended h (corrected_suspended x patches readings reference) i

theorem still_recordStrip (s : State) (g : Fin 24) (e : HistoryEntry) (level : Nat) : Still s (s.recordStrip g e level) := by
  have keeps := keeps_recordStrip s g e level
  exact still_of_gainSets keeps (fun c => by rw [keeps.at .ink]) fun i => by rw [recordStrip_colour]

theorem requested_supply (ink : InkUnit) (levels : Vector Nat 12) (c : Fin 12) :
    (ink.requested levels).channels[c].supply = ink.channels[c].supply := by
  simp [InkUnit.requested]

theorem still_runCounted (s : State) (g : Fin 24) (v : VerdictSettings) (readings : Vector Reading 16)
    (reference : Vector Lab 16) (passed : Bool) : Still s (s.runCounted g v readings reference passed) := by
  refine still_of_gainSets keeps_runCounted (fun c => ?_) fun i => ?_
  · rw [runCounted_ink]
    split
    · rfl
    · exact requested_supply _ _ c
  · rw [runCounted_colour]

theorem link_runCounted (s : State) (g : Fin 24) (v : VerdictSettings) (readings : Vector Reading 16)
    (reference : Vector Lab 16) (passed : Bool) : LinkKept s (s.runCounted g v readings reference passed) :=
  link_ite _ (link_setCheck _ _ _) ((link_setCheck _ _ _).trans (link_requestCleanings _ _))

/-- A suspension re-evaluates the orders. -/
theorem follows_suspendIfDue (s : State) (g : Fin 24) : Follows (fun _ => True) s.orders s (s.suspendIfDue g) := by
  have unmoved : Follows (fun _ => True) s.orders s s := follows_unsuspended (Keeps.refl [] s) (.of_keeps (Keeps.refl [] s)) (.refl s)
  cases h : s.colour.gainSets[g] with
  | none =>
    have same : s.suspendIfDue g = s := by
      unfold State.suspendIfDue
      rw [h]
    rw [same]
    exact unmoved
  | some x =>
    rw [suspendIfDue_some h]
    split
    · next suspends =>
      have runs : x.suspended = false := by
        simp only [GainSet.suspendsAt, Bool.and_eq_true, Bool.not_eq_true'] at suspends
        exact suspends.2
      have keeps : Keeps [.colour, .store, .notices, .server] s ((s.setGainSet g { x with suspended := true }).raise .colour) :=
        (keeps_setGainSet s g _).mono.then (keeps_raise _ _)
      have link := (link_setGainSet s g { x with suspended := true }).trans (link_raise _ .colour)
      refine .of_reevaluate (.of_keeps keeps) (keeps.at .orders) link (.inr (.inr ⟨g, ?_⟩)) (fun ⟨c, moved⟩ => ?_)
        (link.onlyRaised.mono fun _ _ => .inr trivial)
      · rw [show ((s.setGainSet g { x with suspended := true }).raise .colour).colour = _ from
          ((keeps_raise _ _).at .colour).trans (setGainSet_colour s g _), h]
        simp [runs]
      · rw [keeps.at .ink] at moved
        exact absurd rfl moved
    · exact unmoved

theorem follows_countFailure (s : State) (g : Fin 24) (v : VerdictSettings) (readings : Vector Reading 16)
    (reference : Vector Lab 16) (passed : Bool) :
    Follows (fun _ => True) s.orders s (s.countFailure g v readings reference passed) := by
  have still := still_runCounted s g v readings reference passed
  have first : Follows (fun _ => True) s.orders s (s.runCounted g v readings reference passed) :=
    follows_unsuspended keeps_runCounted still (link_runCounted s g v readings reference passed)
  rw [countFailure_eq]
  split
  · exact first
  · exact first.trans (follows_suspendIfDue _ g) (.of_still_left still)

theorem countFailure_ink (s : State) (g : Fin 24) (v : VerdictSettings) (readings : Vector Reading 16)
    (reference : Vector Lab 16) (passed : Bool) : (s.countFailure g v readings reference passed).ink =
      if passed then s.ink
      else s.ink.requested (failCleanings v readings reference ((s.colour.checks[g]).failed passed).failRun) := by
  rw [← runCounted_ink, countFailure_eq]
  split
  · rfl
  · exact (keeps_suspendIfDue _ _).at .ink

/-! ### Steps 2 to 5 of R126 -/

/-- The entry of a judged strip (R127). -/
def State.stripEntry (s : State) (a : Attempt) (j : Judgement) : HistoryEntry :=
  { order := a.reference, attempt := a.number, clock := s.orders.clock, passed := j.passed, mean := j.mean, max := j.max,
    worst := j.worst }

/-- A judged strip, up to the figures in its order. -/
def State.stripCounted (s : State) (a : Attempt) (readings : Vector Reading 16) (j : Judgement) : State :=
  ((s.correctGains a.gainSet j.settings.patches readings j.reference).recordStrip a.gainSet (s.stripEntry a j)
    j.settings.driftLevel).countFailure a.gainSet j.settings readings j.reference j.passed

theorem handOnStrip_eq {j : Judgement} (passes : j.figures.passes j.settings = j.passed) (readings : Vector Reading 16) :
    s.handOnStrip a j.settings readings j.reference j.figures =
      (s.stripCounted a readings j).modifyOrder a.slot fun o => { o with lastStrip := some (j.mean, j.max) } := by
  unfold State.handOnStrip State.stripCounted
  rw [passes]
  rfl

theorem keeps_stripCounted (s : State) (a : Attempt) (readings : Vector Reading 16) (j : Judgement) :
    Keeps stripBlocks s (s.stripCounted a readings j) :=
  ((keeps_correctGains _ _ _ _ _).mono.then (keeps_recordStrip _ _ _ _)).then (keeps_countFailure _ _ _ _ _ _)

theorem follows_stripCounted (s : State) (a : Attempt) (readings : Vector Reading 16) (j : Judgement) :
    Follows (fun _ => True) s.orders s (s.stripCounted a readings j) ∧
      ∀ c : Fin 12, (s.stripCounted a readings j).ink.channels[c].supply = s.ink.channels[c].supply := by
  have corrected := still_correctGains s a.gainSet j.settings.patches readings j.reference
  have keeps := keeps_correctGains s a.gainSet j.settings.patches readings j.reference
  have link := link_correctGains s a.gainSet j.settings.patches readings j.reference
  unfold State.stripCounted
  generalize s.correctGains a.gainSet j.settings.patches readings j.reference = t at corrected keeps link
  have recorded := still_recordStrip t a.gainSet (s.stripEntry a j) j.settings.driftLevel
  have keeps' := keeps_recordStrip t a.gainSet (s.stripEntry a j) j.settings.driftLevel
  have link' := link_recordStrip t a.gainSet (s.stripEntry a j) j.settings.driftLevel
  generalize t.recordStrip a.gainSet (s.stripEntry a j) j.settings.driftLevel = u at recorded keeps' link'
  have both : Follows (fun _ => True) s.orders s u :=
    (follows_unsuspended keeps corrected link).trans (follows_unsuspended keeps' recorded link') (.of_still_left corrected)
  have still : Still s u := by
    exact ⟨recorded.position.trans corrected.position, fun c => (recorded.supply c).trans (corrected.supply c),
      fun g => (recorded.suspended g).trans (corrected.suspended g)⟩
  refine ⟨both.trans (follows_countFailure u _ _ _ _ _) (.of_still_left still), fun c => ?_⟩
  rw [countFailure_ink, ← still.supply c]
  split
  · rfl
  · exact requested_supply _ _ c

/-- The gain set, the check state, the levels and the notices of a judged strip. -/
structure StripTaken (s u : State) (a : Attempt) (readings : Vector Reading 16) (j : Judgement) (x y : GainSet) : Prop where
  colour : u.colour = { s.colour with
    gainSets := s.colour.gainSets.set a.gainSet (some y),
    checks := s.colour.checks.set a.gainSet
      ((s.colour.checks[a.gainSet]).judged x.captureMode (s.stripEntry a j) j.settings.driftLevel) }
  ink : u.ink = if j.passed then s.ink else s.ink.requested (failCleanings j.settings readings j.reference
    (min 255 ((s.colour.checks[a.gainSet]).failRun + 1)))
  marks : ∃ b, Marks b s u ∧ (y ≠ x → b = true)
  noted : (∃ c, x.bites j.settings.patches readings j.reference c = true) ∨
    (s.colour.checks[a.gainSet]).raisesDrift j.mean j.settings.driftLevel = true ∨
    x.suspendsAt (if j.passed then 0 else min 255 ((s.colour.checks[a.gainSet]).failRun + 1)) = true →
    u.notices.pending &&& 8#8 = 8#8

/-- The gain set after a judged strip. -/
def GainSet.judged (x : GainSet) (readings : Vector Reading 16) (j : Judgement) (run : Nat) : GainSet :=
  { x.corrected j.settings.patches readings j.reference with suspended := x.suspended || x.suspendsAt run }

theorem stripTaken_stripCounted {x : GainSet} (inUse : s.colour.gainSets[a.gainSet] = some x) (readings : Vector Reading 16)
    (j : Judgement) : StripTaken s (s.stripCounted a readings j) a readings j x (x.judged readings j
      (if j.passed then 0 else min 255 ((s.colour.checks[a.gainSet]).failRun + 1))) := by
  have colour := correctGains_colour (patches := j.settings.patches) (readings := readings) (reference := j.reference) inUse
  have marks := correctGains_marks (patches := j.settings.patches) (readings := readings) (reference := j.reference) inUse
  have noted := correctGains_noted (patches := j.settings.patches) (readings := readings) (reference := j.reference) inUse
  have keeps := keeps_correctGains s a.gainSet j.settings.patches readings j.reference
  have sameMode := corrected_captureMode x j.settings.patches readings j.reference
  have sameFlag := corrected_suspended x j.settings.patches readings j.reference
  unfold State.stripCounted GainSet.judged
  generalize s.correctGains a.gainSet j.settings.patches readings j.reference = t at colour marks noted keeps
  generalize x.corrected j.settings.patches readings j.reference = y at *
  have mode : t.captureMode a.gainSet = x.captureMode := by
    unfold State.captureMode
    rw [colour]
    simp [sameMode]
  have checks : t.colour.checks[a.gainSet] = s.colour.checks[a.gainSet] := by rw [colour]
  have colour' := recordStrip_colour t a.gainSet (s.stripEntry a j) j.settings.driftLevel
  have drifts := recordStrip_noted (s := t) (g := a.gainSet) (e := s.stripEntry a j) (level := j.settings.driftLevel)
  have keeps' := keeps_recordStrip t a.gainSet (s.stripEntry a j) j.settings.driftLevel
  have link' := link_recordStrip t a.gainSet (s.stripEntry a j) j.settings.driftLevel
  rw [mode, checks] at colour'
  rw [checks] at drifts
  generalize t.recordStrip a.gainSet (s.stripEntry a j) j.settings.driftLevel = w at colour' drifts keeps' link'
  have inUse' : w.colour.gainSets[a.gainSet] = some y := by
    rw [colour', colour]
    exact Vector.getElem_set_self _
  have check : (w.colour.checks[a.gainSet]).failed j.passed =
      (s.colour.checks[a.gainSet]).judged x.captureMode (s.stripEntry a j) j.settings.driftLevel := by
    rw [← judged_eq, colour']
    exact congrArg (CheckState.failed · j.passed) (Vector.getElem_set_self _)
  obtain ⟨last, suspends, raised⟩ := countFailure_some (v := j.settings) (readings := readings) (reference := j.reference)
    (passed := j.passed) inUse'
  have ink := countFailure_ink w a.gainSet j.settings readings j.reference j.passed
  have link'' := link_countFailure w a.gainSet j.settings readings j.reference j.passed
  have run : ((s.colour.checks[a.gainSet]).judged x.captureMode (s.stripEntry a j) j.settings.driftLevel).failRun =
      if j.passed then 0 else min 255 ((s.colour.checks[a.gainSet]).failRun + 1) := rfl
  rw [check] at last suspends raised ink
  rw [run] at last suspends raised ink
  generalize w.countFailure a.gainSet j.settings readings j.reference j.passed = u at last suspends raised ink link''
  have flagAt (n : Nat) : y.suspendsAt n = x.suspendsAt n := by simp only [GainSet.suspendsAt, sameFlag]
  rw [flagAt] at last suspends raised
  refine ⟨?_, ?_, ⟨_, (marks.then keeps').trans suspends, fun moved => ?_⟩, ?_⟩
  · rw [last, colour', colour, sameFlag]
    simp only [Vector.set_set]
  · rw [ink, show w.ink = s.ink from (keeps'.at .ink).trans (keeps.at .ink)]
    cases j.passed <;> rfl
  · rw [Bool.or_eq_true, decide_eq_true_eq]
    by_contra neither
    push Not at neither
    obtain ⟨rfl, runs⟩ := neither
    exact moved (by rw [Bool.eq_false_iff.2 runs, Bool.or_false])
  · rintro (bites | drift | suspend)
    · exact link''.stays (link'.stays (noted bites))
    · exact link''.stays (drifts drift)
    · exact raised suspend

end

end Sys2Proof.Machine

/-! STRIP_DONE (O45, O46; R38 to R40, R49, R52, R53, R55, R65, R95, R117, R122 to R134, R140 to R142). -/

namespace Sys2Proof.Machine

section
variable {s t u v w x : State} {a : Attempt} {o : Order} {readings : Vector Reading 16}

/-! ### Figures in an active order (R17, R126) -/

theorem OrdersFollow.then {base : OrderBlock} {l : List Block} (h : OrdersFollow base s w) (keeps : Keeps l w u)
    (link : LinkKept w u) (media : Block.media ∉ l := by decide) (ink : Block.ink ∉ l := by decide)
    (colour : Block.colour ∉ l := by decide) (editions : Block.editions ∉ l := by decide)
    (orders : Block.orders ∉ l := by decide) : OrdersFollow base s u := by
  obtain ⟨follow, stay, supplies⟩ := h
  have same := reevaluatedSlot_still (.of_keeps keeps media editions) (.of_keeps keeps media ink colour)
  have table : u.orders = w.orders := keeps.at .orders orders
  have moved : EligibilityMoved s u ↔ EligibilityMoved s w := by
    unfold EligibilityMoved
    rw [keeps.at .media media, keeps.at .ink ink, keeps.at .colour colour]
  rw [← moved] at follow stay
  refine ⟨fun moves => ?_, fun stays => table.trans (stay stays), fun moves => ?_⟩
  · obtain ⟨record, noted⟩ := follow moves
    simp only [same, table]
    exact ⟨record, fun moves => link.stays (noted moves)⟩
  · rw [keeps.at .ink ink] at moves
    exact link.stays (supplies moves)

/-- An order that is neither QUEUED nor HELD is not re-evaluated. -/
theorem reevaluatedSlot_active (active : o.state = .active) (s : State) :
    s.reevaluatedSlot (some o) = some o ∧ s.movesSlot (some o) = false := by
  simp [State.reevaluatedSlot, State.movesSlot, active, OrderState.waiting]

theorem OrdersFollow.slot {i : Fin 40} (h : OrdersFollow s.orders s w) (slot : s.orders.slots[i] = some o)
    (active : o.state = .active) : w.orders.slots[i] = some o := by
  obtain ⟨follow, stay, -⟩ := h
  by_cases moved : EligibilityMoved s w
  · rw [(follow moved).1]
    simp only [Fin.getElem_fin, Vector.getElem_ofFn] at slot ⊢
    rw [slot]
    exact (reevaluatedSlot_active active w).1
  · rw [stay moved]
    exact slot

/-- A field written in an ACTIVE order once the others have been re-evaluated. -/
theorem OrdersFollow.written {i : Fin 40} {o' : Order} (h : OrdersFollow s.orders s w) (active : o'.state = .active)
    (keeps : Keeps [.orders] w u) (link : LinkKept w u)
    (table : u.orders = { w.orders with slots := w.orders.slots.set i (some o') }) :
    OrdersFollow { s.orders with slots := s.orders.slots.set i (some o') } s u := by
  obtain ⟨follow, stay, supplies⟩ := h
  have same := reevaluatedSlot_still (s := w) (u := u) (.of_keeps keeps) (.of_keeps keeps)
  have moved : EligibilityMoved s u ↔ EligibilityMoved s w := by
    unfold EligibilityMoved
    rw [keeps.at .media, keeps.at .ink, keeps.at .colour]
  refine ⟨fun moves => ?_, fun stays => ?_, fun moves => ?_⟩
  · obtain ⟨record, noted⟩ := follow (moved.1 moves)
    refine ⟨?_, fun ⟨m, moves⟩ => link.stays (noted ⟨m, ?_⟩)⟩
    · rw [table, record]
      refine congrArg (fun slots => ({ s.orders with slots := slots } : OrderBlock)) (Vector.ext fun m hm => ?_)
      simp only [Vector.getElem_ofFn, Fin.getElem_fin, same]
      by_cases here : i.val = m
      · subst here
        rw [Vector.getElem_set_self, Vector.getElem_set_self]
        exact (reevaluatedSlot_active active w).1.symm
      · rw [Vector.getElem_set_ne _ _ here, Vector.getElem_set_ne _ _ here, Vector.getElem_ofFn]
    · rw [(same _).2] at moves
      simp only [Fin.getElem_fin] at moves ⊢
      by_cases here : i.val = m.val
      · simp only [← here, Vector.getElem_set_self] at moves
        rw [(reevaluatedSlot_active active w).2] at moves
        cases moves
      · rwa [Vector.getElem_set_ne _ _ here] at moves
  · rw [table, stay (mt moved.2 stays)]
  · rw [keeps.at .ink] at moves
    exact link.stays (supplies moves)

theorem Forgiven.then {l : List Block} (h : Forgiven s w) (keeps : Keeps l w u) (link : LinkKept w u)
    (engine : Block.engine ∉ l := by decide) : Forgiven s u := by
  obtain ⟨record, noted⟩ := h
  have same : u.engine = w.engine := keeps.at .engine engine
  exact ⟨same.trans record, fun moved => link.stays (noted (same ▸ moved))⟩

/-- The order table with a judgement's figures in the order in slot `i`. -/
def OrderBlock.figured (b : OrderBlock) (i : Fin 40) (o : Order) : Option Judgement → OrderBlock
  | none => b
  | some j => { b with slots := b.slots.set i (some { o with lastStrip := some (j.mean, j.max) }) }

/-! ### Ink, paper and judging together -/

theorem mayMark_movePaper (v : State) (a : Attempt) (cmd : EngineCommand) (q : Nat) : MayMark v (v.movePaper a cmd q).1 := by
  have advance := (marks_advancePosition v q (some a.reference)).mayMark
  have slip := (Marks.of_keeps (keeps_checkSlip (v.advancePosition q (some a.reference)) cmd.lengthMm q (some a.reference))).mayMark
  refine (advance.trans slip).trans (?_ : MayMark _ (State.markUncut _ q))
  unfold State.markUncut
  split
  · exact (Marks.after (keeps_setUncut _ _) (marks_markDirtyIf _ _)).mayMark
  · exact (Marks.of_store_eq rfl).mayMark

/-- The attempt after a STRIP_DONE, before the next phase. -/
def Attempt.stripped (a : Attempt) (f : Fin 12 → Nat) (slip : Bool) (q : Nat) (readings : Vector Reading 16)
    (verdict : Verdict) : Attempt :=
  { (a.inked f).slipped slip with
    ownPulses := min 4294967295 (a.ownPulses + q), readings := some readings, verdict := verdict }

theorem Attempt.stripped_tailPhase (a : Attempt) (f : Fin 12 → Nat) (slip : Bool) (q : Nat) (readings : Vector Reading 16)
    (verdict : Verdict) : (a.stripped f slip q readings verdict).tailPhase = a.tailPhase := by
  unfold Attempt.tailPhase Attempt.dwellPhase
  rfl

theorem Attempt.stripped_phaseOver (phase : a.phase = .strip) (f : Fin 12 → Nat) (slip : Bool) (q : Nat)
    (readings : Vector Reading 16) (verdict : Verdict) : (a.stripped f slip q readings verdict).phaseOver =
      (a.stripped f slip q readings verdict).entering a.tailPhase := by
  have here : (a.stripped f slip q readings verdict).phase = .strip := phase
  have tail : (a.stripped f slip q readings verdict).phaseOver = (a.stripped f slip q readings verdict).enterTail := by
    unfold Attempt.phaseOver
    rw [here]
  rw [tail, Attempt.enterTail_eq, Attempt.stripped_tailPhase]

theorem handedOn_inked (x : State) (a : Attempt) (f : Fin 12 → Nat) (slip : Bool) (judged : Option Judgement) :
    x.handedOn ((a.inked f).slipped slip) readings judged = x.handedOn a readings judged := by
  cases judged <;> rfl

/-- What a STRIP_DONE has drawn and moved when its strip is judged. -/
structure StripReady (s x : State) (a : Attempt) (o : Order) (f : Fin 12 → Nat) (n q : Nat) : Prop where
  printed : Printed s x f true n q a.reference (a.inkedSaturated f && !a.tallySaturated)
  slot : x.orders.slots[a.slot] = some o
  colour : x.colour = s.colour
  editions : x.editions = s.editions
  marks : MayMark s x

theorem attemptStripped_eq (forgives : Forgives s v) (slot : s.orders.slots[a.slot] = some o) (active : o.state = .active)
    (cmd : EngineCommand) (q : Nat) (drops : Vector Drops 12) (phase : a.phase = .strip) :
    ∃ x, StripReady s x a o (s.volume drops) cmd.lengthMm q ∧
      v.attemptStripped a cmd q drops readings = (x.handedOn a readings (s.judgement o readings)).setHolder (.attempt
        ((a.stripped (s.volume drops) (s.isSlip cmd.lengthMm q) q readings (verdictOf (s.judgement o readings))).entering
          a.tailPhase)) := by
  have ink : v.ink = s.ink := forgives.keeps.at .ink
  have media : v.media = s.media := forgives.keeps.at .media
  have inked := inkTaken_drawAll ink (volumes_getElem ink drops)
    (a.inkedSaturated (s.volume drops) && !a.tallySaturated)
  have drew := tallyAndDraw_eq ink a drops
  have draws : MayMark v ((v.raiseIf (a.inkedSaturated (s.volume drops) && !a.tallySaturated) .cost).drawAll (v.volumes drops)) :=
    (Marks.of_keeps (keeps_raiseIf _ _ _)).mayMark.trans (mayMark_drawAll _ _)
  generalize (v.raiseIf (a.inkedSaturated (s.volume drops) && !a.tallySaturated) .cost).drawAll (v.volumes drops) = w
    at inked drew draws
  obtain ⟨moved, slipped⟩ := movePaper_taken w (a.inked (s.volume drops)) cmd q
  have moves := mayMark_movePaper w (a.inked (s.volume drops)) cmd q
  rw [isSlip_congr ((inked.keeps.at .media).trans media)] at slipped
  have printed := printed_of_taken forgives inked moved
  have split : v.attemptStripped a cmd q drops readings =
      (((w.movePaper (a.inked (s.volume drops)) cmd q).1.judgeStrip
        ((a.inked (s.volume drops)).slipped (s.isSlip cmd.lengthMm q)) readings).1).setHolder (.attempt
        (a.stripped (s.volume drops) (s.isSlip cmd.lengthMm q) q readings
          ((w.movePaper (a.inked (s.volume drops)) cmd q).1.judgeStrip
            ((a.inked (s.volume drops)).slipped (s.isSlip cmd.lengthMm q)) readings).2).phaseOver) := by
    unfold State.attemptStripped
    simp only [drew, slipped]
    rfl
  generalize (w.movePaper (a.inked (s.volume drops)) cmd q).1 = x at moved moves printed split
  have here : x.orders.slots[a.slot] = some o := printed.follows.orders.slot slot active
  have colour : x.colour = s.colour := printed.keeps.at .colour
  have editions : x.editions = s.editions := printed.keeps.at .editions
  refine ⟨x, ⟨printed, here, colour, editions, ((Marks.of_keeps forgives.keeps).mayMark.trans draws).trans moves⟩, ?_⟩
  rw [split, judgeStrip_eq (a := (a.inked (s.volume drops)).slipped (s.isSlip cmd.lengthMm q)) here,
    judgement_congr colour editions, handedOn_inked, Attempt.stripped_phaseOver phase]

/-- The judging leaves what is not of the colour check unit, the ink supply and the orders. -/
theorem handed_follows (active : o.state = .active) {f : Fin 12 → Nat} {n q : Nat} (slot : s.orders.slots[a.slot] = some o)
    (ready : StripReady s x a o f n q) :
    Keeps stripBlocks x (x.handedOn a readings (s.judgement o readings)) ∧
      LinkKept x (x.handedOn a readings (s.judgement o readings)) ∧
      OrdersFollow (s.orders.figured a.slot o (s.judgement o readings)) s (x.handedOn a readings (s.judgement o readings)) := by
  obtain ⟨printed, here, colour, editions, -⟩ := ready
  cases judged : s.judgement o readings with
  | none => exact ⟨(Keeps.refl [] x).mono, .refl x, printed.follows.orders⟩
  | some j =>
    have counted := follows_stripCounted x a readings j
    have keeps := keeps_stripCounted x a readings j
    have handed : x.handedOn a readings (some j) = _ := handOnStrip_eq (judgement_passes judged) readings
    rw [handed]
    generalize x.stripCounted a readings j = w at counted keeps handed
    obtain ⟨follows, supply⟩ := counted
    have both : Follows (fun _ => True) s.orders s w := by
      refine printed.follows.trans follows ⟨.inr ?_, fun c => .inr (supply c), fun g => .inl ?_⟩
      · rw [keeps.at .media]
      · rw [colour]
    have slot' : w.orders.slots[a.slot] = some o := both.orders.slot slot active
    have writes := keeps_modifyOrder w a.slot fun o => { o with lastStrip := some (j.mean, j.max) }
    have link := link_modifyOrder w a.slot fun o => { o with lastStrip := some (j.mean, j.max) }
    refine ⟨keeps.mono.then writes, follows.link.trans link, both.orders.written active writes link ?_⟩
    rw [modifyOrder_some slot']
    rfl

/-- Settles O45: ink and paper by `StripReady`, the judging by `judgeStrip_eq`, the orders by `handed_follows`. -/
theorem stripDoneIsJudged : Obligations.StripDoneIsJudged := by
  intro s tag pulses drops raw a o order number margin gains counted holds slot active awaits phase q v readings judged
    base verdict
  have f := forgives_of_counted counted
  have delivers := deliver_attempt ((f.keeps.at .holder).trans holds) (.strip order number margin gains)
  obtain ⟨x, ready, stripped⟩ := attemptStripped_eq (readings := readings) f slot active (.strip order number margin gains) q drops phase
  have reading : readingsOf raw = readings := readingsOf_eq raw
  obtain ⟨keeps, link, orders⟩ := handed_follows (readings := readings) active slot ready
  have idle : judged = none → x.handedOn a readings judged = x := fun h => by rw [h]; rfl
  have bases : base = s.orders.figured a.slot o judged := by
    show (match judged with | none => _ | some j => _) = _
    cases judged <;> rfl
  have verdicts : verdict = verdictOf judged := by
    show (match judged with | none => _ | some j => _) = _
    cases judged <;> rfl
  have saturates {b c : Bool} (set : b = true) (clear : c = false) : (b && !c) = true := by simp [set, clear]
  have tally : a.inkedSaturated v = _ := a.inkedSaturated_eq v
  obtain ⟨printed, -, colour, -, -⟩ := ready
  have holding := keeps_setHolder (x.handedOn a readings judged) (.attempt ((a.stripped v (s.isSlip margin q) q readings
    (verdictOf judged)).entering a.tailPhase))
  have last := link_setHolder (x.handedOn a readings judged) (.attempt ((a.stripped v (s.isSlip margin q) q readings
    (verdictOf judged)).entering a.tailPhase))
  have both : Keeps (.holder :: stripBlocks) x _ := keeps.mono.then holding
  have kept := link.trans last
  refine report_served (r := .stripDone q drops (readingsOf raw)) rfl awaits rfl
    ((delivers _).trans (reading.symm ▸ stripped)) ⟨printed.forgiven.then both kept, ?_, printed.paper.then both kept, ?_,
      fun unverified => ?_, _, rfl, fun set clear => kept.stays (printed.noted (saturates set clear)), ?_⟩
    (printed.keeps.mono.trans both.mono)
  · exact (both.at .uncut).trans printed.uncut
  · rw [bases]
    exact orders.then holding last
  · rw [holding.at .colour, holding.at .ink, idle unverified]
    exact ⟨colour, printed.ink⟩
  · rw [← a.inkedTallies_eq v, ← tally, verdicts]
    rfl

end

end Sys2Proof.Machine

/-! What a judged strip leaves of its gain set, its check state and the cleaning levels (O46; R95, R126 to R134, R140 to
R142). -/

namespace Sys2Proof.Machine

section
variable {s t u v w x : State} {a : Attempt} {o : Order} {readings : Vector Reading 16}

/-! ### Cleaning asked for by a FAIL (R133) -/

/-- The channel's solid is selected, valid and over the tolerance. -/
def solidFails (v : VerdictSettings) (readings : Vector Reading 16) (reference : Vector Lab 16) (c : Fin 12) : Bool :=
  (v.patches[c.val] && readings[solidPatch c].valid) &&
    decide (v.maxTolerance < deltaE readings[solidPatch c].lab reference[solidPatch c])

theorem failCleanings_getElem (v : VerdictSettings) (readings : Vector Reading 16) (reference : Vector Lab 16) (run : Nat)
    (c : Fin 12) : (failCleanings v readings reference run)[c] =
      if solidFails v readings reference c then (if run = 1 then 1 else 2) else 0 := by
  have delta : patchDelta v.patches readings reference ⟨c.val, by omega⟩ =
      if (v.patches[c.val] && readings[solidPatch c].valid) = true then
        some (deltaE readings[solidPatch c].lab reference[solidPatch c]) else none := rfl
  unfold failCleanings solidFails
  rw [Fin.getElem_fin, Vector.getElem_ofFn]
  simp only [delta]
  cases (v.patches[c.val] && readings[solidPatch c].valid) with
  | false => rfl
  | true => simp

/-- A raised level, or the one there is. -/
theorem max_ite_zero (n m : Nat) (b : Bool) : max n (if b then m else 0) = if b then max n m else n := by
  split
  · rfl
  · exact Nat.max_eq_left (Nat.zero_le n)

/-- Settles O46: the colour check unit and the levels by `stripTaken_stripCounted`, over what the report has drawn. -/
theorem judgedStripCorrectsAndRecords : Obligations.JudgedStripCorrectsAndRecords := by
  intro s tag pulses drops raw a o order number margin gains j x counted holds slot active awaits phase judged inUse
    v readings solid measured e moves sum bites k entry taken ring status drifts run suspends x'
  have f := forgives_of_counted counted
  have delivers := deliver_attempt ((f.keeps.at .holder).trans holds) (.strip order number margin gains)
  obtain ⟨z, ready, stripped⟩ := attemptStripped_eq (readings := readings) f slot active (.strip order number margin gains)
    pulses.toNat drops phase
  have reading : readingsOf raw = readings := readingsOf_eq raw
  replace judged : s.judgement o readings = some j := judged
  clear_value readings
  obtain ⟨keeps, link, -⟩ := handed_follows (readings := readings) active slot ready
  obtain ⟨printed, here, colour, -, draws⟩ := ready
  rw [judged] at stripped keeps link
  have strip : StripTaken z (z.stripCounted a readings j) a readings j x _ :=
    stripTaken_stripCounted (by rw [colour]; exact inUse) readings j
  have handed : z.handedOn a readings (some j) = _ := handOnStrip_eq (judgement_passes judged) readings
  have entries : z.stripEntry a j = entry := by
    unfold State.stripEntry
    rw [printed.follows.orders.clock]
  have corrected : x.judged readings j run = x' := by
    unfold GainSet.judged
    rw [corrected_eq]
    rfl
  have writes := keeps_modifyOrder (z.stripCounted a readings j) a.slot fun o => { o with lastStrip := some (j.mean, j.max) }
  have kept := link_modifyOrder (z.stripCounted a readings j) a.slot fun o => { o with lastStrip := some (j.mean, j.max) }
  rw [← handed] at writes kept
  obtain ⟨colour', ink', ⟨b, marks, moved⟩, noted⟩ := strip
  rw [colour] at colour' ink' moved noted
  rw [entries] at colour'
  replace moved : x' ≠ x → b = true := corrected ▸ moved
  obtain ⟨c, marks'⟩ := draws
  generalize z.stripCounted a readings j = y at writes kept colour' ink' marks noted handed
  have holding := keeps_setHolder (z.handedOn a readings (some j)) (.attempt
    ((a.stripped (s.volume drops) (s.isSlip margin pulses.toNat) pulses.toNat readings (verdictOf (some j))).entering a.tailPhase))
  obtain ⟨t, ht, served, marked⟩ := report_marks (c := .stripDone tag pulses drops raw)
    (r := .stripDone pulses.toNat drops (readingsOf raw)) rfl awaits rfl
    ((delivers _).trans (reading.symm ▸ stripped)) (changed := [.engine, .holder, .media, .orders, .uncut, .ink, .colour])
    (P := fun u => u.colour = y.colour ∧ u.ink = y.ink ∧ LinkKept y u)
    ⟨(holding.at .colour).trans (writes.at .colour), (holding.at .ink).trans (writes.at .ink),
      kept.trans (link_setHolder _ _)⟩
    ((printed.keeps.mono.trans keeps.mono).then holding) (((marks'.trans marks).then writes).then holding)
  refine ⟨t, ht, fun changes => marked.marked (by rw [moved changes, Bool.or_true]), served.imp ?_⟩
  rintro u ⟨hc, hi, hl⟩
  refine ⟨hc.trans (colour'.trans ?_), hi.trans (ink'.trans ?_), fun raised => hl.stays (noted
    (raised.imp_right (Or.imp_left fun ⟨drifted, fifth⟩ => Bool.and_eq_true_iff.2 ⟨drifted, decide_eq_true fifth⟩)))⟩
  · rw [← corrected]
    rfl
  · have drawn : s.inkDrawn v = z.ink := printed.ink.symm
    rw [drawn]
    generalize z.ink = ink
    cases passes : j.passed with
    | true =>
      refine congrArg (fun channels => ({ ink with channels := channels } : InkUnit)) (Vector.ext fun i hi => ?_)
      simp
    | false =>
      refine congrArg (fun channels => ({ ink with channels := channels } : InkUnit)) (Vector.ext fun i hi => ?_)
      have fails : run = min 255 (k.failRun + 1) := by
        show (if j.passed then 0 else min 255 (k.failRun + 1)) = _
        rw [passes, if_neg Bool.false_ne_true]
      have level : (failCleanings j.settings readings j.reference (min 255 (k.failRun + 1)))[(⟨i, hi⟩ : Fin 12)] =
          if solidFails j.settings readings j.reference ⟨i, hi⟩ then (if run = 1 then 1 else 2) else 0 :=
        fails ▸ failCleanings_getElem _ _ _ _ _
      rw [Vector.getElem_ofFn, Vector.getElem_ofFn, level, max_ite_zero]
      refine congrArg (fun n => ({ ink.channels[i] with cleaning := n } : Channel)) (if_congr ⟨fun h => ?_, ?_⟩ rfl rfl)
      · obtain ⟨valid, large⟩ := Bool.and_eq_true_iff.1 h
        exact ⟨rfl, valid, of_decide_eq_true large⟩
      · rintro ⟨-, valid, large⟩
        exact Bool.and_eq_true_iff.2 ⟨valid, decide_eq_true large⟩

end

end Sys2Proof.Machine
